-- ==== Sys2Proof/Word.lean ====
section
/-! DEFINITION. The words the part handles as bits: bytes of a telegram, 16-bit table words and loop
addresses, and 32-bit times of the timebase (00_scope.md, sections 4.1 and 4.4). -/

namespace Sys2Proof

/-- One byte of a telegram (R180). -/
abbrev Byte := BitVec 8

/-- A 16-bit word of a configuration table (R170). -/
abbrev Word := BitVec 16

/-- A 16-bit loop address (00_scope.md, section 4.4). -/
abbrev Addr := BitVec 16

/-- A time in ms, read from the wrapping 32-bit timebase (00_scope.md, section 4.1). -/
abbrev Time := BitVec 32

end Sys2Proof
end

