-- ==== Sys2Proof/Syntax.lean ====
section
/-! DEFINITION. The commands of the part: one constructor of `Instr` per row of spec/opcode_table.json,
and the pieces they carry. A command says what happens to the part; its meaning is `Machine.exec`. -/

namespace Sys2Proof

/-- The two loop ports (R154). -/
inductive Port | a | b
  deriving DecidableEq, Repr

/-- The opposite port, out of which a passed copy goes (R158). -/
def Port.other : Port → Port
  | .a => .b
  | .b => .a

/-- A good telegram: header fields and payload of R180. Its length field is the payload's length and its
CRC the one R181 gives, so neither is held. -/
structure Telegram where
  dst : Addr
  src : Addr
  kind : Byte
  payload : List Byte
  deriving DecidableEq, Repr

/-- How a telegram of a known kind came in: the port it arrived on and its two addresses. -/
structure Arrival where
  port : Port
  dst : Addr
  src : Addr
  deriving DecidableEq, Repr

/-- The commands. Those with an `Arrival` are the reception of a good telegram of the row's kind; what
becomes of it is decided by R154 to R161 (log 3). -/
inductive Instr where
  /-- HARDWARE_RESET (R179), with what the twelve strap pins read. -/
  | hardwareReset (strap : BitVec 12)
  /-- DISCARDED_TELEGRAM (R154): a whole frame, as the bytes that came in. -/
  | discardedTelegram (port : Port) (frame : List Byte)
  /-- FILL (R154). -/
  | fill (at_ : Arrival) (payload : List Byte)
  /-- OWN_TELEGRAM_RETURNED (R154): the source is the part's own address. -/
  | ownTelegramReturned (port : Port) (dst : Addr) (kind : Byte) (payload : List Byte)
  /-- PASSED_COPY (R158). -/
  | passedCopy (port : Port) (t : Telegram)
  /-- ROLE_MISMATCH (R159). -/
  | roleMismatch (port : Port) (t : Telegram)
  /-- WHEEL (R20). -/
  | wheel (at_ : Arrival) (payload : List Byte)
  /-- HEARTBEAT (R17). -/
  | heartbeat (at_ : Arrival) (payload : List Byte)
  /-- DETECTOR_SILENCE_EXPIRY (R11). -/
  | detectorSilenceExpiry (detector : Fin 32)
  /-- ENTRY_GAP_EXPIRY (R42), of the record with this tag. -/
  | entryGapExpiry (tag : Byte)
  /-- SCHEDULED_START_EXPIRY (R45), of the record with this tag. -/
  | scheduledStartExpiry (tag : Byte)
  /-- AMBER_EXPIRY (R79). -/
  | amberExpiry
  /-- RED_EXPIRY (R80). -/
  | redExpiry
  /-- EXIT_DELAY_EXPIRY (R83). -/
  | exitDelayExpiry
  /-- LONG_CLOSURE_EXPIRY (R92). -/
  | longClosureExpiry
  /-- LAMP_REPORT (R102). -/
  | lampReport (at_ : Arrival) (payload : List Byte)
  /-- LAMP_MODULE_SILENCE_EXPIRY (R103), by lamp module index. -/
  | lampModuleSilenceExpiry (module_ : Fin 4)
  /-- BARRIER_REPORT (R120). -/
  | barrierReport (at_ : Arrival) (payload : List Byte)
  /-- PROVING_EXPIRY (R122). -/
  | provingExpiry (barrier : Fin 4)
  /-- BARRIER_MODULE_SILENCE_EXPIRY (R124), by barrier module index. -/
  | barrierModuleSilenceExpiry (module_ : Fin 4)
  /-- PRESENCE_MODULE_SILENCE_EXPIRY (R124), by presence module index. -/
  | presenceModuleSilenceExpiry (module_ : Fin 2)
  /-- PRESENCE_REPORT (R125). -/
  | presenceReport (at_ : Arrival) (payload : List Byte)
  /-- EXIT_WAIT_EXPIRY (R128). -/
  | exitWaitExpiry (barrier : Fin 4)
  /-- STATUS_PERIOD_EXPIRY (R146). -/
  | statusPeriodExpiry
  /-- ACKNOWLEDGE (R139). -/
  | acknowledge (at_ : Arrival) (payload : List Byte)
  /-- RESTORE_SWEEP (R23): a RESTORE whose mode is not DIRECT. -/
  | restoreSweep (at_ : Arrival) (payload : List Byte)
  /-- RESTORE_DIRECT (R24): a RESTORE in mode DIRECT. -/
  | restoreDirect (at_ : Arrival) (track section_ : Byte)
  /-- HISTORY_READ (R143). -/
  | historyRead (at_ : Arrival) (payload : List Byte)
  /-- IDENTIFY (R177). -/
  | identify (at_ : Arrival) (payload : List Byte)
  /-- RESTART_KEEP (R178): a RESTART whose mode is not DISCARD. -/
  | restartKeep (at_ : Arrival) (payload : List Byte)
  /-- RESTART_DISCARD (R178): a RESTART in mode DISCARD. -/
  | restartDiscard (at_ : Arrival)
  /-- STAGE_WRITE (R171). -/
  | stageWrite (at_ : Arrival) (payload : List Byte)
  /-- STAGE_READ (R172). -/
  | stageRead (at_ : Arrival) (payload : List Byte)
  /-- ACTIVATE (R174). -/
  | activate (at_ : Arrival) (payload : List Byte)
  /-- ACTIVATE_LOOP (R173). -/
  | activateLoop (at_ : Arrival) (payload : List Byte)
  /-- CONFIRM (R175). -/
  | confirm (at_ : Arrival) (payload : List Byte)
  /-- ACTIVATION_TAKES_EFFECT (R176). -/
  | activationTakesEffect
  /-- PORT_SILENCE_EXPIRY (R155). -/
  | portSilenceExpiry (port : Port)
  /-- IDLE_EXPIRY (R156). -/
  | idleExpiry (port : Port)
  /-- TRANSMISSION_COMPLETE (R156). -/
  | transmissionComplete (port : Port)
  /-- REFRESH_EXPIRY (R165). -/
  | refreshExpiry
  deriving DecidableEq, Repr

end Sys2Proof
end

