-- ==== Sys2Proof/Decode.lean ====
section
/-! DEFINITION. The command a word of the command table spells. No row of spec/opcode_table.json gives bits, so no
word spells one (log 14). A telegram's own bytes are read by `Machine.parseFrame`. -/

namespace Sys2Proof

/-- The command the word `w` of `nbits` bits spells: none, for every word. -/
def decodeTableWord (_nbits _w : Nat) : Option Instr := none

end Sys2Proof
end

