-- ==== Sys2Proof/Config.lean ====
section
/-! DEFINITION. What the manual leaves open as a value: the source of free values. It has no body, so
nothing can be proved of the value it gives. -/

namespace Sys2Proof

/-- The n-th free word. The step applies it to `State.freeCounter` and advances the counter; used where
the manual gives a reply field no value (log 10). -/
opaque Config.freeWord : Nat → Word

end Sys2Proof
end

