-- ==== Sys2Proof/Machine/Blocks.lean ====
section
/-! DEFINITION. The plain data each block of the part owns (00_scope.md, section 3): the records of State
and the names they use. Values and widths are those of the rules each docstring cites. -/

namespace Sys2Proof.Machine

/-- Direction of travel (00_scope.md, section 4.2). -/
inductive Direction | up | down
  deriving DecidableEq, Repr

/-- Section states (R6). -/
inductive SectionState | clear | occupied | disturbed | prepared
  deriving DecidableEq, Repr

/-- Why a detector is FAILED (R10). -/
inductive DetectorCause | silent | headFault
  deriving DecidableEq, Repr

/-- Detector states (R10); the cause is present in FAILED alone. -/
inductive DetectorState | unknown | ok | failed (cause : DetectorCause)
  deriving DecidableEq, Repr

/-- The detector state record of one detector in use (R10). -/
structure DetectorRecord where
  state : DetectorState
  lastSeq : Option Byte
  silence : Option Time
  deriving DecidableEq, Repr

/-- One section of the section table (R3, R6). -/
structure TrackSection where
  track : Nat
  number : Nat
  balance : Nat
  state : SectionState
  deriving DecidableEq, Repr

/-- The axle counter: 32 optional detector records in detector table order, and the section table. -/
structure AxleCounter where
  detectors : List (Option DetectorRecord)
  sections : List TrackSection
  deriving DecidableEq, Repr

/-- Train record states (R29). -/
inductive RecordState | approaching | warned | inIsland
  deriving DecidableEq, Repr

/-- A train record (R29), with the achieved warning held beside it (R68). `approach` is the approach
index of R28; `passed` holds one count per path index. -/
structure TrainRecord where
  tag : Byte
  approach : Nat
  state : RecordState
  entryOpen : Bool
  lastEntry : Time
  passed : List Nat
  peak : Nat
  headDetector : Nat
  headTime : Time
  entrySpeed : Option Nat
  lastSpeed : Option Nat
  scheduledStart : Option Time
  warnedAt : Option Time
  islandEntry : Option Time
  achieved : Option Nat
  merged : Bool
  overspeed : Bool
  short : Bool
  receding : Bool
  deriving DecidableEq, Repr

/-- The train tracker: the pool in order of creation, the next tag (R30), one overflow flag per approach
index (R35). -/
structure Tracker where
  records : List TrainRecord
  nextTag : Byte
  overflow : List Bool
  deriving DecidableEq, Repr

/-- Sequencer states (R72). -/
inductive SeqState
  | initSafe | opened | amber | redFlash | entryLowering | exitLowering | closed | raising
  deriving DecidableEq, Repr

/-- The sequencer's record (R72). -/
structure Sequencer where
  state : SeqState
  onset : Option Time
  amber : Option Time
  red : Option Time
  exitDelay : Option Time
  exitStarted : Bool
  longClosure : Option Time
  prolonged : Bool
  deriving DecidableEq, Repr

/-- Lamp proof states (R106). -/
inductive LampProof | unproved | proved | failed
  deriving DecidableEq, Repr

/-- The record of one lamp in use (R106). -/
structure LampRecord where
  state : LampProof
  badLit : Nat
  goodLit : Nat
  stuckOn : Bool
  stuckRun : Nat
  goodDark : Nat
  deriving DecidableEq, Repr

/-- Module supervision states (R103, R124). -/
inductive Supervision | unknown | ok | silent
  deriving DecidableEq, Repr

/-- The record of one lamp module: supervision and silence expiry (R103), red report count (R112). -/
structure LampModule where
  supervision : Supervision
  silence : Option Time
  redCount : Nat
  deriving DecidableEq, Repr

/-- The lamp supervisor: 16 optional lamp records, and the lamp modules by lamp module index. -/
structure LampSupervisor where
  lamps : List (Option LampRecord)
  modules : List LampModule
  deriving DecidableEq, Repr

/-- Barrier states (R118). -/
inductive BarrierState | unproved | provedDown | provedUp | notProved
  deriving DecidableEq, Repr

/-- Barrier commands (R118). -/
inductive BarrierCommand | raise | lower
  deriving DecidableEq, Repr

/-- Why a barrier is NOT_PROVED (R118). -/
inductive BarrierCause | expired | fault | silent | lost
  deriving DecidableEq, Repr

/-- Reported barrier positions (R118). -/
inductive BarrierPosition | up | moving | down | fault
  deriving DecidableEq, Repr

/-- A barrier record (R118). -/
structure BarrierRecord where
  state : BarrierState
  commanded : BarrierCommand
  proving : Bool
  provingExpiry : Option Time
  cause : Option BarrierCause
  lastPosition : Option BarrierPosition
  held : Bool
  exitWait : Option Time
  deriving DecidableEq, Repr

/-- A barrier module's supervision (R124). -/
structure BarrierModule where
  supervision : Supervision
  silence : Option Time
  deriving DecidableEq, Repr

/-- Presence as reported and as taken (R125). -/
inductive Presence | present | absent
  deriving DecidableEq, Repr

/-- A presence module: supervision (R124) and taken state (R125). -/
structure PresenceModule where
  supervision : Supervision
  silence : Option Time
  taken : Presence
  deriving DecidableEq, Repr

/-- The barrier supervisor; `proved` is CROSSING_PROVED and the level of the PROVED line (R129). -/
structure BarrierSupervisor where
  barriers : List (Option BarrierRecord)
  modules : List BarrierModule
  presence : List PresenceModule
  proved : Bool
  deriving DecidableEq, Repr

/-- Commanded lamp modes (R100). -/
inductive LampMode | off | steady | flash
  deriving DecidableEq, Repr

/-- Flash phases (R98). -/
inductive FlashPhase | a | b
  deriving DecidableEq, Repr

/-- Content of a command slot (R164): mode and phase per channel (R101), or a barrier command (R119). -/
inductive SlotContent
  | lamp (channels : List (LampMode × FlashPhase))
  | barrier (command : BarrierCommand)
  deriving DecidableEq, Repr

/-- A command slot (R164), with the field module index of its module. -/
structure Slot where
  module : Nat
  addr : Addr
  port : Port
  content : SlotContent
  deriving DecidableEq, Repr

/-- The command block unit: slots by slot index, refresh expiry (R164, R165). -/
structure CommandBlock where
  slots : List Slot
  refresh : Option Time
  deriving DecidableEq, Repr

/-- The 24 fault classes (R133). -/
inductive FaultClass
  | detectorSilent | detectorHeadFault | wheelLoss | countUnderflow | countOverflow | unexpectedWheel
  | trainTableFull | shortWarning | longWarning | overspeed | prolongedClosure | redLampFailed
  | roadLightsFailed | amberLampFailed | lampStuckOn | lampModuleSilent | barrierNotDown | barrierNotUp
  | barrierModuleSilent | crossingObstructed | presenceModuleSilent | portDown | commandOverrun | notice
  deriving DecidableEq, Repr

/-- A history record (R141). -/
structure FaultRecord where
  number : Word
  time : Time
  cls : FaultClass
  subject : Byte
  detail : Word
  deriving DecidableEq, Repr

/-- The fault unit: flags as sets of classes (class n at bit n), history oldest first, next record
number, indication groups (group g at bit g), status period expiry (R135, R137, R141, R142, R146). -/
structure FaultUnit where
  active : BitVec 24
  latched : BitVec 24
  history : List FaultRecord
  nextRecord : Word
  groups : BitVec 4
  statusExpiry : Option Time
  deriving DecidableEq, Repr

/-- Link states (R155). -/
inductive Link | down | up
  deriving DecidableEq, Repr

/-- A telegram in an outbound queue: its joining time (R162) and, for a command telegram, its slot
index (R165). -/
structure QueueEntry where
  tel : Telegram
  joined : Time
  slot : Option Nat
  deriving DecidableEq, Repr

/-- The four outbound class queues (R162), in the arbiter's order of preference (R163). -/
inductive QueueClass | command | status | reply | forward
  deriving DecidableEq, Repr

/-- A loop port (R155, R156, R162). `silenceWith` is the T_silence the silence expiry was set with. -/
structure PortState where
  link : Link
  silence : Option Time
  silenceWith : Word
  idle : Option Time
  transmitter : Option Telegram
  command : List QueueEntry
  status : List QueueEntry
  reply : List QueueEntry
  forward : List QueueEntry
  deriving DecidableEq, Repr

/-- The window unit: active loop table and stranger list (R157, R160). -/
structure WindowUnit where
  loopTable : List Word
  strangers : List Addr
  deriving DecidableEq, Repr

/-- The five tables (R170). -/
inductive TableId | loop | detector | approach | equipment | crossing
  deriving DecidableEq, Repr

/-- A staged table and its two indices (R170). -/
structure StagedTable where
  words : List Word
  writeIndex : Nat
  readIndex : Nat
  deriving DecidableEq, Repr

/-- The five staged tables (R170). -/
structure StagedTables where
  loop : StagedTable
  detector : StagedTable
  approach : StagedTable
  equipment : StagedTable
  crossing : StagedTable
  deriving DecidableEq, Repr

/-- The active safety set (R170); all zero words while none is active. -/
structure SafetyTables where
  detector : List Word
  approach : List Word
  equipment : List Word
  crossing : List Word
  deriving DecidableEq, Repr

/-- Activation states (R175). -/
inductive Activation | idle | awaitConfirm | awaitQuiescent
  deriving DecidableEq, Repr

/-- The configuration unit (R170, R174, R175, R176, R179). `pendingSet` is the pending identity and CRC. -/
structure ConfigUnit where
  staged : StagedTables
  tables : SafetyTables
  activation : Activation
  pendingSet : Option (Word × Word)
  activeIdentity : Word
  activeCrc : Word
  strapBase : Addr
  deriving DecidableEq, Repr

end Sys2Proof.Machine
end

