-- ==== Sys2Proof/Machine/Frame.lean ====
section
/-! DEFINITION. Bytes, frames and CRCs (R154, R170, R180, R181): fields high-order byte first, the CRC-16 of
R181, the frame of a telegram and what a port makes of the bytes of a frame. -/

namespace Sys2Proof.Machine

/-- The high-order byte of a word (R181). -/
def hiByte (w : Word) : Byte := w.extractLsb' 8 8

/-- The low-order byte of a word. -/
def loByte (w : Word) : Byte := w.extractLsb' 0 8

/-- A word from two bytes, high-order first (R181). -/
def wordOf (hi lo : Byte) : Word := hi ++ lo

/-- A two-byte field, high-order byte first (R181). -/
def bytes2 (w : Word) : List Byte := [hiByte w, loByte w]

/-- A four-byte field, high-order byte first (R181). -/
def bytes4 (t : BitVec 32) : List Byte :=
  [t.extractLsb' 24 8, t.extractLsb' 16 8, t.extractLsb' 8 8, t.extractLsb' 0 8]

/-- Byte `i` of a payload. -/
def byteAt (l : List Byte) (i : Nat) : Byte := l.getD i 0

/-- The two-byte field at byte `i` of a payload. -/
def wordAt (l : List Byte) (i : Nat) : Word := wordOf (byteAt l i) (byteAt l (i + 1))

/-- One bit of the CRC register's division by x^16 + x^12 + x^5 + 1 (R181). -/
def crcBit (c : Word) : Word :=
  if c.msb then (c <<< 1) ^^^ 0x1021#16 else c <<< 1

/-- One byte taken into the CRC register, most significant bit first (R181). -/
def crcByte (c : Word) (b : Byte) : Word :=
  crcBit (crcBit (crcBit (crcBit (crcBit (crcBit (crcBit (crcBit (c ^^^ (b ++ 0#8)))))))))

/-- The CRC-16 of a run of bytes: initial value all ones, no final inversion (R181). -/
def crc16 (l : List Byte) : Word := l.foldl crcByte 0xFFFF#16

/-- The bytes of a run of table words, each high-order byte first (R170). -/
def tableBytes (l : List Word) : List Byte := l.flatMap bytes2

/-- The table CRC of R170. -/
def tableCrc (l : List Word) : Word := crc16 (tableBytes l)

/-- Longest payload a frame may carry (R180). -/
def maxPayload : Nat := 48

/-- Header and payload bytes of a telegram (R180). -/
def frameBody (t : Telegram) : List Byte :=
  bytes2 t.dst ++ bytes2 t.src ++ [t.kind, BitVec.ofNat 8 t.payload.length] ++ t.payload

/-- The whole frame of a telegram, its CRC last (R180, R181). -/
def frameBytes (t : Telegram) : List Byte := frameBody t ++ bytes2 (crc16 (frameBody t))

/-- What a port makes of the bytes of a whole frame (R154): none when the length field exceeds 48, the
number of bytes differs from what it gives, or the CRC differs. -/
def parseFrame (l : List Byte) : Option Telegram :=
  let n := (byteAt l 5).toNat
  if maxPayload < n ∨ l.length ≠ n + 8 ∨ crc16 (l.take (n + 6)) ≠ wordAt l (n + 6) then none
  else some { dst := wordAt l 0, src := wordAt l 2, kind := byteAt l 4,
              payload := (l.drop 6).take n }

end Sys2Proof.Machine
end

