-- ==== Sys2Proof/Machine/ResetValues.lean ====
section
/-! DEFINITION. What each block holds right after a hardware reset, block by block. -/

namespace Sys2Proof.Machine

/-- Flags word of a strap window: enabled, CONSUME, and the role code (R179, layout of R187). -/
def strapFlags (role : Nat) : Word := BitVec.ofNat 16 (1 + 1 * 2 + role * 16)

/-- The strap base: the strap pins read as a number, times 16 (R179). -/
def strapBaseOf (strap : BitVec 12) : Addr := BitVec.ofNat 16 (strap.toNat * 16)

/-- The active loop table after hardware reset (R179): three enabled windows, own address, T_silence
1000, T_age 100, base priorities 0, 2, 4, 6, signaller port A, every other word 0. -/
def strapLoopTable (strap : BitVec 12) : List Word :=
  let base := strapBaseOf strap
  [strapFlags 1, base, 0xFFFF, 0, strapFlags 2, base + 1, 0xFFFF, 0, strapFlags 3, base + 2, 0xFFFF, 0]
    ++ List.replicate 20 0 ++ [base, 1000, 100, 0x6420, 1]

/-- A port after hardware reset, at time 0 with T_silence 1000 (R168, R179). -/
def portReset : PortState :=
  { link := .down, silence := none, silenceWith := 0, idle := some 250, transmitter := none,
    command := [], status := [], reply := [], forward := [] }

/-- The window unit after hardware reset (R160, R179). -/
def windowReset (strap : BitVec 12) : WindowUnit :=
  { loopTable := strapLoopTable strap, strangers := [] }

/-- The axle counter with no detector table active (R26). -/
def axleEmpty : AxleCounter := { detectors := List.replicate 32 none, sections := [] }

/-- The train tracker after hardware reset (R50). -/
def trackerReset : Tracker := { records := [], nextTag := 1, overflow := List.replicate 8 false }

/-- The sequencer in INIT_SAFE with nothing set (R93, R94). -/
def seqInitSafe : Sequencer :=
  { state := .initSafe, onset := none, amber := none, red := none, exitDelay := none,
    exitStarted := false, longClosure := none, prolonged := false }

/-- The lamp supervisor with no equipment table active (R115). -/
def lampEmpty : LampSupervisor := { lamps := List.replicate 16 none, modules := [] }

/-- The barrier supervisor with no equipment table active (R131). -/
def barrierEmpty : BarrierSupervisor :=
  { barriers := List.replicate 4 none, modules := [], presence := [], proved := false }

/-- The command block unit with no equipment table active (R164, R169). -/
def commandsEmpty : CommandBlock := { slots := [], refresh := none }

/-- The history record of PORT_DOWN that hardware reset captures (R151, R168). -/
def resetRecord : FaultRecord :=
  { number := 0, time := 0, cls := .portDown, subject := 0, detail := 0 }

/-- The fault unit after hardware reset: PORT_DOWN active, latched and captured as record 0 (R151). -/
def faultsReset : FaultUnit :=
  { active := 1#24 <<< 21, latched := 1#24 <<< 21, history := [resetRecord], nextRecord := 1,
    groups := 0, statusExpiry := none }

/-- A staged table of `n` zero words with both indices 0 (R179). -/
def stagedZero (n : Nat) : StagedTable :=
  { words := List.replicate n 0, writeIndex := 0, readIndex := 0 }

/-- The staged tables after hardware reset, with the sizes of R170. -/
def stagedReset : StagedTables :=
  { loop := stagedZero 37, detector := stagedZero 192, approach := stagedZero 48,
    equipment := stagedZero 112, crossing := stagedZero 41 }

/-- The empty safety set: every word 0 (R26, R71, R94, R115, R131). -/
def safetyEmpty : SafetyTables :=
  { detector := List.replicate 192 0, approach := List.replicate 48 0,
    equipment := List.replicate 112 0, crossing := List.replicate 41 0 }

/-- The configuration unit after hardware reset (R179). -/
def configReset (strap : BitVec 12) : ConfigUnit :=
  { staged := stagedReset, tables := safetyEmpty, activation := .idle, pendingSet := none,
    activeIdentity := 0, activeCrc := 0, strapBase := strapBaseOf strap }

end Sys2Proof.Machine
end

