-- ==== Sys2Proof/Machine/State.lean ====
section
/-! DEFINITION. The state of the part, block by block, as plain data; the reasons a step can stop; the state
right after hardware reset. Every update of a block goes through its setter, so that what an operation
leaves alone is read off by simp (Sys2Proof/Laws/State.lean). -/

namespace Sys2Proof.Machine

/-- The part: everything the manual gives it, one field per owning block. -/
structure State where
  /-- The 32-bit millisecond counter (00_scope.md, section 4.1). -/
  timebase : Time
  /-- Loop port A. -/
  portA : PortState
  /-- Loop port B. -/
  portB : PortState
  /-- The window unit. -/
  window : WindowUnit
  /-- The axle counter. -/
  axle : AxleCounter
  /-- The train tracker and the warning computer's fields. -/
  tracker : Tracker
  /-- The crossing sequencer. -/
  seq : Sequencer
  /-- The lamp supervisor. -/
  lamp : LampSupervisor
  /-- The barrier supervisor. -/
  barrier : BarrierSupervisor
  /-- The command block unit. -/
  cmd : CommandBlock
  /-- The fault unit. -/
  fault : FaultUnit
  /-- The configuration unit. -/
  config : ConfigUnit
  /-- The model's own: how many free values have been taken (log 11). -/
  freeCounter : Nat
  /-- The model's own: the commands that wait, first in, first out. -/
  pending : List Instr
  deriving DecidableEq, Repr

/-- Reasons the part stops. There are none: every event of the manual leaves the part running, so the
type is empty. -/
inductive Fault
  deriving DecidableEq, Repr

/-- Reasons the model gives no meaning. -/
inductive Refusal where
  /-- Raised by an arm of `exec` whose command has no meaning yet; safe. No arm raises it. -/
  | notModelled (mnemonic : String)
  deriving DecidableEq, Repr

/-- Replaces the 32-bit millisecond counter. -/
def State.setTimebase (x : Time) (s : State) : State := { s with timebase := x }

/-- Replaces loop port A. -/
def State.setPortA (x : PortState) (s : State) : State := { s with portA := x }

/-- Replaces loop port B. -/
def State.setPortB (x : PortState) (s : State) : State := { s with portB := x }

/-- Replaces the window unit. -/
def State.setWindow (x : WindowUnit) (s : State) : State := { s with window := x }

/-- Replaces the axle counter. -/
def State.setAxle (x : AxleCounter) (s : State) : State := { s with axle := x }

/-- Replaces the train tracker and the warning computer's fields. -/
def State.setTracker (x : Tracker) (s : State) : State := { s with tracker := x }

/-- Replaces the crossing sequencer. -/
def State.setSeq (x : Sequencer) (s : State) : State := { s with seq := x }

/-- Replaces the lamp supervisor. -/
def State.setLamp (x : LampSupervisor) (s : State) : State := { s with lamp := x }

/-- Replaces the barrier supervisor. -/
def State.setBarrier (x : BarrierSupervisor) (s : State) : State := { s with barrier := x }

/-- Replaces the command block unit. -/
def State.setCmd (x : CommandBlock) (s : State) : State := { s with cmd := x }

/-- Replaces the fault unit. -/
def State.setFault (x : FaultUnit) (s : State) : State := { s with fault := x }

/-- Replaces the configuration unit. -/
def State.setConfig (x : ConfigUnit) (s : State) : State := { s with config := x }

/-- Replaces the model's own count, how many free values have been taken. -/
def State.setFreeCounter (x : Nat) (s : State) : State := { s with freeCounter := x }

/-- Replaces the model's own: the commands that wait, first in, first out. -/
def State.setPending (x : List Instr) (s : State) : State := { s with pending := x }

/-- The state of a loop port. -/
def State.port (s : State) : Port → PortState
  | .a => s.portA
  | .b => s.portB

/-- Replaces the state of a loop port. -/
def State.setPort (p : Port) (x : PortState) (s : State) : State :=
  match p with
  | .a => s.setPortA x
  | .b => s.setPortB x

/-- The part right after hardware reset (R26, R50, R71, R94, R115, R131, R151, R168, R179). The strap pins
are an input; here they read 0 (DESIGN CHOICE, unsafe, log 4). -/
def State.reset : State :=
  { timebase := 0
    portA := portReset
    portB := portReset
    window := windowReset 0
    axle := axleEmpty
    tracker := trackerReset
    seq := seqInitSafe
    lamp := lampEmpty
    barrier := barrierEmpty
    cmd := commandsEmpty
    fault := faultsReset
    config := configReset 0
    freeCounter := 0
    pending := [] }

end Sys2Proof.Machine
end

