-- ==== Sys2Proof/Machine/Operands.lean ====
section
/-! DEFINITION. The fields of the configuration tables, read from their words by the layouts of R187, the
geometry of the line that follows from the detector table (R3, R4, R5), and the numbers of modules
(R98, R116, R164). Tables are lists of words; a field is never held a second time. -/

namespace Sys2Proof.Machine

/-! ## Words -/

/-- Word `i` of a table. -/
def wordIn (t : List Word) (i : Nat) : Word := t.getD i 0

/-- Word `i` of a table as a number. -/
def numIn (t : List Word) (i : Nat) : Nat := (wordIn t i).toNat

/-- Low byte of word `i` as a number. -/
def lowIn (t : List Word) (i : Nat) : Nat := (loByte (wordIn t i)).toNat

/-- High byte of word `i` as a number. -/
def highIn (t : List Word) (i : Nat) : Nat := (hiByte (wordIn t i)).toNat

/-- Bits `start .. start + len - 1` of word `i` as a number. -/
def bitsIn (t : List Word) (i start len : Nat) : Nat := ((wordIn t i).extractLsb' start len).toNat

/-- A value held as two words, the high-order word first (R187). -/
def numIn2 (t : List Word) (i : Nat) : Nat := numIn t i * 65536 + numIn t (i + 1)

/-- Port codes: 1 A, 2 B (R187). -/
def portOfCode (n : Nat) : Option Port :=
  if n = 1 then some .a else if n = 2 then some .b else none

/-- Number of words of each table (R170). -/
def tableSize : TableId → Nat
  | .loop => 37
  | .detector => 192
  | .approach => 48
  | .equipment => 112
  | .crossing => 41

/-- Table codes (R184). -/
def tableOfCode (n : Nat) : Option TableId :=
  if n = 1 then some .loop else if n = 2 then some .detector else if n = 3 then some .approach
  else if n = 4 then some .equipment else if n = 5 then some .crossing else none

/-! ## Loop table -/

/-- Window actions (R157, codes of R187). -/
inductive WindowAction | consume | pass | copy
  deriving DecidableEq, Repr

/-- Roles (R157, codes of R187). -/
inductive Role | config | signaller | field
  deriving DecidableEq, Repr

/-- A window (R157); action and role are none where the code is no valid one. -/
structure Window where
  enabled : Bool
  base : Addr
  mask : Word
  action : Option WindowAction
  role : Option Role
  translate : Bool
  translateBase : Addr
  deriving DecidableEq, Repr

/-- Action codes of R187. -/
def actionOfCode (n : Nat) : Option WindowAction :=
  if n = 1 then some .consume else if n = 2 then some .pass else if n = 3 then some .copy else none

/-- Role codes of R187. -/
def roleOfCode (n : Nat) : Option Role :=
  if n = 1 then some .config else if n = 2 then some .signaller else if n = 3 then some .field else none

/-- Window `w` of a loop table (R187). -/
def windowOf (t : List Word) (w : Nat) : Window :=
  { enabled := (wordIn t (4 * w)).getLsbD 0
    base := wordIn t (4 * w + 1)
    mask := wordIn t (4 * w + 2)
    action := actionOfCode (bitsIn t (4 * w) 1 2)
    role := roleOfCode (bitsIn t (4 * w) 4 2)
    translate := (wordIn t (4 * w)).getLsbD 8
    translateBase := wordIn t (4 * w + 3) }

/-- The eight windows in index order. -/
def windowsOf (t : List Word) : List Window := (List.range 8).map (windowOf t)

/-- Own address (R187). -/
def ownAddressOf (t : List Word) : Addr := wordIn t 32

/-- T_silence (R187). -/
def tSilenceOf (t : List Word) : Word := wordIn t 33

/-- T_age (R187). -/
def tAgeOf (t : List Word) : Nat := numIn t 34

/-- Base priority of a queue class (R163, R187). -/
def basePriorityOf (t : List Word) : QueueClass → Nat
  | .command => bitsIn t 35 0 4
  | .status => bitsIn t 35 4 4
  | .reply => bitsIn t 35 8 4
  | .forward => bitsIn t 35 12 4

/-- Signaller port (R187); A where the code is no valid one, which no accepted table holds (log 23). -/
def signallerPortOf (t : List Word) : Port := (portOfCode (numIn t 36)).getD .a

/-! ## Detector table and geometry -/

/-- A detector table entry (R1); `upOrder` is the code 1 AB, 2 BA. -/
structure DetectorEntry where
  addr : Addr
  track : Nat
  upOrder : Nat
  position : Int
  spacing : Nat
  latency : Nat
  silence : Nat
  deriving DecidableEq, Repr

/-- Entry `d` of a detector table (R187). -/
def detectorOf (t : List Word) (d : Nat) : DetectorEntry :=
  { addr := wordIn t (6 * d)
    track := lowIn t (6 * d + 1)
    upOrder := highIn t (6 * d + 1)
    position := (wordIn t (6 * d + 2)).toInt
    spacing := numIn t (6 * d + 3)
    latency := numIn t (6 * d + 4)
    silence := numIn t (6 * d + 5) }

/-- An entry is in use when its loop address is not 0 (R1). -/
def detectorInUse (t : List Word) (d : Nat) : Bool := (detectorOf t d).addr ≠ 0

/-- The detectors in use, in table order. -/
def detectorsInUse (t : List Word) : List Nat := (List.range 32).filter (detectorInUse t)

/-- Inserts a detector into a list that stands in order of position. -/
def insertByPosition (t : List Word) (d : Nat) : List Nat → List Nat
  | [] => [d]
  | e :: rest =>
    if (detectorOf t d).position < (detectorOf t e).position then d :: e :: rest
    else e :: insertByPosition t d rest

/-- The detectors of a track in order of increasing position: element j has order number j (R3). -/
def trackDetectors (t : List Word) (trk : Nat) : List Nat :=
  ((detectorsInUse t).filter fun d => (detectorOf t d).track = trk).foldr (insertByPosition t) []

/-- A configured track is named by at least one entry in use (R3). -/
def trackConfigured (t : List Word) (trk : Nat) : Bool := !(trackDetectors t trk).isEmpty

/-- Number of sections of a track, m − 1 (R3). -/
def sectionCount (t : List Word) (trk : Nat) : Nat := (trackDetectors t trk).length - 1

/-- w: the number of detectors of a track with a negative position (R4). -/
def westCount (t : List Word) (trk : Nat) : Nat :=
  ((trackDetectors t trk).filter fun d => (detectorOf t d).position < 0).length

/-- The island section of a track is section w − 1 (R4). -/
def islandSection (t : List Word) (trk : Nat) : Nat := westCount t trk - 1

/-- Order number of a detector on its track (R3). -/
def orderOf (t : List Word) (d : Nat) : Nat :=
  (trackDetectors t (detectorOf t d).track).idxOf d

/-- West section of a detector: section j − 1 when j > 0, else outside (R3). -/
def westSection (t : List Word) (d : Nat) : Option Nat :=
  if orderOf t d = 0 then none else some (orderOf t d - 1)

/-- East section of a detector: section j when j < m − 1, else outside (R3). -/
def eastSection (t : List Word) (d : Nat) : Option Nat :=
  if orderOf t d < sectionCount t (detectorOf t d).track then some (orderOf t d) else none

/-- The adjacent sections of a detector (R3). -/
def adjacentSections (t : List Word) (d : Nat) : List Nat :=
  (westSection t d).toList ++ (eastSection t d).toList

/-- West bounding detector of a section (R3). -/
def westBounding (t : List Word) (trk sec : Nat) : Nat := (trackDetectors t trk).getD sec 0

/-- East bounding detector of a section (R3). -/
def eastBounding (t : List Word) (trk sec : Nat) : Nat := (trackDetectors t trk).getD (sec + 1) 0

/-- Section identity, track × 8 + section number (R3). -/
def sectionIdentity (trk sec : Nat) : Nat := trk * 8 + sec

/-- Approach index: track × 2 for UP, track × 2 + 1 for DOWN (R28). -/
def approachIndex (trk : Nat) : Direction → Nat
  | .up => trk * 2
  | .down => trk * 2 + 1

/-- Track of an approach index (R28). -/
def approachTrack (a : Nat) : Nat := a / 2

/-- Direction of an approach index (R28). -/
def approachDirection (a : Nat) : Direction := if a % 2 = 0 then .up else .down

/-- An approach exists when its track is configured (R4). -/
def approachConfigured (t : List Word) (a : Nat) : Bool := trackConfigured t (approachTrack a)

/-- The path of an approach: its detectors by path index (R5). -/
def pathOf (t : List Word) (a : Nat) : List Nat :=
  let ds := trackDetectors t (approachTrack a)
  let w := westCount t (approachTrack a)
  match approachDirection a with
  | .up => ds.take (w + 1)
  | .down => ds.reverse.take (ds.length - w + 1)

/-- Path index of a detector on the path of an approach, if it stands on it (R5). -/
def pathIndex (t : List Word) (a d : Nat) : Option Nat :=
  if d ∈ pathOf t a then some ((pathOf t a).idxOf d) else none

/-- n, the number of detectors of a path (R5). -/
def pathLength (t : List Word) (a : Nat) : Nat := (pathOf t a).length

/-- k_e, the island-entry (R5). -/
def islandEntryIndex (t : List Word) (a : Nat) : Nat := pathLength t a - 2

/-- k_x, the island-exit (R5). -/
def islandExitIndex (t : List Word) (a : Nat) : Nat := pathLength t a - 1

/-- Path segment k of an approach is section k going UP, section m − 2 − k going DOWN (R5). -/
def segmentSection (t : List Word) (a k : Nat) : Nat :=
  match approachDirection a with
  | .up => k
  | .down => sectionCount t (approachTrack a) - 1 - k

/-- The approach sections of an approach, by section number (R4): those of segments 0 .. k_e − 1. -/
def approachSections (t : List Word) (a : Nat) : List Nat :=
  (List.range (islandEntryIndex t a)).map (segmentSection t a)

/-- The sections of all configured tracks in order of track and number, as (track, number) (R3). -/
def allSections (t : List Word) : List (Nat × Nat) :=
  (List.range 4).flatMap fun trk => (List.range (sectionCount t trk)).map fun n => (trk, n)

/-! ## Approach table -/

/-- An approach table entry (R51). -/
structure ApproachEntry where
  vLine : Nat
  vFloor : Nat
  aMax : Nat
  twMin : Nat
  twTarget : Nat
  twTol : Nat
  deriving DecidableEq, Repr

/-- Entry `a` of an approach table (R187). -/
def approachOf (t : List Word) (a : Nat) : ApproachEntry :=
  { vLine := numIn t (6 * a)
    vFloor := numIn t (6 * a + 1)
    aMax := lowIn t (6 * a + 2)
    twMin := numIn t (6 * a + 3)
    twTarget := highIn t (6 * a + 2) * 65536 + numIn t (6 * a + 4)
    twTol := numIn t (6 * a + 5) }

/-! ## Equipment table -/

/-- Module types (R170). -/
inductive ModuleType | lamp | barrier | presence
  deriving DecidableEq, Repr

/-- Module `m` of an equipment table: type code, address, port code, silence timeout (R187). -/
structure ModuleEntry where
  typeCode : Nat
  addr : Addr
  portCode : Nat
  silence : Nat
  deriving DecidableEq, Repr

/-- Module entry `m` (R187). -/
def moduleOf (t : List Word) (m : Nat) : ModuleEntry :=
  { typeCode := numIn t (4 * m)
    addr := wordIn t (4 * m + 1)
    portCode := numIn t (4 * m + 2)
    silence := numIn t (4 * m + 3) }

/-- The type of a module entry: 0 NONE, 1 LAMP, 2 BARRIER, 3 PRESENCE (R187). -/
def moduleType (t : List Word) (m : Nat) : Option ModuleType :=
  let c := (moduleOf t m).typeCode
  if c = 1 then some .lamp else if c = 2 then some .barrier else if c = 3 then some .presence else none

/-- A module entry is in use unless its type is NONE (R170). -/
def moduleInUse (t : List Word) (m : Nat) : Bool := (moduleOf t m).typeCode ≠ 0

/-- The field module indices of the modules in use. -/
def modulesInUse (t : List Word) : List Nat := (List.range 10).filter (moduleInUse t)

/-- The field module indices of the modules of one type, in table order: element j is the module with
lamp, barrier or presence module index j (R98, R116). -/
def modulesOfType (t : List Word) (ty : ModuleType) : List Nat :=
  (List.range 10).filter fun m => moduleType t m = some ty

/-- The port of a module (R164). -/
def modulePort (t : List Word) (m : Nat) : Port := (portOfCode (moduleOf t m).portCode).getD .a

/-- The output modules (LAMP and BARRIER) in table order: element i owns command slot i (R164). -/
def outputModules (t : List Word) : List Nat :=
  (List.range 10).filter fun m => moduleType t m = some .lamp || moduleType t m = some .barrier

/-- Lamp colours (R98). -/
inductive Colour | red | amber
  deriving DecidableEq, Repr

/-- A lamp table entry (R98); colour and flash phase are codes. -/
structure LampEntry where
  module : Nat
  channel : Nat
  colourCode : Nat
  side : Nat
  phaseCode : Nat
  onLow : Nat
  onHigh : Nat
  offMax : Nat
  deriving DecidableEq, Repr

/-- Lamp entry `l` (R187). -/
def lampOf (t : List Word) (l : Nat) : LampEntry :=
  { module := lowIn t (40 + 4 * l)
    channel := highIn t (40 + 4 * l)
    colourCode := bitsIn t (41 + 4 * l) 0 4
    side := bitsIn t (41 + 4 * l) 4 4
    phaseCode := bitsIn t (41 + 4 * l) 8 4
    onLow := lowIn t (42 + 4 * l)
    onHigh := highIn t (42 + 4 * l)
    offMax := numIn t (43 + 4 * l) }

/-- A lamp is in use when its on_high is not 0 (R98). -/
def lampInUse (t : List Word) (l : Nat) : Bool := (lampOf t l).onHigh ≠ 0

/-- The lamps in use. -/
def lampsInUse (t : List Word) : List Nat := (List.range 16).filter (lampInUse t)

/-- A lamp is RED when its colour code is 1 (R187). -/
def lampRed (t : List Word) (l : Nat) : Bool := (lampOf t l).colourCode = 1

/-- The RED lamps in use. -/
def redLamps (t : List Word) : List Nat := (lampsInUse t).filter (lampRed t)

/-- The lamp in use that names a module and a channel, if any (R104). -/
def lampOnChannel (t : List Word) (module_ channel : Nat) : Option Nat :=
  (lampsInUse t).find? fun l => (lampOf t l).module = module_ && (lampOf t l).channel = channel

/-- A barrier table entry (R116); the role code is 0 NONE, 1 ENTRY, 2 EXIT. -/
structure BarrierEntry where
  module : Nat
  roleCode : Nat
  side : Nat
  deriving DecidableEq, Repr

/-- Barrier entry `b` (R187). -/
def barrierOf (t : List Word) (b : Nat) : BarrierEntry :=
  { module := numIn t (104 + 2 * b)
    roleCode := lowIn t (105 + 2 * b)
    side := highIn t (105 + 2 * b) }

/-- A barrier is an ENTRY barrier when its role code is 1 (R116). -/
def barrierEntryRole (t : List Word) (b : Nat) : Bool := (barrierOf t b).roleCode = 1

/-- A barrier is an EXIT barrier when its role code is 2 (R116). -/
def barrierExitRole (t : List Word) (b : Nat) : Bool := (barrierOf t b).roleCode = 2

/-- A barrier is in use when its role is ENTRY or EXIT (R116). -/
def barrierInUse (t : List Word) (b : Nat) : Bool := barrierEntryRole t b || barrierExitRole t b

/-- The barriers in use. -/
def barriersInUse (t : List Word) : List Nat := (List.range 4).filter (barrierInUse t)

/-- The ENTRY barriers. -/
def entryBarriers (t : List Word) : List Nat := (List.range 4).filter (barrierEntryRole t)

/-- The EXIT barriers. -/
def exitBarriers (t : List Word) : List Nat := (List.range 4).filter (barrierExitRole t)

/-- The barrier in use that a barrier module moves (R117). -/
def barrierOfModule (t : List Word) (j : Nat) : Option Nat :=
  (barriersInUse t).find? fun b => (barrierOf t b).module = j

/-! ## Crossing table -/

/-- W, in dm (R187). -/
def halfWidthOf (t : List Word) : Nat := numIn t 0
/-- T_amber (R73). -/
def tAmberOf (t : List Word) : Nat := numIn t 1
/-- T_red_pre (R73). -/
def tRedPreOf (t : List Word) : Nat := numIn t 2
/-- T_lower_max (R73). -/
def tLowerMaxOf (t : List Word) : Nat := numIn t 3
/-- T_exit_delay (R73). -/
def tExitDelayOf (t : List Word) : Nat := numIn t 4
/-- T_exit_wait_max, two words (R73, R187). -/
def tExitWaitMaxOf (t : List Word) : Nat := numIn2 t 5
/-- T_raise_max (R73). -/
def tRaiseMaxOf (t : List Word) : Nat := numIn t 7
/-- T_reopen_min (R73). -/
def tReopenMinOf (t : List Word) : Nat := numIn t 8
/-- T_long_closure, two words (R73, R187). -/
def tLongClosureOf (t : List Word) : Nat := numIn2 t 9
/-- min_red of a road side: side 0 in the low byte, side 1 in the high byte (R187). -/
def minRedOf (t : List Word) (side : Nat) : Nat := if side = 0 then lowIn t 11 else highIn t 11
/-- N_lamp (R98). -/
def nLampOf (t : List Word) : Nat := numIn t 12
/-- T_gap (R42). -/
def tGapOf (t : List Word) : Nat := numIn t 13
/-- T_refresh (R165). -/
def tRefreshOf (t : List Word) : Nat := numIn t 14
/-- T_status (R146). -/
def tStatusOf (t : List Word) : Nat := numIn t 15
/-- Signaller address (R145). -/
def signallerAddressOf (t : List Word) : Addr := wordIn t 16
/-- Group of class `n` in the fault map (R136). -/
def mapGroupOf (t : List Word) (n : Nat) : Nat := bitsIn t (17 + n) 0 4
/-- Report enable of class `n` in the fault map (R136). -/
def mapEnabledOf (t : List Word) (n : Nat) : Bool := (wordIn t (17 + n)).getLsbD 15

/-- Distance of a detector to the crossing in dm, D = |position| − W (R5). -/
def distanceOf (dt ct : List Word) (d : Nat) : Nat :=
  (detectorOf dt d).position.natAbs - halfWidthOf ct

/-! ## The active tables of a state -/

/-- The active loop table (R170). -/
def State.loopTab (s : State) : List Word := s.window.loopTable
/-- The active detector table (R170). -/
def State.detTab (s : State) : List Word := s.config.tables.detector
/-- The active approach table (R170). -/
def State.appTab (s : State) : List Word := s.config.tables.approach
/-- The active equipment table (R170). -/
def State.eqTab (s : State) : List Word := s.config.tables.equipment
/-- The active crossing table (R170). -/
def State.crTab (s : State) : List Word := s.config.tables.crossing

/-- A safety set is active: its identity is 1 .. 65535, and the identity is 0 while none is (R174, R178). -/
def State.safetyActive (s : State) : Bool := s.config.activeIdentity ≠ 0

/-- The own address of the active loop table (R187). -/
def State.ownAddress (s : State) : Addr := ownAddressOf s.loopTab

/-- The signaller port (R145). -/
def State.signallerPort (s : State) : Port := signallerPortOf s.loopTab

end Sys2Proof.Machine
end

