-- ==== Sys2Proof/Machine/Ops.lean ====
section
/-! DEFINITION. Operations every block uses: order of times (section 4.1), arithmetic (section 4.3), and the
outbound queues with the arbiter and the transmitter (R156, R162, R163). -/

namespace Sys2Proof.Machine

/-! ## Times -/

/-- Time a is before time b: b − a modulo 2^32, read signed, is positive (section 4.1). -/
def timeBefore (a b : Time) : Bool := 0 < (b - a).toInt

/-- Time a is not after time b: before it or equal to it (section 4.1). -/
def timeNotAfter (a b : Time) : Bool := !timeBefore b a

/-- A time `ms` milliseconds after another, modulo 2^32. -/
def timePlus (t : Time) (ms : Nat) : Time := t + BitVec.ofNat 32 ms

/-- The earlier of two times; the first where they are equal. -/
def timeEarlier (a b : Time) : Time := if timeBefore b a then b else a

/-- The present time, read from the timebase. -/
def State.now (s : State) : Time := s.timebase

/-- An expiry is due when it was set to reach the present time (section 4.1). -/
def State.due (s : State) (e : Option Time) : Bool := e = some s.now

/-! ## Arithmetic -/

/-- Division rounded up (section 4.3). -/
def ceilDiv (a b : Nat) : Nat := (a + b - 1) / b

/-- Finds the largest r with r² ≤ x bit by bit: `r` holds the bits above `n`. -/
def isqrtBits (x : Nat) : Nat → Nat → Nat
  | 0, r => r
  | n + 1, r => if (r + 2 ^ n) ^ 2 ≤ x then isqrtBits x n (r + 2 ^ n) else isqrtBits x n r

/-- The integer square root rounded down (section 4.3), for x below 2^64. -/
def isqrt (x : Nat) : Nat := isqrtBits x 32 0

/-! ## Queues and the arbiter -/

/-- A queue of a port (R162). -/
def PortState.queue (ps : PortState) : QueueClass → List QueueEntry
  | .command => ps.command
  | .status => ps.status
  | .reply => ps.reply
  | .forward => ps.forward

/-- Replaces a queue of a port. -/
def PortState.setQueue (ps : PortState) (c : QueueClass) (q : List QueueEntry) : PortState :=
  match c with
  | .command => { ps with command := q }
  | .status => { ps with status := q }
  | .reply => { ps with reply := q }
  | .forward => { ps with forward := q }

/-- The four classes in the order the arbiter prefers at equal priority (R163). -/
def arbiterOrder : List QueueClass := [.command, .status, .reply, .forward]

/-- The effective priority of a head (R163): base less one for each T_age waited, never below 0. -/
def effectivePriority (lt : List Word) (now : Time) (c : QueueClass) (e : QueueEntry) : Nat :=
  basePriorityOf lt c - (now - e.joined).toNat / tAgeOf lt

/-- The better of the choice so far and the head of one more class; ties keep the earlier (R163). -/
def arbiterBetter (lt : List Word) (now : Time) (ps : PortState)
    (best : Option (QueueClass × Nat)) (c : QueueClass) : Option (QueueClass × Nat) :=
  match ps.queue c with
  | [] => best
  | e :: _ =>
    match best with
    | none => some (c, effectivePriority lt now c e)
    | some (b, p) =>
      if effectivePriority lt now c e < p then some (c, effectivePriority lt now c e) else some (b, p)

/-- The class whose head the arbiter takes, if any queue holds a telegram (R163). -/
def arbiterChoice (lt : List Word) (now : Time) (ps : PortState) : Option QueueClass :=
  (arbiterOrder.foldl (arbiterBetter lt now ps) none).map (·.1)

/-- Hands the arbiter's choice to a free transmitter; a busy transmitter takes nothing (R156, R163). -/
def serveTransmitter (lt : List Word) (now : Time) (ps : PortState) : PortState :=
  match ps.transmitter with
  | some _ => ps
  | none =>
    match arbiterChoice lt now ps with
    | none => ps
    | some c =>
      match ps.queue c with
      | [] => ps
      | e :: rest => { ps.setQueue c rest with transmitter := some e.tel }

/-- A telegram joins the end of a queue; a free transmitter is served at once (R156, R162, R163). -/
def joinQueue (p : Port) (c : QueueClass) (tel : Telegram) (slot : Option Nat) (s : State) : State :=
  let ps := s.port p
  let q := ps.queue c ++ [{ tel := tel, joined := s.now, slot := slot }]
  s.setPort p (serveTransmitter s.loopTab s.now (ps.setQueue c q))

/-- Capacity of a REPLY queue (R162). -/
def replyCapacity : Nat := 4

/-- Capacity of a FORWARD queue (R162). -/
def forwardCapacity : Nat := 8

/-- A REPLY queue has room for a reply (R161). -/
def replyRoom (p : Port) (s : State) : Bool := (s.port p).reply.length < replyCapacity

/-- Queues a reply on the port its request arrived on: to the request's source, from the own address
(R161). -/
def sendReply (a : Arrival) (kind : Byte) (payload : List Byte) (s : State) : State :=
  joinQueue a.port .reply { dst := a.src, src := s.ownAddress, kind := kind, payload := payload } none s

end Sys2Proof.Machine
end

