-- ==== Sys2Proof/Machine/Flags.lean ====
section
/-! DEFINITION. The fault unit (chapter 7): fault reports acting on the active and latched flags, history
capture, indication groups. -/

namespace Sys2Proof.Machine

/-- The number of a fault class (R133). -/
def FaultClass.number : FaultClass → Nat
  | .detectorSilent => 0 | .detectorHeadFault => 1 | .wheelLoss => 2 | .countUnderflow => 3
  | .countOverflow => 4 | .unexpectedWheel => 5 | .trainTableFull => 6 | .shortWarning => 7
  | .longWarning => 8 | .overspeed => 9 | .prolongedClosure => 10 | .redLampFailed => 11
  | .roadLightsFailed => 12 | .amberLampFailed => 13 | .lampStuckOn => 14 | .lampModuleSilent => 15
  | .barrierNotDown => 16 | .barrierNotUp => 17 | .barrierModuleSilent => 18
  | .crossingObstructed => 19 | .presenceModuleSilent => 20 | .portDown => 21 | .commandOverrun => 22
  | .notice => 23

/-- The set that holds one class: class n is bit n (R181). -/
def FaultClass.bit (c : FaultClass) : BitVec 24 := 1#24 <<< c.number

/-- The active flag of a class (R135). -/
def FaultUnit.isActive (f : FaultUnit) (c : FaultClass) : Bool := f.active.getLsbD c.number

/-- The latched flag of a class (R135). -/
def FaultUnit.isLatched (f : FaultUnit) (c : FaultClass) : Bool := f.latched.getLsbD c.number

/-- Class `n`, shown by the flags `shown`, turns group `g` on under the map (R137). -/
def classShowsIn (ct : List Word) (shown : BitVec 24) (g n : Nat) : Bool :=
  shown.getLsbD n && mapEnabledOf ct n && mapGroupOf ct n = g

/-- One group's bit of the group set (R137). -/
def groupBit (ct : List Word) (shown : BitVec 24) (g : Nat) : BitVec 4 :=
  if (List.range 24).any (classShowsIn ct shown g) then 1#4 <<< g else 0

/-- The indication groups (R137): group g at bit g; all off with no map. -/
def groupsOf (mapActive : Bool) (ct : List Word) (active latched : BitVec 24) : BitVec 4 :=
  if mapActive then
    groupBit ct (active ||| latched) 0 ||| groupBit ct (active ||| latched) 1
      ||| groupBit ct (active ||| latched) 2 ||| groupBit ct (active ||| latched) 3
  else 0

/-- Re-evaluates the groups from the flags and the map (R137). -/
def evaluateGroups (s : State) : State :=
  s.setFault { s.fault with groups := groupsOf s.safetyActive s.crTab s.fault.active s.fault.latched }

/-- Sets both flag sets and re-evaluates the groups (R135, R137). -/
def setFlags (active latched : BitVec 24) (s : State) : State :=
  evaluateGroups (s.setFault { s.fault with active := active, latched := latched })

/-- Most records the history holds (R141). -/
def historyCapacity : Nat := 32

/-- Puts a record at the end of the history, the oldest going first when it is full (R141). -/
def pushHistory (h : List FaultRecord) (r : FaultRecord) : List FaultRecord :=
  (if historyCapacity ≤ h.length then h.drop (h.length + 1 - historyCapacity) else h) ++ [r]

/-- Captures a history record with the next record number (R141, R142). -/
def capture (c : FaultClass) (subject detail : Nat) (s : State) : State :=
  s.setFault { s.fault with
    history := pushHistory s.fault.history
      { number := s.fault.nextRecord, time := s.now, cls := c,
        subject := BitVec.ofNat 8 subject, detail := BitVec.ofNat 16 detail }
    nextRecord := s.fault.nextRecord + 1 }

/-- RAISED of an event class other than NOTICE (R135). -/
def raiseFault (c : FaultClass) (subject detail : Nat) (s : State) : State :=
  if s.fault.isLatched c then s
  else setFlags s.fault.active (s.fault.latched ||| c.bit) (capture c subject detail s)

/-- RAISED of NOTICE: latched, and captured every time (R135, R138). -/
def raiseNotice (subject detail : Nat) (s : State) : State :=
  setFlags s.fault.active (s.fault.latched ||| FaultClass.notice.bit) (capture .notice subject detail s)

/-- ENTERED of a condition class (R135). -/
def enterFault (c : FaultClass) (subject detail : Nat) (s : State) : State :=
  if s.fault.isActive c then s
  else if s.fault.isLatched c then setFlags (s.fault.active ||| c.bit) s.fault.latched s
  else setFlags (s.fault.active ||| c.bit) (s.fault.latched ||| c.bit) (capture c subject detail s)

/-- ENDED of a condition class (R135). -/
def endFault (c : FaultClass) (s : State) : State :=
  if s.fault.isActive c then setFlags (s.fault.active &&& ~~~c.bit) s.fault.latched s else s

/-- Gives ENDED when no instance of the class's condition is left (R134). -/
def endFaultUnless (c : FaultClass) (still : Bool) (s : State) : State :=
  if still then s else endFault c s

/-- The port's share of a NOTICE subject: 0 for A, 1 for B (R138). -/
def portNumber : Port → Nat
  | .a => 0
  | .b => 1

/-- NOTICE, role mismatch (R138). -/
def noticeRoleMismatch (p : Port) (src : Addr) (s : State) : State :=
  raiseNotice (36 + portNumber p) src.toNat s

/-- NOTICE, stranger telegram (R138). -/
def noticeStranger (p : Port) (src : Addr) (s : State) : State :=
  raiseNotice (34 + portNumber p) src.toNat s

end Sys2Proof.Machine
end

