-- ==== Sys2Proof/Machine/Slots.lean ====
section
/-! DEFINITION. The command block unit (section 8.6): slots, blocks, changes, the refresh expiry. -/

namespace Sys2Proof.Machine

/-- Mode code of a LAMP_COMMAND (R183). -/
def lampModeCode : LampMode → Nat
  | .off => 0
  | .steady => 1
  | .flash => 2

/-- Flash phase code of a LAMP_COMMAND (R183). -/
def flashPhaseCode : FlashPhase → Nat
  | .a => 0
  | .b => 1

/-- Command code of a BARRIER_COMMAND (R183). -/
def barrierCommandCode : BarrierCommand → Nat
  | .raise => 1
  | .lower => 2

/-- Kind code of the command telegram of a slot: LAMP_COMMAND or BARRIER_COMMAND (R182). -/
def slotKind : SlotContent → Byte
  | .lamp _ => 0x20
  | .barrier _ => 0x21

/-- Payload of the command telegram of a slot (R183). -/
def slotPayload : SlotContent → List Byte
  | .lamp chs => chs.map fun ch => BitVec.ofNat 8 (16 * flashPhaseCode ch.2 + lampModeCode ch.1)
  | .barrier c => [BitVec.ofNat 8 (barrierCommandCode c)]

/-- The command telegram of a slot: module's address as destination, own address as source (R165). -/
def slotTelegram (own : Addr) (sl : Slot) : Telegram :=
  { dst := sl.addr, src := own, kind := slotKind sl.content, payload := slotPayload sl.content }

/-- Removes every waiting command telegram from both ports: all are of the running block (R162, R166). -/
def removeBlock (s : State) : State :=
  (s.setPortA { s.portA with command := [] }).setPortB { s.portB with command := [] }

/-- Forms and queues the telegram of slot `i`, or skips it when its port is DOWN (R165). -/
def queueSlot (s : State) (sl : Slot) (i : Nat) : State :=
  match (s.port sl.port).link with
  | .down => s
  | .up => joinQueue sl.port .command (slotTelegram s.ownAddress sl) (some i) s

/-- Queues the telegrams of a run of slots whose first has index `i`. -/
def queueSlots : List Slot → Nat → State → State
  | [], _, s => s
  | sl :: rest, i, s => queueSlots rest (i + 1) (queueSlot s sl i)

/-- A block starts: every slot in slot order, and the refresh expiry T_refresh from now (R165). -/
def startBlock (s : State) : State :=
  let s := s.setCmd { s.cmd with refresh := some (timePlus s.now (tRefreshOf s.crTab)) }
  queueSlots s.cmd.slots 0 s

/-- Puts content into the slot of a field module (R164). -/
def setSlotContent (m : Nat) (c : SlotContent) (slots : List Slot) : List Slot :=
  slots.map fun sl => if sl.module = m then { sl with content := c } else sl

/-- Writing content into a module's slot changes something: the slot exists and holds other content. -/
def slotDiffers (m : Nat) (c : SlotContent) (slots : List Slot) : Bool :=
  slots.any fun sl => sl.module = m && sl.content ≠ c

/-- A write of a slot: equal content changes nothing; a change aborts the running block and starts a new
one at once (R164, R166). -/
def writeSlot (m : Nat) (c : SlotContent) (s : State) : State :=
  if slotDiffers m c s.cmd.slots then
    startBlock (removeBlock (s.setCmd { s.cmd with slots := setSlotContent m c s.cmd.slots }))
  else s

/-- The slot indices still waiting on a port. -/
def waitingSlots (ps : PortState) : List Nat := ps.command.filterMap (·.slot)

/-- The slot indices of the running block still waiting in a COMMAND queue (R165). -/
def State.waiting (s : State) : List Nat := waitingSlots s.portA ++ waitingSlots s.portB

/-- The block pointer: the lowest slot still waiting, absent when the block is complete (R165). -/
def State.blockPointer (s : State) : Option Nat := s.waiting.min?

/-- Number of command telegrams still waiting (R167). -/
def State.waitingCount (s : State) : Nat := s.portA.command.length + s.portB.command.length

/-- The block is complete when no telegram of it is waiting (R165). -/
def State.blockComplete (s : State) : Bool := s.waitingCount = 0

/-- What the refresh expiry does: a complete block is followed by a new one; an overrun block is removed,
COMMAND_OVERRUN raised with the pointer and the number removed, and a new block started (R165, R167). -/
def refreshBlock (s : State) : State :=
  if s.blockComplete then startBlock s
  else startBlock (raiseFault .commandOverrun (s.blockPointer.getD 0) s.waitingCount (removeBlock s))

end Sys2Proof.Machine
end

