-- ==== Sys2Proof/Machine/Lamps.lean ====
section
/-! DEFINITION. The lamp supervisor (chapter 5): commanded modes, lamp slots, judging of samples, lamp states,
light proof of a road side, grace, ROAD_LIGHTS_FAILED. -/

namespace Sys2Proof.Machine

/-! ## Commanded modes -/

/-- Mode of the RED lamps in a sequencer state (R76, R100). -/
def redMode : SeqState → LampMode
  | .opened | .amber => .off
  | .initSafe | .redFlash | .entryLowering | .exitLowering | .closed | .raising => .flash

/-- Mode of the AMBER lamps in a sequencer state (R76, R100). -/
def amberMode : SeqState → LampMode
  | .amber => .steady
  | .initSafe | .opened | .redFlash | .entryLowering | .exitLowering | .closed | .raising => .off

/-- Commanded mode of a lamp (R100). -/
def lampMode (et : List Word) (st : SeqState) (l : Nat) : LampMode :=
  if lampRed et l then redMode st else amberMode st

/-- Commanded mode of a channel; OFF for a channel no lamp names (R100). -/
def channelMode (et : List Word) (st : SeqState) (j c : Nat) : LampMode :=
  match lampOnChannel et j c with
  | none => .off
  | some l => lampMode et st l

/-- Flash phase of a channel: a RED lamp's own, else A (R101); phase code 2 is B (R187). -/
def channelPhase (et : List Word) (j c : Nat) : FlashPhase :=
  match lampOnChannel et j c with
  | none => .a
  | some l => if lampRed et l && (lampOf et l).phaseCode = 2 then .b else .a

/-- Content of the slot of lamp module `j` (R101). -/
def lampSlotContent (et : List Word) (st : SeqState) (j : Nat) : SlotContent :=
  .lamp ((List.range 4).map fun c => (channelMode et st j c, channelPhase et j c))

/-- Writes the slots of a run of lamp modules, the first with lamp module index `j`: in the order of that index,
which decides what a free transmitter still takes of a block that the next write aborts (R101 names no order;
DESIGN CHOICE, log 13). -/
def writeLampSlotsFrom : List Nat → Nat → State → State
  | [], _, s => s
  | m :: rest, j, s =>
    writeLampSlotsFrom rest (j + 1) (writeSlot m (lampSlotContent s.eqTab s.seq.state j) s)

/-- Writes every lamp module's slot with the modes of the present sequencer state (R101). -/
def writeLampSlots (s : State) : State :=
  writeLampSlotsFrom (modulesOfType s.eqTab .lamp) 0 s

/-! ## Light proof of a road side -/

/-- The record of lamp `l`, if it is in use. -/
def State.lampRecord (s : State) (l : Nat) : Option LampRecord := (s.lamp.lamps[l]?).join

/-- Lamp `l` is PROVED. -/
def State.lampProved (s : State) (l : Nat) : Bool :=
  match s.lampRecord l with
  | some r => r.state = .proved
  | none => false

/-- Lamp `l` is FAILED. -/
def State.lampFailed (s : State) (l : Nat) : Bool :=
  match s.lampRecord l with
  | some r => r.state = .failed
  | none => false

/-- Lamp `l` has stuck-on yes. -/
def State.lampStuck (s : State) (l : Nat) : Bool :=
  match s.lampRecord l with
  | some r => r.stuckOn
  | none => false

/-- The RED lamps in use of a road side. -/
def redLampsOfSide (et : List Word) (side : Nat) : List Nat :=
  (redLamps et).filter fun l => (lampOf et l).side = side

/-- Number of PROVED red lamps of a road side (R111). -/
def State.provedRed (s : State) (side : Nat) : Nat :=
  ((redLampsOfSide s.eqTab side).filter s.lampProved).length

/-- The light proof of a road side (R111). -/
def State.sideProved (s : State) (side : Nat) : Bool := minRedOf s.crTab side ≤ s.provedRed side

/-- Lamp module `j` has a red report count of at least N_lamp + 2 (R112). -/
def State.moduleCounted (s : State) (j : Nat) : Bool :=
  match s.lamp.modules[j]? with
  | some m => nLampOf s.crTab + 2 ≤ m.redCount
  | none => false

/-- Lamp module `j` is SILENT. -/
def State.lampModuleSilent (s : State) (j : Nat) : Bool :=
  match s.lamp.modules[j]? with
  | some m => m.supervision = .silent
  | none => false

/-- The grace of a road side is over (R112). -/
def State.graceOver (s : State) (side : Nat) : Bool :=
  let js := (redLampsOfSide s.eqTab side).map fun l => (lampOf s.eqTab l).module
  js.any s.moduleCounted || js.all s.lampModuleSilent

/-- The four states in which ROAD_LIGHTS_FAILED can be active (R113). -/
def redRequired : SeqState → Bool
  | .redFlash | .entryLowering | .exitLowering | .closed => true
  | .initSafe | .opened | .amber | .raising => false

/-- A road side holds ROAD_LIGHTS_FAILED active (R113). -/
def State.sideFailed (s : State) (side : Nat) : Bool :=
  redRequired s.seq.state && !s.sideProved side && s.graceOver side

/-- ENTERED for one road side if it holds the class (R114). -/
def enterRoadLights (side : Nat) (s : State) : State :=
  if s.sideFailed side then enterFault .roadLightsFailed side (s.provedRed side) s else s

/-- Evaluates ROAD_LIGHTS_FAILED (R113, R114): where both sides come to hold it at once, side 0 is reported
first (R114 names no order; DESIGN CHOICE, log 26). -/
def evaluateRoadLights (s : State) : State :=
  endFaultUnless .roadLightsFailed (s.sideFailed 0 || s.sideFailed 1)
    (enterRoadLights 1 (enterRoadLights 0 s))

/-! ## Classes of the lamp states -/

/-- Ends the lamp classes that no lamp holds any more (R106, R108, R110). -/
def endLampFaults (s : State) : State :=
  endFaultUnless .lampStuckOn ((List.range 16).any s.lampStuck)
    (endFaultUnless .amberLampFailed ((List.range 16).any fun l => s.lampFailed l && !lampRed s.eqTab l)
      (endFaultUnless .redLampFailed ((List.range 16).any fun l => s.lampFailed l && lampRed s.eqTab l)
        s))

/-- The class a lamp's failure belongs to (R106). -/
def lampFailClass (et : List Word) (l : Nat) : FaultClass :=
  if lampRed et l then .redLampFailed else .amberLampFailed

/-- Replaces the record of lamp `l`. -/
def putLamp (l : Nat) (r : LampRecord) (s : State) : State :=
  s.setLamp { s.lamp with lamps := s.lamp.lamps.set l (some r) }

/-! ## Closure onset and red -/

/-- A lamp record back at UNPROVED with the LIT runs at 0; stuck-on and DARK runs kept (R109). -/
def lampUnproved (r : LampRecord) : LampRecord :=
  { r with state := .unproved, badLit := 0, goodLit := 0 }

/-- The record of a lamp as it is first held, and after its module's silence (R110, R115). -/
def lampFresh : LampRecord :=
  { state := .unproved, badLit := 0, goodLit := 0, stuckOn := false, stuckRun := 0, goodDark := 0 }

/-- Applies `f` to the records of the lamps that `p` picks. -/
def mapLamps (p : Nat → Bool) (f : LampRecord → LampRecord) (lamps : List (Option LampRecord)) :
    List (Option LampRecord) :=
  lamps.mapIdx fun l o => if p l then o.map f else o

/-- A closure onset returns every RED lamp to UNPROVED (R109). -/
def unproveRedLamps (s : State) : State :=
  endLampFaults (s.setLamp { s.lamp with
    lamps := mapLamps (fun l => lampRed s.eqTab l) lampUnproved s.lamp.lamps })

/-- Red begins: every red report count is 0 (R112). -/
def redBegins (s : State) : State :=
  s.setLamp { s.lamp with modules := s.lamp.modules.map fun m => { m with redCount := 0 } }

/-- What the lamp supervisor does on a change of sequencer state: it commands the new modes and
re-evaluates ROAD_LIGHTS_FAILED (R97, R101, R113). -/
def lampsOnSeqState (s : State) : State := evaluateRoadLights (writeLampSlots s)

/-! ## Judging a sample -/

/-- Kinds of judged samples (R105). -/
inductive SampleKind | goodLit | badLit | goodDark | stuckOn | highDark
  deriving DecidableEq, Repr

/-- Echoed mode codes of a LAMP_REPORT (R183). -/
def lampModeOfCode (n : Nat) : Option LampMode :=
  if n = 0 then some .off else if n = 1 then some .steady else if n = 2 then some .flash else none

/-- Phase codes of a LAMP_REPORT (R183): true for LIT. -/
def litOfCode (n : Nat) : Option Bool :=
  if n = 1 then some true else if n = 2 then some false else none

/-- One channel of a LAMP_REPORT. -/
structure ChannelReport where
  echo : LampMode
  lit : Bool
  sample : Nat
  deriving DecidableEq, Repr

/-- Channel `c` of a LAMP_REPORT payload; none where a code is no valid one (R102, R183). -/
def channelReport (payload : List Byte) (c : Nat) : Option ChannelReport :=
  match lampModeOfCode (byteAt payload (3 * c)).toNat, litOfCode (byteAt payload (3 * c + 1)).toNat with
  | some e, some l => some { echo := e, lit := l, sample := (byteAt payload (3 * c + 2)).toNat }
  | _, _ => none

/-- The kind of a sample that is judged, by phase, commanded mode and value; none where the phase does
not fit the mode (R104, R105). -/
def sampleKind (e : LampEntry) (mode : LampMode) (lit : Bool) (v : Nat) : Option SampleKind :=
  match lit, mode with
  | true, .off => none
  | false, .steady => none
  | true, .steady | true, .flash => some (if e.onLow ≤ v ∧ v ≤ e.onHigh then .goodLit else .badLit)
  | false, .off => some (if v ≤ e.offMax then .goodDark else .stuckOn)
  | false, .flash => some (if v ≤ e.offMax then .goodDark else .highDark)

/-- A run one longer, which stops rising at N_lamp (R106). -/
def runUp (n run : Nat) : Nat := min (run + 1) n

/-- A judged sample acting on a lamp record (R107, R108). -/
def judgeSample (n : Nat) (k : SampleKind) (r : LampRecord) : LampRecord :=
  match k with
  | .goodLit =>
    let g := runUp n r.goodLit
    { r with goodLit := g, badLit := 0,
             state := if r.state = .failed ∧ g < n then .failed else .proved }
  | .badLit =>
    let b := runUp n r.badLit
    { r with badLit := b, goodLit := 0,
             state := if r.state = .failed ∨ n ≤ b then .failed else r.state }
  | .stuckOn =>
    let k := runUp n r.stuckRun
    { r with stuckRun := k, goodDark := 0, stuckOn := r.stuckOn || n ≤ k }
  | .goodDark =>
    let g := runUp n r.goodDark
    { r with goodDark := g, stuckRun := 0, stuckOn := r.stuckOn && g < n }
  | .highDark => { r with stuckRun := 0, goodDark := 0 }

/-- ENTERED for a lamp that enters FAILED by this sample (R114). -/
def enterLampFailed (l v : Nat) (was now : LampRecord) (s : State) : State :=
  if now.state = .failed ∧ was.state ≠ .failed then enterFault (lampFailClass s.eqTab l) l v s else s

/-- ENTERED for a lamp whose stuck-on becomes yes by this sample (R114). -/
def enterLampStuck (l v : Nat) (was now : LampRecord) (s : State) : State :=
  if now.stuckOn ∧ ¬ was.stuckOn then enterFault .lampStuckOn l v s else s

/-- A judged sample acts on lamp `l`: the record, then its classes (R107, R108, R114). -/
def judgeLamp (l : Nat) (k : SampleKind) (v : Nat) (s : State) : State :=
  match s.lampRecord l with
  | none => s
  | some r =>
    let r' := judgeSample (nLampOf s.crTab) k r
    endLampFaults (enterLampStuck l v r r' (enterLampFailed l v r r' (putLamp l r' s)))

/-- One channel of a report taken in: discarded unjudged, or judged (R104). -/
def judgeChannel (j c : Nat) (ch : ChannelReport) (s : State) : State :=
  match lampOnChannel s.eqTab j c with
  | none => s
  | some l =>
    if ch.echo ≠ lampMode s.eqTab s.seq.state l then s
    else
      match sampleKind (lampOf s.eqTab l) ch.echo ch.lit ch.sample with
      | none => s
      | some k => judgeLamp l k ch.sample s

/-- Judges a run of channels in channel order, the first being channel `c` (R102). -/
def judgeChannels (j : Nat) : List ChannelReport → Nat → State → State
  | [], _, s => s
  | ch :: rest, c, s => judgeChannels j rest (c + 1) (judgeChannel j c ch s)

/-! ## Module supervision and intake -/

/-- Some lamp module is SILENT (R103). -/
def State.anyLampModuleSilent (s : State) : Bool :=
  s.lamp.modules.any fun m => m.supervision = .silent

/-- Sets a lamp module's silence expiry and makes it OK (R103). -/
def lampModuleHeard (j timeout : Nat) (s : State) : State :=
  let s := s.setLamp { s.lamp with modules := s.lamp.modules.modify j fun m =>
    { m with supervision := .ok, silence := some (timePlus s.now timeout) } }
  endFaultUnless .lampModuleSilent s.anyLampModuleSilent s

/-- Advances a lamp module's red report count, up to 10 (R112). -/
def countRedReport (j : Nat) (s : State) : State :=
  s.setLamp { s.lamp with modules := s.lamp.modules.modify j fun m =>
    { m with redCount := min (m.redCount + 1) 10 } }

/-- A LAMP_REPORT of lamp module `j`, field module `m`, taken in (R102). -/
def takeLampReport (j m : Nat) (chs : List ChannelReport) (s : State) : State :=
  evaluateRoadLights
    (judgeChannels j chs 0 (countRedReport j (lampModuleHeard j (moduleOf s.eqTab m).silence s)))

/-- Makes a lamp module SILENT: its lamps become UNPROVED with all runs 0 and stuck-on no (R103, R110). -/
def silenceLampModule (j m : Nat) (s : State) : State :=
  let s := s.setLamp
    { lamps := mapLamps (fun l => (lampOf s.eqTab l).module = j) (fun _ => lampFresh) s.lamp.lamps
      modules := s.lamp.modules.modify j fun x => { x with supervision := .silent, silence := none } }
  evaluateRoadLights
    (endLampFaults (enterFault .lampModuleSilent m (moduleOf s.eqTab m).silence s))

/-- The silence expiry of lamp module `j` (R103); a SILENT module's timer does not run. -/
def lampModuleSilence (j : Nat) (s : State) : State :=
  silenceLampModule j ((modulesOfType s.eqTab .lamp).getD j 0) s

/-- The lamp supervisor as an activation or RESTART KEEP leaves it (R115). -/
def lampInitial (s : State) : LampSupervisor :=
  { lamps := (List.range 16).map fun l => if lampInUse s.eqTab l then some lampFresh else none
    modules := (modulesOfType s.eqTab .lamp).map fun m =>
      { supervision := .unknown, silence := some (timePlus s.now (moduleOf s.eqTab m).silence),
        redCount := 0 } }

end Sys2Proof.Machine
end

