-- ==== Sys2Proof/Machine/Barriers.lean ====
section
/-! DEFINITION. The barrier supervisor (chapter 6): commands and proofs, module supervision, road presence,
the exit hold and the crossing proof. -/

namespace Sys2Proof.Machine

/-! ## Records and classes -/

/-- The record of barrier `b`, if it is in use. -/
def State.barrierRecord (s : State) (b : Nat) : Option BarrierRecord := (s.barrier.barriers[b]?).join

/-- Replaces the record of barrier `b`. -/
def putBarrier (b : Nat) (r : BarrierRecord) (s : State) : State :=
  s.setBarrier { s.barrier with barriers := s.barrier.barriers.set b (some r) }

/-- The causes that put a NOT_PROVED barrier in NOT_DOWN or NOT_UP (R130). -/
def causeCounts : Option BarrierCause → Bool
  | some .expired | some .fault | some .lost => true
  | some .silent | none => false

/-- A record in the condition of BARRIER_NOT_DOWN (lower) or BARRIER_NOT_UP (raise) (R130). -/
def recordNotThere (c : BarrierCommand) (r : BarrierRecord) : Bool :=
  r.state = .notProved && r.commanded = c && causeCounts r.cause

/-- Some barrier is in the condition (R130). -/
def State.anyNotThere (s : State) (c : BarrierCommand) : Bool :=
  (List.range 4).any fun b =>
    match s.barrierRecord b with
    | some r => recordNotThere c r
    | none => false

/-- The class of a commanded position not reached (R130). -/
def notThereClass : BarrierCommand → FaultClass
  | .lower => .barrierNotDown
  | .raise => .barrierNotUp

/-- Cause codes (R130). -/
def causeCode : Option BarrierCause → Nat
  | some .expired => 1
  | some .fault => 2
  | some .lost => 3
  | some .silent | none => 0

/-- Position codes (R130). -/
def positionCode : Option BarrierPosition → Nat
  | none => 0
  | some .up => 1
  | some .moving => 2
  | some .down => 3
  | some .fault => 4

/-- Ends NOT_DOWN and NOT_UP where no barrier holds them (R130). -/
def endBarrierFaults (s : State) : State :=
  endFaultUnless .barrierNotUp (s.anyNotThere .raise)
    (endFaultUnless .barrierNotDown (s.anyNotThere .lower) s)

/-- ENTERED for a barrier whose record has come into the condition (R130). -/
def enterNotThere (b : Nat) (was now : BarrierRecord) (s : State) : State :=
  if recordNotThere now.commanded now ∧ ¬ recordNotThere now.commanded was then
    enterFault (notThereClass now.commanded) b
      (16 * causeCode now.cause + positionCode now.lastPosition) s
  else s

/-- Puts a changed record in place and gives the fault reports of the change (R130, R134). -/
def changeBarrier (b : Nat) (was now : BarrierRecord) (s : State) : State :=
  endBarrierFaults (enterNotThere b was now (putBarrier b now s))

/-! ## Giving a command -/

/-- The proving limit of a command (R73, R119). -/
def provingLimit (ct : List Word) : BarrierCommand → Nat
  | .lower => tLowerMaxOf ct
  | .raise => tRaiseMaxOf ct

/-- A record at the giving of a command: UNPROVED, its proof under way (R119). -/
def commandedRecord (c : BarrierCommand) (limit : Time) (r : BarrierRecord) : BarrierRecord :=
  { r with state := .unproved, commanded := c, proving := true, provingExpiry := some limit,
           cause := none }

/-- The field module index of the module that moves barrier `b`. -/
def barrierModuleOf (et : List Word) (b : Nat) : Nat :=
  (modulesOfType et .barrier).getD (barrierOf et b).module 0

/-- Gives a command to barrier `b`: its record, the classes it leaves, its slot (R119). -/
def giveCommand (c : BarrierCommand) (b : Nat) (s : State) : State :=
  match s.barrierRecord b with
  | none => s
  | some r =>
    writeSlot (barrierModuleOf s.eqTab b) (.barrier c)
      (changeBarrier b r (commandedRecord c (timePlus s.now (provingLimit s.crTab c)) r) s)

/-- Gives a command to a run of barriers, in index order. -/
def giveCommands (c : BarrierCommand) : List Nat → State → State
  | [], s => s
  | b :: rest, s => giveCommands c rest (giveCommand c b s)

/-! ## Resolution -/

/-- The proof of the latest command has ended with the barrier proved or NOT_PROVED, the command being
`c` (R81, R89). -/
def recordResolved (c : BarrierCommand) (r : BarrierRecord) : Bool :=
  r.commanded = c && !r.proving && r.state ≠ .unproved

/-- Barrier `b` is resolved for lowering or for raising (R81, R89). -/
def State.resolved (s : State) (c : BarrierCommand) (b : Nat) : Bool :=
  match s.barrierRecord b with
  | some r => recordResolved c r
  | none => false

/-- Every barrier of a list is resolved. -/
def State.allResolved (s : State) (c : BarrierCommand) (bs : List Nat) : Bool := bs.all (s.resolved c)

/-! ## Crossing proof -/

/-- Barrier `b` is PROVED_DOWN. -/
def State.barrierDown (s : State) (b : Nat) : Bool :=
  match s.barrierRecord b with
  | some r => r.state = .provedDown
  | none => false

/-- The conditions of CROSSING_PROVED (R129). -/
def State.crossingProof (s : State) : Bool :=
  s.seq.state = .closed && (barriersInUse s.eqTab).all s.barrierDown && s.sideProved 0 && s.sideProved 1

/-- Evaluates the crossing proof and drives the PROVED line (R129). -/
def evaluateProof (s : State) : State := s.setBarrier { s.barrier with proved := s.crossingProof }

/-! ## Reports -/

/-- The end position of a command. -/
def endPosition : BarrierCommand → BarrierPosition
  | .raise => .up
  | .lower => .down

/-- The proved state of a command. -/
def provedState : BarrierCommand → BarrierState
  | .raise => .provedUp
  | .lower => .provedDown

/-- A record proved in its commanded position, by an end of proof or a late proof (R121). -/
def recordProved (r : BarrierRecord) : BarrierRecord :=
  { r with state := provedState r.commanded, proving := false, provingExpiry := none, cause := none }

/-- A record NOT_PROVED with a cause; a proof under way ends (R121, R122, R123, R124). -/
def recordLost (cause : BarrierCause) (r : BarrierRecord) : BarrierRecord :=
  { r with state := .notProved, proving := false, provingExpiry := none, cause := some cause }

/-- A report acting on a barrier record outside INIT_SAFE (R121, R123); `echo` is none for NONE. -/
def reportOnRecord (pos : BarrierPosition) (echo : Option BarrierCommand) (r : BarrierRecord) :
    BarrierRecord :=
  if pos = .fault then recordLost .fault r
  else if echo = some r.commanded then
    if pos = endPosition r.commanded then
      if r.proving ∨ r.state = .notProved then recordProved r else r
    else if ¬ r.proving ∧ r.state = provedState r.commanded then recordLost .lost r
    else r
  else r

/-- The first report after a silence that leaves the barrier NOT_PROVED makes its cause EXPIRED (R120). -/
def silenceOver (r : BarrierRecord) : BarrierRecord :=
  if r.state = .notProved ∧ r.cause = some .silent then { r with cause := some .expired } else r

/-- Some barrier module is SILENT (R124). -/
def State.anyBarrierModuleSilent (s : State) : Bool :=
  s.barrier.modules.any fun m => m.supervision = .silent

/-- Sets a barrier module's silence expiry and makes it OK (R124). -/
def barrierModuleHeard (j timeout : Nat) (s : State) : State :=
  let s := s.setBarrier { s.barrier with modules := s.barrier.modules.modify j fun m =>
    { m with supervision := .ok, silence := some (timePlus s.now timeout) } }
  endFaultUnless .barrierModuleSilent s.anyBarrierModuleSilent s

/-- What a report taken in leaves in the record of its barrier (R120, steps 2 to 4). -/
def reportedRecord (st : SeqState) (pos : BarrierPosition) (echo : Option BarrierCommand)
    (r : BarrierRecord) : BarrierRecord :=
  let r := { r with lastPosition := some pos }
  if st = .initSafe then r else silenceOver (reportOnRecord pos echo r)

/-- A BARRIER_REPORT of barrier module `j`, field module `m`, taken in, up to what the sequencer is told
(R120). -/
def takeBarrierReport (j m : Nat) (pos : BarrierPosition) (echo : Option BarrierCommand) (s : State) :
    State :=
  let s := barrierModuleHeard j (moduleOf s.eqTab m).silence s
  match barrierOfModule s.eqTab j with
  | none => s
  | some b =>
    match s.barrierRecord b with
    | none => s
    | some r => changeBarrier b r (reportedRecord s.seq.state pos echo r) s

/-- The proving expiry of barrier `b`: NOT_PROVED, cause EXPIRED (R122). -/
def expireProof (b : Nat) (s : State) : State :=
  match s.barrierRecord b with
  | none => s
  | some r => changeBarrier b r (recordLost .expired r) s

/-- A barrier module's silence acting on its barrier outside INIT_SAFE (R124). -/
def silenceBarrier (b : Nat) (s : State) : State :=
  if s.seq.state = .initSafe then s
  else
    match s.barrierRecord b with
    | none => s
    | some r => changeBarrier b r (recordLost .silent r) s

/-- The silence expiry of barrier module `j` (R124). -/
def barrierModuleSilence (j : Nat) (s : State) : State :=
  let m := (modulesOfType s.eqTab .barrier).getD j 0
  let s := s.setBarrier { s.barrier with modules := s.barrier.modules.modify j fun x =>
    { x with supervision := .silent, silence := none } }
  let s := enterFault .barrierModuleSilent m (moduleOf s.eqTab m).silence s
  match barrierOfModule s.eqTab j with
  | none => s
  | some b => silenceBarrier b s

/-! ## Road presence and the exit hold -/

/-- Presence module `j` is taken as PRESENT (R125). -/
def State.presenceTaken (s : State) (j : Nat) : Bool :=
  match s.barrier.presence[j]? with
  | some m => m.taken = .present
  | none => false

/-- The crossing zone is occupied (R125). -/
def State.occupied (s : State) : Bool := s.barrier.presence.any fun m => m.taken = .present

/-- Some presence module is SILENT (R124). -/
def State.anyPresenceModuleSilent (s : State) : Bool :=
  s.barrier.presence.any fun m => m.supervision = .silent

/-- The presence modules taken as PRESENT: 1 for module 0, 2 for module 1, 3 for both (R130). -/
def State.presenceMask (s : State) : Nat :=
  (if s.presenceTaken 0 then 1 else 0) + (if s.presenceTaken 1 then 2 else 0)

/-- A record that is held: the command stands, and the exit wait runs (R126). -/
def recordHeld (limit : Time) (r : BarrierRecord) : BarrierRecord :=
  { r with held := true, exitWait := some limit }

/-- A record that is released (R127). -/
def recordReleased (r : BarrierRecord) : BarrierRecord := { r with held := false, exitWait := none }

/-- Holds barrier `b` up (R126). -/
def holdBarrier (b : Nat) (s : State) : State :=
  match s.barrierRecord b with
  | none => s
  | some r => putBarrier b (recordHeld (timePlus s.now (tExitWaitMaxOf s.crTab)) r) s

/-- Holds a run of barriers up. -/
def holdBarriers : List Nat → State → State
  | [], s => s
  | b :: rest, s => holdBarriers rest (holdBarrier b s)

/-- The exit hold at the start of exit lowering (R126). -/
def startExitHold (s : State) : State :=
  if s.occupied then holdBarriers (exitBarriers s.eqTab) s
  else giveCommands .lower (exitBarriers s.eqTab) s

/-- Barrier `b` is held. -/
def State.barrierHeld (s : State) (b : Nat) : Bool :=
  match s.barrierRecord b with
  | some r => r.held
  | none => false

/-- A barrier holds CROSSING_OBSTRUCTED active: held, its exit wait expiry reached (R128). -/
def State.barrierObstructed (s : State) (b : Nat) : Bool :=
  match s.barrierRecord b with
  | some r => r.held && r.exitWait = none
  | none => false

/-- Ends CROSSING_OBSTRUCTED where no EXIT barrier holds it (R128). -/
def endObstructed (s : State) : State :=
  endFaultUnless .crossingObstructed ((exitBarriers s.eqTab).any s.barrierObstructed) s

/-- Releases barrier `b` if it is held, and gives it LOWER (R127). -/
def releaseBarrier (b : Nat) (s : State) : State :=
  match s.barrierRecord b with
  | none => s
  | some r => if r.held then giveCommand .lower b (putBarrier b (recordReleased r) s) else s

/-- Releases a run of barriers. -/
def releaseBarriers : List Nat → State → State
  | [], s => s
  | b :: rest, s => releaseBarriers rest (releaseBarrier b s)

/-- Takes barrier `b` back up and holds it if its lowering proof is under way (R127). -/
def takeBackBarrier (b : Nat) (s : State) : State :=
  match s.barrierRecord b with
  | none => s
  | some r => if r.proving ∧ r.commanded = .lower then holdBarrier b (giveCommand .raise b s) else s

/-- Takes a run of barriers back up. -/
def takeBackBarriers : List Nat → State → State
  | [], s => s
  | b :: rest, s => takeBackBarriers rest (takeBackBarrier b s)

/-- What a change of occupancy does to the EXIT barriers, `was` being the occupancy before: only in
EXIT_LOWERING with exit lowering started (R127). -/
def occupancyChanged (was : Bool) (s : State) : State :=
  if s.seq.state = .exitLowering ∧ s.seq.exitStarted ∧ s.occupied ≠ was then
    if s.occupied then takeBackBarriers (exitBarriers s.eqTab) s
    else endObstructed (releaseBarriers (exitBarriers s.eqTab) s)
  else s

/-- Sets a presence module's silence expiry, makes it OK, and takes its report (R124, R125). -/
def presenceModuleHeard (j timeout : Nat) (v : Presence) (s : State) : State :=
  let s := s.setBarrier { s.barrier with presence := s.barrier.presence.modify j fun m =>
    { m with supervision := .ok, silence := some (timePlus s.now timeout), taken := v } }
  endFaultUnless .presenceModuleSilent s.anyPresenceModuleSilent s

/-- A PRESENCE_REPORT of presence module `j`, field module `m`, taken in (R125). -/
def takePresenceReport (j m : Nat) (v : Presence) (s : State) : State :=
  occupancyChanged s.occupied (presenceModuleHeard j (moduleOf s.eqTab m).silence v s)

/-- The silence expiry of presence module `j`: SILENT, and taken as PRESENT (R124, R125). -/
def presenceModuleSilence (j : Nat) (s : State) : State :=
  let m := (modulesOfType s.eqTab .presence).getD j 0
  let was := s.occupied
  let s := s.setBarrier { s.barrier with presence := s.barrier.presence.modify j fun x =>
    { x with supervision := .silent, silence := none, taken := .present } }
  occupancyChanged was (enterFault .presenceModuleSilent m (moduleOf s.eqTab m).silence s)

/-- The exit wait expiry of barrier `b` (R128, R130). -/
def expireExitWait (b : Nat) (s : State) : State :=
  match s.barrierRecord b with
  | none => s
  | some r => enterFault .crossingObstructed b s.presenceMask (putBarrier b { r with exitWait := none } s)

/-! ## Initial records -/

/-- A barrier record as an activation or RESTART KEEP leaves it, before any command (R119, R132). -/
def barrierFresh : BarrierRecord :=
  { state := .unproved, commanded := .lower, proving := false, provingExpiry := none, cause := none,
    lastPosition := none, held := false, exitWait := none }

/-- The barrier supervisor as an activation or RESTART KEEP leaves it (R132). -/
def barrierInitial (s : State) : BarrierSupervisor :=
  { barriers := (List.range 4).map fun b => if barrierInUse s.eqTab b then some barrierFresh else none
    modules := (modulesOfType s.eqTab .barrier).map fun m =>
      { supervision := .unknown, silence := some (timePlus s.now (moduleOf s.eqTab m).silence) }
    presence := (modulesOfType s.eqTab .presence).map fun m =>
      { supervision := .unknown, silence := some (timePlus s.now (moduleOf s.eqTab m).silence),
        taken := .present }
    proved := false }

end Sys2Proof.Machine
end

