-- ==== Sys2Proof/Machine/Sequencer.lean ====
section
/-! DEFINITION. Supervision of approaches (R46, R47, R35), demand, and the crossing sequencer (chapter 4). -/

namespace Sys2Proof.Machine

/-! ## Sections and supervision -/

/-- Section `n` of track `trk`, if it exists. -/
def State.sectionAt (s : State) (trk n : Nat) : Option TrackSection :=
  s.axle.sections.find? fun x => x.track = trk && x.number = n

/-- Section `n` of track `trk` is CLEAR. -/
def State.sectionClear (s : State) (trk n : Nat) : Bool :=
  match s.sectionAt trk n with
  | some x => x.state = .clear
  | none => false

/-- Section `n` of track `trk` is DISTURBED or PREPARED. -/
def State.sectionUntrusted (s : State) (trk n : Nat) : Bool :=
  match s.sectionAt trk n with
  | some x => x.state = .disturbed || x.state = .prepared
  | none => false

/-- Detector `d` is OK (R10). -/
def State.detectorOk (s : State) (d : Nat) : Bool :=
  match (s.axle.detectors[d]?).join with
  | some r => r.state = .ok
  | none => false

/-- The overflow flag of an approach (R35). -/
def State.overflowed (s : State) (a : Nat) : Bool := s.tracker.overflow.getD a false

/-- An approach is unsupervised (R46). -/
def State.unsupervised (s : State) (a : Nat) : Bool :=
  approachConfigured s.detTab a &&
    ((pathOf s.detTab a).any (fun d => !s.detectorOk d)
      || (approachSections s.detTab a).any (s.sectionUntrusted (approachTrack a))
      || s.overflowed a)

/-- The overflow flag of an approach may clear: all its approach sections are CLEAR, or the island section
where it has none (R35). -/
def State.overflowOver (s : State) (a : Nat) : Bool :=
  match approachSections s.detTab a with
  | [] => s.sectionClear (approachTrack a) (islandSection s.detTab (approachTrack a))
  | secs => secs.all (s.sectionClear (approachTrack a))

/-- Clears the overflow flags whose condition for it holds (R35). -/
def clearOverflow (s : State) : State :=
  s.setTracker { s.tracker with overflow := s.tracker.overflow.mapIdx fun a f => f && !s.overflowOver a }

/-- A record that has become WARNED (R45). -/
def warnRecord (now : Time) (r : TrainRecord) : TrainRecord :=
  { r with state := .warned, scheduledStart := none, warnedAt := some now }

/-- A record of an unsupervised approach: WARNED if it was APPROACHING (R47). -/
def superviseRecord (s : State) (r : TrainRecord) : TrainRecord :=
  if r.state = .approaching ∧ s.unsupervised r.approach then warnRecord s.now r else r

/-- Every APPROACHING record of an unsupervised approach becomes WARNED (R47). -/
def warnUnsupervised (s : State) : State :=
  s.setTracker { s.tracker with records := s.tracker.records.map (superviseRecord s) }

/-! ## Demand -/

/-- Some record is WARNED or IN_ISLAND (R75). -/
def State.recordDemand (s : State) : Bool :=
  s.tracker.records.any fun r => r.state ≠ .approaching

/-- The island section of some configured track is not CLEAR (R75). -/
def State.islandDemand (s : State) : Bool :=
  (List.range 4).any fun trk =>
    trackConfigured s.detTab trk && !s.sectionClear trk (islandSection s.detTab trk)

/-- Some approach is unsupervised (R75). -/
def State.supervisionDemand (s : State) : Bool := (List.range 8).any s.unsupervised

/-- Demand (R75). -/
def State.demand (s : State) : Bool := s.recordDemand || s.islandDemand || s.supervisionDemand

/-- Detail of PROLONGED_CLOSURE: what gives demand (R92). -/
def State.demandDetail (s : State) : Nat :=
  (if s.recordDemand then 1 else 0) + (if s.islandDemand then 2 else 0)
    + (if s.supervisionDemand then 4 else 0)

/-! ## Transitions -/

/-- The sequencer is in a closure (R64, R72). -/
def inClosure : SeqState → Bool
  | .amber | .redFlash | .entryLowering | .exitLowering | .closed => true
  | .initSafe | .opened | .raising => false

/-- Enters a sequencer state, which the lamp supervisor acts on at once (R97). -/
def enterState (st : SeqState) (s : State) : State :=
  lampsOnSeqState (s.setSeq { s.seq with state := st })

/-- Sets the closure onset and the long closure expiry, and returns the red lamps to UNPROVED (R77,
R109). -/
def setOnset (s : State) : State :=
  unproveRedLamps (s.setSeq { s.seq with
    onset := some s.now, longClosure := some (timePlus s.now (tLongClosureOf s.crTab)) })

/-- OPEN to AMBER (R78). -/
def enterAmber (s : State) : State :=
  let s := setOnset s
  enterState .amber (s.setSeq { s.seq with amber := some (timePlus s.now (tAmberOf s.crTab)) })

/-- AMBER to RED_FLASH; red begins (R79, R112). -/
def enterRedFlash (s : State) : State :=
  let s := redBegins s
  enterState .redFlash
    (s.setSeq { s.seq with amber := none, red := some (timePlus s.now (tRedPreOf s.crTab)) })

/-- RAISING to OPEN (R89). -/
def enterOpen (s : State) : State := enterState .opened s

/-- In RAISING: every barrier resolved for raising takes the sequencer to OPEN (R88, R89). -/
def checkRaised (s : State) : State :=
  if s.allResolved .raise (barriersInUse s.eqTab) then enterOpen s else s

/-- Sets prolonged to no, which ends PROLONGED_CLOSURE (R92). -/
def clearProlonged (s : State) : State :=
  endFault .prolongedClosure (s.setSeq { s.seq with prolonged := false })

/-- CLOSED to RAISING (R88). -/
def enterRaising (s : State) : State :=
  let s := clearProlonged (s.setSeq { s.seq with onset := none, longClosure := none })
  checkRaised (giveCommands .raise (barriersInUse s.eqTab) (enterState .raising s))

/-- An APPROACHING record whose scheduled start lies before the end of the reopen window (R86). -/
def holdsClosed (limit : Time) (r : TrainRecord) : Bool :=
  r.state = .approaching &&
    (match r.scheduledStart with
     | some t => timeBefore t limit
     | none => false)

/-- The reopen decision: hold CLOSED, or enter RAISING (R86). -/
def reopenDecision (s : State) : State :=
  if s.tracker.records.any (holdsClosed (timePlus s.now (tReopenMinOf s.crTab))) then s
  else enterRaising s

/-- EXIT_LOWERING to CLOSED, and the reopen decision at once where demand is absent (R83, R85). -/
def enterClosed (s : State) : State :=
  let s := enterState .closed (s.setSeq { s.seq with exitDelay := none, exitStarted := false })
  if s.demand then s else reopenDecision s

/-- Exit lowering started: every EXIT barrier resolved for lowering takes the sequencer to CLOSED
(R83). -/
def checkExitLowered (s : State) : State :=
  if s.allResolved .lower (exitBarriers s.eqTab) then enterClosed s else s

/-- Exit lowering starts (R83, R126). -/
def startExitLowering (s : State) : State :=
  checkExitLowered (startExitHold (s.setSeq { s.seq with exitDelay := none, exitStarted := true }))

/-- ENTRY_LOWERING to EXIT_LOWERING; with T_exit_delay 0 exit lowering starts at that moment (R82, R83). -/
def enterExitLowering (s : State) : State :=
  let s := enterState .exitLowering (s.setSeq { s.seq with exitStarted := false })
  if tExitDelayOf s.crTab = 0 then startExitLowering s
  else s.setSeq { s.seq with exitDelay := some (timePlus s.now (tExitDelayOf s.crTab)) }

/-- In ENTRY_LOWERING: every ENTRY barrier resolved for lowering takes the sequencer on (R82). -/
def checkEntryLowered (s : State) : State :=
  if s.allResolved .lower (entryBarriers s.eqTab) then enterExitLowering s else s

/-- Into ENTRY_LOWERING, with LOWER given to every ENTRY barrier (R80, R90). -/
def enterEntryLowering (s : State) : State :=
  checkEntryLowered (giveCommands .lower (entryBarriers s.eqTab) (enterState .entryLowering s))

/-- RED_FLASH to ENTRY_LOWERING (R80). -/
def leaveRedFlash (s : State) : State := enterEntryLowering (s.setSeq { s.seq with red := none })

/-- RAISING to ENTRY_LOWERING: a new closure onset, and red begins anew (R90, R112). -/
def relower (s : State) : State := enterEntryLowering (redBegins (setOnset s))

/-- Demand present in a closure whose long closure expiry has been reached makes it prolonged (R92). -/
def checkProlonged (s : State) : State :=
  if s.seq.longClosure = none ∧ ¬ s.seq.prolonged then
    enterFault .prolongedClosure 0 s.demandDetail (s.setSeq { s.seq with prolonged := true })
  else s

/-- The sequencer acts on demand as its state says (R75, R78, R84, R86, R87, R90, R92, R93). -/
def actOnDemand (s : State) : State :=
  match s.seq.state with
  | .initSafe => s
  | .opened => if s.demand then enterAmber s else s
  | .raising => if s.demand then relower s else s
  | .closed => if s.demand then checkProlonged s else reopenDecision s
  | .amber | .redFlash | .entryLowering | .exitLowering => if s.demand then checkProlonged s else s

/-- A change of a detector, a section or a record made known to the train tracker and the sequencer:
overflow flags, supervision, demand (R6, R10, R35, R47, R48, R75). -/
def react (s : State) : State := actOnDemand (warnUnsupervised (clearOverflow s))

/-- The end of a barrier's proof made known to the sequencer (R82, R83, R89). -/
def barrierResolved (s : State) : State :=
  match s.seq.state with
  | .entryLowering => checkEntryLowered s
  | .exitLowering => if s.seq.exitStarted then checkExitLowered s else s
  | .raising => checkRaised s
  | .initSafe | .opened | .amber | .redFlash | .closed => s

/-- A proof of barrier `b` was under way in `before`. -/
def State.proving (before : State) (b : Nat) : Bool :=
  match before.barrierRecord b with
  | some r => r.proving
  | none => false

/-- Tells the sequencer of the proofs that were under way in `before` and have ended (R81, R89, R121). -/
def tellEndedProofs (before s : State) : State :=
  if (List.range 4).any fun b => before.proving b && !s.proving b then barrierResolved s else s

/-- INIT_SAFE to CLOSED with a safety set active: closure onset, red begins, LOWER to every barrier, then
demand as in CLOSED (R93). -/
def leaveInitSafe (s : State) : State :=
  let s := redBegins (setOnset s)
  actOnDemand (giveCommands .lower (barriersInUse s.eqTab) (enterState .closed s))

/-- The long closure expiry (R92). -/
def longClosureReached (s : State) : State :=
  let s := s.setSeq { s.seq with longClosure := none }
  if s.demand then checkProlonged s else s

end Sys2Proof.Machine
end

