-- ==== Sys2Proof/Machine/Reporting.lean ====
section
/-! DEFINITION. What the fault unit sends the signaller: the status telegram, when it is due, and the passage
report (sections 7.7 and 7.8). -/

namespace Sys2Proof.Machine

/-- Sequencer state codes (R183). -/
def seqStateCode : SeqState → Nat
  | .initSafe => 0 | .opened => 1 | .amber => 2 | .redFlash => 3 | .entryLowering => 4
  | .exitLowering => 5 | .closed => 6 | .raising => 7

/-- Activation state codes (R183). -/
def activationCode : Activation → Nat
  | .idle => 0
  | .awaitConfirm => 1
  | .awaitQuiescent => 2

/-- The records of one approach, in approach order (R28). -/
def State.recordsOf (s : State) (a : Nat) : List TrainRecord :=
  s.tracker.records.filter fun r => r.approach = a

/-- The earlier of an optional time and one more. -/
def earliestOf (best : Option Time) (t : Time) : Option Time :=
  match best with
  | none => some t
  | some b => some (timeEarlier b t)

/-- The scheduled start of a record while it is APPROACHING. -/
def approachingStart (r : TrainRecord) : Option Time :=
  if r.state = .approaching then r.scheduledStart else none

/-- The earliest scheduled start among the APPROACHING records of an approach (R48). -/
def State.earliestStart (s : State) (a : Nat) : Option Time :=
  ((s.recordsOf a).filterMap approachingStart).foldl earliestOf none

/-- Number of sections that are not CLEAR (R144). -/
def State.nonClearSections (s : State) : Nat :=
  (s.axle.sections.filter fun x => x.state ≠ .clear).length

/-- What the status telegram reports of one approach (R48, R144). -/
structure ApproachReport where
  count : Nat
  warned : Bool
  earliest : Option Time
  deriving DecidableEq, Repr

/-- The report of approach `a` (R48). -/
def State.approachReport (s : State) (a : Nat) : ApproachReport :=
  { count := (s.recordsOf a).length
    warned := (s.recordsOf a).any fun r => r.state ≠ .approaching
    earliest := s.earliestStart a }

/-- The reported content: every field of R144 whose change makes a status telegram due (R145). -/
structure ReportedContent where
  seqState : SeqState
  proved : Bool
  groups : BitVec 4
  latched : BitVec 24
  active : BitVec 24
  approaches : List ApproachReport
  nonClear : Nat
  activation : Activation
  identity : Word
  deriving DecidableEq, Repr

/-- The reported content of a state (R144, R145). -/
def State.reported (s : State) : ReportedContent :=
  { seqState := s.seq.state
    proved := s.barrier.proved
    groups := s.fault.groups
    latched := s.fault.latched
    active := s.fault.active
    approaches := (List.range 8).map s.approachReport
    nonClear := s.nonClearSections
    activation := s.config.activation
    identity := s.config.activeIdentity }

/-- A set of fault classes as three bytes: class n is bit (n mod 8) of byte (n div 8) (R181). -/
def classSetBytes (x : BitVec 24) : List Byte :=
  [x.extractLsb' 0 8, x.extractLsb' 8 8, x.extractLsb' 16 8]

/-- Seconds from the time of forming to an earliest start, rounded down and capped at 255 (R144). -/
def startSeconds (now t : Time) : Nat := min ((t - now).toNat / 1000) 255

/-- The two bytes of one approach in a STATUS payload (R183). -/
def approachBytes (now : Time) (r : ApproachReport) : List Byte :=
  [BitVec.ofNat 8 (r.count + (if r.earliest.isSome then 64 else 0) + (if r.warned then 128 else 0)),
   BitVec.ofNat 8 (match r.earliest with
     | some t => startSeconds now t
     | none => 0)]

/-- Payload of a STATUS telegram formed at `now` (R144, R183). -/
def statusPayload (now : Time) (c : ReportedContent) : List Byte :=
  bytes4 now
    ++ [BitVec.ofNat 8 (seqStateCode c.seqState), if c.proved then 1 else 0, c.groups.zeroExtend 8]
    ++ classSetBytes c.latched ++ classSetBytes c.active
    ++ c.approaches.flatMap (approachBytes now)
    ++ [BitVec.ofNat 8 c.nonClear, BitVec.ofNat 8 (activationCode c.activation)]
    ++ bytes2 c.identity

/-- Kind code of STATUS (R182). -/
def kindStatus : Byte := 0x30

/-- Kind code of PASSAGE (R182). -/
def kindPassage : Byte := 0x31

/-- The status telegram of a state (R145). -/
def State.statusTelegram (s : State) : Telegram :=
  { dst := signallerAddressOf s.crTab, src := s.ownAddress, kind := kindStatus,
    payload := statusPayload s.now s.reported }

/-- A queue entry is a status telegram. -/
def entryIsStatus (e : QueueEntry) : Bool := e.tel.kind = kindStatus

/-- A queue entry is a passage report. -/
def entryIsPassage (e : QueueEntry) : Bool := e.tel.kind = kindPassage

/-- Forms the waiting status telegram anew in place, keeping its joining time (R147). DESIGN CHOICE (log 27): every
field, the source too; one queued before an ACTIVATE_LOOP and refreshed at or after it leaves with the new own address, where R168 lets a
telegram already formed keep its source. -/
def refreshEntry (t : Telegram) (e : QueueEntry) : QueueEntry :=
  if entryIsStatus e then { e with tel := t } else e

/-- A status telegram is due: refreshed where one waits, queued otherwise; never with no crossing table
active, and not on a DOWN signaller port (R145, R147). DESIGN CHOICE (log 27): a refresh at or after an ACTIVATE_LOOP gives
the waiting telegram the new own address as source, against the wording of R168 and R152. -/
def statusDue (s : State) : State :=
  let p := s.signallerPort
  let ps := s.port p
  if s.safetyActive = false ∨ ps.link = .down then s
  else if ps.status.any entryIsStatus then
    s.setPort p { ps with status := ps.status.map (refreshEntry s.statusTelegram) }
  else joinQueue p .status s.statusTelegram none s

/-- At the end of an event: a status telegram is due when the event makes it so, or when the reported
content is not what it was before the event (R145, log 5). DESIGN CHOICE (log 28): it joins its queue after every
other telegram of the event. -/
def finish (before : State) (due : Bool) (s : State) : State :=
  if due ∨ s.reported ≠ before.reported then statusDue s else s

/-! ## Passage reports -/

/-- Outcomes of a passage (R44). -/
inductive PassageOutcome | cleared | receded
  deriving DecidableEq, Repr

/-- Outcome codes (R183). -/
def outcomeCode : PassageOutcome → Nat
  | .cleared => 1
  | .receded => 2

/-- Flag byte of a PASSAGE: bit 0 MERGED, 1 SHORT, 2 OVERSPEED, 3 RECEDING (R183). -/
def passageFlags (r : TrainRecord) : Nat :=
  (if r.merged then 1 else 0) + (if r.short then 2 else 0) + (if r.overspeed then 4 else 0)
    + (if r.receding then 8 else 0)

/-- The achieved warning a passage report carries: absent for RECEDED (R44); absent is all ones (R183). -/
def passageAchieved (o : PassageOutcome) (r : TrainRecord) : BitVec 32 :=
  match o, r.achieved with
  | .cleared, some w => BitVec.ofNat 32 w
  | .cleared, none => 0xFFFFFFFF
  | .receded, _ => 0xFFFFFFFF

/-- Payload of a PASSAGE telegram (R44, R183). -/
def passagePayload (o : PassageOutcome) (r : TrainRecord) : List Byte :=
  [BitVec.ofNat 8 r.approach, r.tag]
    ++ bytes2 (BitVec.ofNat 16 r.peak)
    ++ bytes2 (BitVec.ofNat 16 (r.entrySpeed.getD 0))
    ++ bytes4 (passageAchieved o r)
    ++ [BitVec.ofNat 8 (outcomeCode o), BitVec.ofNat 8 (passageFlags r)]

/-- Passage reports a STATUS queue takes: one of its eight places is kept (R150, R162). -/
def passageCapacity : Nat := 7

/-- Number of passage reports waiting in a STATUS queue. -/
def passagesWaiting (ps : PortState) : Nat := (ps.status.filter entryIsPassage).length

/-- A passage report handed over: queued on the signaller port, or dropped with NOTICE (R149, R150). -/
def handPassageReport (o : PassageOutcome) (r : TrainRecord) (s : State) : State :=
  let p := s.signallerPort
  if (s.port p).link = .down ∨ passageCapacity ≤ passagesWaiting (s.port p) then
    raiseNotice (38 + portNumber p) (256 * r.approach + r.tag.toNat) s
  else
    joinQueue p .status { dst := signallerAddressOf s.crTab, src := s.ownAddress, kind := kindPassage,
                          payload := passagePayload o r } none s

end Sys2Proof.Machine
end

