-- ==== Sys2Proof/Machine/Warning.lean ====
section
/-! DEFINITION. The warning computer (chapter 3): spot speed, arrivals, candidate start, judgements. Every call
takes the record it is made for and answers the record and the state it leaves. -/

namespace Sys2Proof.Machine

/-- A wheel passage (R20). -/
structure WheelPassage where
  detector : Nat
  track : Nat
  direction : Direction
  passage : Time
  interval : Nat
  underflowed : Bool
  deriving DecidableEq, Repr

/-- The highest spot speed used, in cm/s (R55). -/
def maxSpotSpeed : Nat := 7000

/-- Clamps a speed to V_floor .. 7000 (R55). -/
def clampSpeed (ap : ApproachEntry) (v : Nat) : Nat := max ap.vFloor (min v maxSpotSpeed)

/-- Spot speed v0 from the head spacing and the head interval (R55). -/
def spotSpeed (ap : ApproachEntry) (spacing interval : Nat) : Nat :=
  clampSpeed ap (if interval = 0 then ap.vLine else ceilDiv (spacing * 100000) interval)

/-- Acceleration distance d_acc (R59). -/
def accelDistance (ap : ApproachEntry) (v0 : Nat) : Nat :=
  ceilDiv (ap.vLine ^ 2 - v0 ^ 2) (2 * ap.aMax)

/-- Worst-case arrival t_worst over a distance in cm (R58, R59, R60). -/
def worstArrival (ap : ApproachEntry) (dCm v0 : Nat) : Nat :=
  if ap.vLine ≤ v0 then dCm * 1000 / v0
  else if dCm ≤ accelDistance ap v0 then
    (isqrt (v0 ^ 2 + 2 * ap.aMax * dCm) - v0) * 1000 / ap.aMax
  else
    (ap.vLine - v0) * 1000 / ap.aMax + (dCm - accelDistance ap v0) * 1000 / ap.vLine

/-- Nominal arrival t_nom (R61). -/
def nominalArrival (dCm v0 : Nat) : Nat := dCm * 1000 / v0

/-- The smaller of the safe and the target offset (R62). -/
def startOffset (ap : ApproachEntry) (tWorst tNom : Nat) : Int :=
  min ((tWorst : Int) - ap.twMin) ((tNom : Int) - ap.twTarget)

/-- Candidate start (R62). -/
def candidateStart (ap : ApproachEntry) (tPass : Time) (tWorst tNom : Nat) : Time :=
  tPass + BitVec.ofInt 32 (startOffset ap tWorst tNom)

/-- Distance to run from a detector, D × 10 cm (R54). -/
def State.distanceCm (s : State) (d : Nat) : Nat := distanceOf s.detTab s.crTab d * 10

/-- The approach table entry a call for a record reads (R51, R54). -/
def State.approachEntry (s : State) (r : TrainRecord) : ApproachEntry := approachOf s.appTab r.approach

/-- v0 of a call (R54, R55). -/
def State.callSpeed (s : State) (w : WheelPassage) (r : TrainRecord) : Nat :=
  spotSpeed (s.approachEntry r) (detectorOf s.detTab w.detector).spacing w.interval

/-- A measured speed written into the record: the last head speed, and the entry speed in a call at the
record's creation (R56). -/
def writeSpeed (w : WheelPassage) (creation : Bool) (v0 : Nat) (r : TrainRecord) : TrainRecord :=
  if w.interval = 0 then r
  else { r with lastSpeed := some v0, entrySpeed := if creation then some v0 else r.entrySpeed }

/-- Spot speed and overspeed check, the stages of every call (R53, R55, R56, R57). -/
def speedStages (w : WheelPassage) (creation : Bool) (r : TrainRecord) (s : State) :
    TrainRecord × State :=
  let v0 := s.callSpeed w r
  let r' := writeSpeed w creation v0 r
  if (s.approachEntry r).vLine < v0 then
    ({ r' with overspeed := true }, raiseFault .overspeed w.detector v0 s)
  else (r', s)

/-- The reference of the judgements: the closure onset in a closure, else the present time (R64, R65). -/
def State.reference (s : State) : Time :=
  if inClosure s.seq.state then s.seq.onset.getD s.now else s.now

/-- Detail of a predicted SHORT_WARNING (R70). -/
def predictedDetail (available : Int) : Nat := min (available.toNat / 100) 32767

/-- The available warning of a head passage (R65). -/
def availableWarning (tPass : Time) (tWorst : Nat) (reference : Time) : Int :=
  (tPass + BitVec.ofNat 32 tWorst - reference).toInt

/-- Predicted short-warning judgement (R65). -/
def judgePredicted (tPass : Time) (tWorst : Nat) (r : TrainRecord) (s : State) : TrainRecord × State :=
  let available := availableWarning tPass tWorst s.reference
  if available < (s.approachEntry r).twMin then
    ({ r with short := true }, raiseFault .shortWarning r.approach (predictedDetail available) s)
  else (r, s)

/-- The scheduled start after a call: the earlier of the old and the new for a MERGED record (R34, R63). -/
def newStart (r : TrainRecord) (candidate : Time) : Time :=
  if r.merged then
    match r.scheduledStart with
    | some old => timeEarlier old candidate
    | none => candidate
  else candidate

/-- A STRIKE-IN (creation), MERGE or ADVANCE call (R53): speed, overspeed, arrivals, start, predicted
judgement. -/
def scheduleCall (w : WheelPassage) (creation : Bool) (r : TrainRecord) (s : State) :
    TrainRecord × State :=
  let v0 := s.callSpeed w r
  let ap := s.approachEntry r
  let tWorst := worstArrival ap (s.distanceCm w.detector) v0
  let tNom := nominalArrival (s.distanceCm w.detector) v0
  let x := speedStages w creation r s
  judgePredicted w.passage tWorst
    { x.1 with scheduledStart := some (newStart x.1 (candidateStart ap w.passage tWorst tNom)) } x.2

/-- A CHECK call (R53). -/
def checkCall (w : WheelPassage) (r : TrainRecord) (s : State) : TrainRecord × State :=
  speedStages w false r s

/-- The achieved warning at island entry (R68). -/
def State.achievedWarning (s : State) (entry : Time) : Nat :=
  if inClosure s.seq.state then
    match s.seq.onset with
    | some t => if timeBefore t entry then (entry - t).toNat else 0
    | none => 0
  else 0

/-- Achieved-warning judgement (R69, R70). -/
def judgeAchieved (achieved : Nat) (r : TrainRecord) (s : State) : TrainRecord × State :=
  let ap := s.approachEntry r
  if achieved < ap.twMin then
    ({ r with short := true }, raiseFault .shortWarning r.approach (32768 + achieved / 100) s)
  else if ap.twTarget + ap.twTol < achieved then
    (r, raiseFault .longWarning r.approach (min (achieved / 100) 65535) s)
  else (r, s)

/-- An ISLAND call with the island entry it belongs to (R39, R66, R67): speed and overspeed; a record that
was APPROACHING becomes WARNED and is judged; then IN_ISLAND and the achieved judgement. -/
def islandCall (w : WheelPassage) (creation : Bool) (r : TrainRecord) (s : State) :
    TrainRecord × State :=
  let tWorst := worstArrival (s.approachEntry r) (s.distanceCm w.detector) (s.callSpeed w r)
  let x := speedStages w creation r s
  let y := if x.1.state = .approaching then judgePredicted w.passage tWorst (warnRecord s.now x.1) x.2
           else x
  let achieved := s.achievedWarning w.passage
  judgeAchieved achieved
    { y.1 with state := .inIsland, islandEntry := some w.passage, achieved := some achieved } y.2

end Sys2Proof.Machine
end

