-- ==== Sys2Proof/Machine/Trains.lean ====
section
/-! DEFINITION. The train tracker (chapter 2): attribution of a wheel, creation, merging, head passages, reversal,
retirement. Records are named by their place in the pool. -/

namespace Sys2Proof.Machine

/-- Most records in the pool (R28). -/
def poolCapacity : Nat := 16

/-- Most records on one approach (R28). -/
def approachLimit : Nat := 4

/-- The highest passed count (R29). -/
def maxPassed : Nat := 1023

/-! ## Places in the pool -/

/-- Place of the newest record of an approach (R28): the last one in the pool. -/
def newestFrom (a : Nat) : List TrainRecord → Nat → Option Nat → Option Nat
  | [], _, found => found
  | r :: rest, i, found => newestFrom a rest (i + 1) (if r.approach = a then some i else found)

/-- Place of the newest record of an approach (R28). -/
def State.newest (s : State) (a : Nat) : Option Nat := newestFrom a s.tracker.records 0 none

/-- Replaces the record at a place. -/
def putRecord (i : Nat) (r : TrainRecord) (s : State) : State :=
  s.setTracker { s.tracker with records := s.tracker.records.set i r }

/-- passed[k] of a record; 0 beyond the path (R29, R40). -/
def passedAt (r : TrainRecord) (k : Nat) : Nat := r.passed.getD k 0

/-- A record with passed[k] replaced. -/
def withPassed (k v : Nat) (r : TrainRecord) : TrainRecord := { r with passed := r.passed.set k v }

/-! ## Retirement -/

/-- Whether and how a record retires (R43). -/
def retirement (t : List Word) (r : TrainRecord) : Option PassageOutcome :=
  if passedAt r 0 = 0 then some .receded
  else if ¬ r.entryOpen ∧ passedAt r (islandExitIndex t r.approach) = passedAt r 0 then some .cleared
  else none

/-- Checks the record at a place for retirement; a record that retires hands over its passage report and
leaves the pool (R43, R44). -/
def checkRetirement (i : Nat) (s : State) : State :=
  match s.tracker.records[i]? with
  | none => s
  | some r =>
    match retirement s.detTab r with
    | none => s
    | some o =>
      let s := handPassageReport o r s
      s.setTracker { s.tracker with records := s.tracker.records.eraseIdx i }

/-! ## Tags -/

/-- The tag after another in the cycle 1 .. 255 (R30). -/
def tagAfter (t : Byte) : Byte := if t = 255 then 1 else t + 1

/-- The first of a run of tags that no record holds (R30). -/
def freeTag (rs : List TrainRecord) : Nat → Byte → Byte
  | 0, t => t
  | n + 1, t => if rs.any fun r => r.tag = t then freeTag rs n (tagAfter t) else t

/-- The tag a new record is given (R30). -/
def State.tagGiven (s : State) : Byte := freeTag s.tracker.records 255 s.tracker.nextTag

/-! ## Entry at the strike-in -/

/-- A strike-in wheel added to a record: passed[0], peak axles, last entry wheel time (R32, R34). -/
def addEntryWheel (tPass : Time) (r : TrainRecord) : TrainRecord :=
  { withPassed 0 (passedAt r 0 + 1) r with
    peak := max r.peak (passedAt r 0 + 1), lastEntry := tPass }

/-- Sets the overflow flag of an approach, with TRAIN_TABLE_FULL if it was clear (R35, R36, R49). -/
def setOverflow (a detail : Nat) (s : State) : State :=
  if s.overflowed a then s
  else raiseFault .trainTableFull a detail
    (s.setTracker { s.tracker with overflow := s.tracker.overflow.set a true })

/-- A record at its creation (R33). -/
def createdRecord (t : List Word) (a : Nat) (tag : Byte) (tPass : Time) : TrainRecord :=
  { tag := tag, approach := a, state := .approaching, entryOpen := true, lastEntry := tPass,
    passed := 1 :: List.replicate (pathLength t a - 1) 0, peak := 1, headDetector := 0,
    headTime := tPass, entrySpeed := none, lastSpeed := none, scheduledStart := none,
    warnedAt := none, islandEntry := none, achieved := none, merged := false, overspeed := false,
    short := false, receding := false }

/-- What the tracker does with the start a call left: a start not after the present time makes the record
WARNED at once (R45, R63). -/
def actOnStart (now : Time) (r : TrainRecord) : TrainRecord :=
  match r.state, r.scheduledStart with
  | .approaching, some t => if timeNotAfter t now then warnRecord now r else r
  | _, _ => r

/-- The call at the creation of a record: STRIKE-IN, or ISLAND where the strike-in is the island-entry
(R33, R53, R67). -/
def creationCall (w : WheelPassage) (r : TrainRecord) (s : State) : TrainRecord × State :=
  if islandEntryIndex s.detTab r.approach = 0 then islandCall w true r s
  else scheduleCall w true r s

/-- Creates a record at the end of the pool (R30, R33). -/
def createRecord (a : Nat) (w : WheelPassage) (s : State) : State :=
  let tag := s.tagGiven
  let x := creationCall w (createdRecord s.detTab a tag w.passage) s
  x.2.setTracker { x.2.tracker with
    records := x.2.tracker.records ++ [actOnStart s.now x.1], nextTag := tagAfter tag }

/-- A strike-in wheel joins the newest record, whose entry is open (R32). -/
def joinRecord (i : Nat) (r : TrainRecord) (w : WheelPassage) (s : State) : State :=
  putRecord i (addEntryWheel w.passage r) s

/-- The record a merge wheel is taken into, before the warning computer is called (R34). -/
def mergedRecord (tPass : Time) (r : TrainRecord) : TrainRecord :=
  { addEntryWheel tPass r with merged := true, entryOpen := true }

/-- A strike-in wheel of a second train merged into the newest record (R34). -/
def mergeRecord (i : Nat) (r : TrainRecord) (w : WheelPassage) (s : State) : State :=
  let m := mergedRecord w.passage r
  let x := if m.state = .approaching then scheduleCall w false m s else checkCall w m s
  putRecord i (actOnStart s.now x.1) x.2

/-- The pool has no room for a new record of the approach (R28, R33). -/
def State.noRoom (s : State) (a : Nat) : Bool :=
  poolCapacity ≤ s.tracker.records.length || approachLimit ≤ (s.recordsOf a).length

/-- An inward wheel at the strike-in (R32 to R36): the state it leaves, and whether a record took it. -/
def strikeIn (a : Nat) (w : WheelPassage) (s : State) : State × Bool :=
  match (s.newest a).bind fun i => (s.tracker.records[i]?).map fun r => (i, r) with
  | none => if s.noRoom a then (setOverflow a 0 s, false) else (createRecord a w s, true)
  | some (i, r) =>
    if r.entryOpen then
      if maxPassed ≤ passedAt r 0 then (setOverflow a 1 s, false) else (joinRecord i r w s, true)
    else if ¬ s.noRoom a then (createRecord a w s, true)
    else if maxPassed ≤ passedAt r 0 then (setOverflow a 1 s, false)
    else (mergeRecord i r w s, true)

/-! ## Inner detectors -/

/-- The call at a head passage at path index k ≥ 1 (R38, R39, R53). -/
def headCall (w : WheelPassage) (k ke : Nat) (r : TrainRecord) (s : State) : TrainRecord × State :=
  if k = ke ∧ r.state ≠ .inIsland then islandCall w false r s
  else if r.state = .approaching ∧ k < ke then scheduleCall w false r s
  else checkCall w r s

/-- A head passage at path index k ≥ 1 (R38). -/
def headPassage (w : WheelPassage) (k ke : Nat) (r : TrainRecord) (s : State) : TrainRecord × State :=
  let x := headCall w k ke { r with headDetector := k, headTime := w.passage } s
  (actOnStart s.now x.1, x.2)

/-- A record has an axle in path segment k − 1 to give (R37). -/
def canTakeInward (a k : Nat) (r : TrainRecord) : Bool :=
  r.approach = a && passedAt r k < passedAt r (k - 1)

/-- An inward wheel at path index k ≥ 1 taken by the record at a place (R37). -/
def takeInward (i k : Nat) (w : WheelPassage) (s : State) : State :=
  match s.tracker.records[i]? with
  | none => s
  | some r =>
    let r' := withPassed k (passedAt r k + 1) r
    let x := if passedAt r k = 0 then headPassage w k (islandEntryIndex s.detTab r.approach) r' s
             else (r', s)
    checkRetirement i (putRecord i x.1 x.2)

/-- An inward wheel at path index k ≥ 1: offered oldest first (R37). -/
def innerWheel (a k : Nat) (w : WheelPassage) (s : State) : State × Bool :=
  match s.tracker.records.findIdx? (canTakeInward a k) with
  | none => (s, false)
  | some i => (takeInward i k w s, true)

/-- A record has an axle in path segment k, or beyond the island-exit (R40). -/
def canGiveBack (a k : Nat) (r : TrainRecord) : Bool :=
  r.approach = a && passedAt r (k + 1) < passedAt r k

/-- Place of the newest record that has an axle to give back (R40). -/
def newestGiving (a k : Nat) : List TrainRecord → Nat → Option Nat → Option Nat
  | [], _, found => found
  | r :: rest, i, found => newestGiving a k rest (i + 1) (if canGiveBack a k r then some i else found)

/-- An outward wheel at path index k taken by the record at a place (R40). -/
def takeOutward (i k : Nat) (s : State) : State :=
  match s.tracker.records[i]? with
  | none => s
  | some r =>
    checkRetirement i (putRecord i { withPassed k (passedAt r k - 1) r with receding := true } s)

/-- An outward wheel at path index k: offered newest first (R40). -/
def outwardWheel (a k : Nat) (s : State) : State × Bool :=
  match newestGiving a k s.tracker.records 0 none with
  | none => (s, false)
  | some i => (takeOutward i k s, true)

/-! ## Attribution -/

/-- The opposite direction. -/
def Direction.opposite : Direction → Direction
  | .up => .down
  | .down => .up

/-- The section a wheel is counted out of (R19). -/
def sectionOut (t : List Word) (d : Nat) : Direction → Option Nat
  | .up => westSection t d
  | .down => eastSection t d

/-- The section a wheel is counted into (R19). -/
def sectionIn (t : List Word) (d : Nat) : Direction → Option Nat
  | .up => eastSection t d
  | .down => westSection t d

/-- An unattributed wheel: UNEXPECTED_WHEEL if its decrement underflowed (R41, R49). -/
def unattributed (w : WheelPassage) (s : State) : State :=
  if w.underflowed then
    raiseFault .unexpectedWheel w.detector
      (sectionIdentity w.track ((sectionOut s.detTab w.detector w.direction).getD 0)) s
  else s

/-- The wheel offered as an outward wheel to the opposite approach (R31, steps 2 and 3). -/
def offerOutward (w : WheelPassage) (s : State) : State :=
  let a := approachIndex w.track w.direction.opposite
  match pathIndex s.detTab a w.detector with
  | none => unattributed w s
  | some k =>
    let x := outwardWheel a k s
    if x.2 then x.1 else unattributed w x.1

/-- The train tracker receives a wheel passage (R31). A strike-in wheel no record takes is unattributed
(R35, R36, R41; log 16). -/
def attributeWheel (w : WheelPassage) (s : State) : State :=
  let a := approachIndex w.track w.direction
  match pathIndex s.detTab a w.detector with
  | none => offerOutward w s
  | some 0 =>
    let x := strikeIn a w s
    if x.2 then x.1 else unattributed w x.1
  | some (k + 1) =>
    let x := innerWheel a (k + 1) w s
    if x.2 then x.1 else offerOutward w x.1

/-- The train tracker's part of a wheel: attribution, then the sequencer is told (R31, R48). -/
def trackWheel (w : WheelPassage) (s : State) : State := react (attributeWheel w s)

/-- The record an inner wheel is an ADVANCE call for: an APPROACHING record whose head it moves on, short of
the island-entry (R37, R38, R53). -/
def State.advancing (s : State) (w : WheelPassage) : Option TrainRecord :=
  let a := approachIndex w.track w.direction
  match pathIndex s.detTab a w.detector with
  | none => none
  | some k =>
    if k = 0 ∨ islandEntryIndex s.detTab a ≤ k then none
    else (s.tracker.records.find? (canTakeInward a k)).filter fun r =>
      passedAt r k = 0 && r.state = .approaching

/-- The wheel replaces the earliest scheduled start of its approach: an ADVANCE call of a record that is not
MERGED and holds it (R63, R145; log 18). -/
def State.replacesEarliest (s : State) (w : WheelPassage) : Bool :=
  match s.advancing w with
  | none => false
  | some r => !r.merged && r.scheduledStart = s.earliestStart r.approach

/-! ## Expiries -/

/-- Entry gap expiry of a record: last entry wheel time plus T_gap, while its entry is open (R42). -/
def entryGapExpiry (ct : List Word) (r : TrainRecord) : Option Time :=
  if r.entryOpen then some (timePlus r.lastEntry (tGapOf ct)) else none

/-- The entry gap expiry of the record at a place (R42). -/
def closeEntry (i : Nat) (s : State) : State :=
  match s.tracker.records[i]? with
  | none => s
  | some r => react (checkRetirement i (putRecord i { r with entryOpen := false } s))

/-- The scheduled start expiry of the record at a place (R45). -/
def startReached (i : Nat) (s : State) : State :=
  match s.tracker.records[i]? with
  | none => s
  | some r => react (putRecord i (warnRecord s.now r) s)

/-- Place of the record with a tag. -/
def State.placeOfTag (s : State) (tag : Byte) : Option Nat :=
  s.tracker.records.findIdx? fun r => r.tag = tag

end Sys2Proof.Machine
end

