-- ==== Sys2Proof/Machine/Axles.lean ====
section
/-! DEFINITION. The axle counter (chapter 1): sections and balances, detector supervision, intake of WHEEL and
HEARTBEAT, the RESTORE checks. -/

namespace Sys2Proof.Machine

/-- The highest balance (R6). -/
def maxBalance : Nat := 1023

/-! ## Sections -/

/-- Applies `f` to one section of the table. -/
def mapSection (trk n : Nat) (f : TrackSection → TrackSection) (l : List TrackSection) :
    List TrackSection :=
  l.map fun x => if x.track = trk ∧ x.number = n then f x else x

/-- Changes one section. -/
def changeSection (trk n : Nat) (f : TrackSection → TrackSection) (s : State) : State :=
  s.setAxle { s.axle with sections := mapSection trk n f s.axle.sections }

/-- A section made DISTURBED, its balance unchanged (R9). -/
def disturbed (x : TrackSection) : TrackSection := { x with state := .disturbed }

/-- Makes a run of sections of a track DISTURBED (R9). -/
def disturbSections (trk : Nat) : List Nat → State → State
  | [], s => s
  | n :: rest, s => disturbSections trk rest (changeSection trk n disturbed s)

/-- The track of a detector. -/
def State.trackOf (s : State) (d : Nat) : Nat := (detectorOf s.detTab d).track

/-- Makes both adjacent sections of a detector DISTURBED (R13, R16, R17). -/
def disturbAdjacent (d : Nat) (s : State) : State :=
  disturbSections (s.trackOf d) (adjacentSections s.detTab d) s

/-- One axle into a section (R7). -/
def axleIn (x : TrackSection) : TrackSection :=
  if maxBalance ≤ x.balance then { x with state := .disturbed }
  else { x with balance := x.balance + 1,
                state := match x.state with
                  | .clear | .occupied => .occupied
                  | .disturbed => .disturbed
                  | .prepared => .prepared }

/-- An increment that finds the balance at 1023 (R7). -/
def overflows (x : TrackSection) : Bool := maxBalance ≤ x.balance

/-- One axle out of a section (R8). -/
def axleOut (x : TrackSection) : TrackSection :=
  if x.balance = 0 then
    { x with state := match x.state with
        | .prepared => .prepared
        | .clear | .occupied | .disturbed => .disturbed }
  else
    { x with balance := x.balance - 1,
             state := match x.state with
               | .disturbed => .disturbed
               | .occupied | .prepared | .clear => if x.balance = 1 then .clear else x.state }

/-- A decrement that raises COUNT_UNDERFLOW (R8). -/
def underflows (x : TrackSection) : Bool := x.balance = 0 && x.state ≠ .prepared

/-- Counts an axle out of a section, if there is one on that side; `d` is the detector counted at (R8, R19,
R21). -/
def countOut (d : Nat) (n : Option Nat) (s : State) : State :=
  match n with
  | none => s
  | some n =>
    let trk := s.trackOf d
    let s' := changeSection trk n axleOut s
    match s.sectionAt trk n with
    | some x => if underflows x then raiseFault .countUnderflow d (sectionIdentity trk n) s' else s'
    | none => s'

/-- Counts an axle into a section, if there is one on that side (R7, R19, R21). -/
def countIn (d : Nat) (n : Option Nat) (s : State) : State :=
  match n with
  | none => s
  | some n =>
    let trk := s.trackOf d
    let s' := changeSection trk n axleIn s
    match s.sectionAt trk n with
    | some x => if overflows x then raiseFault .countOverflow d (sectionIdentity trk n) s' else s'
    | none => s'

/-- The decrement of a wheel underflows (R8, R20). -/
def State.wheelUnderflows (s : State) (d : Nat) (dir : Direction) : Bool :=
  match (sectionOut s.detTab d dir).bind (s.sectionAt (s.trackOf d)) with
  | some x => underflows x
  | none => false

/-- Moves one axle at a detector (R19): out of the one section first, so that a COUNT_UNDERFLOW is reported
before a COUNT_OVERFLOW of the same wheel (section 7.1 orders only WHEEL_LOSS; DESIGN CHOICE, log 25). -/
def moveAxle (d : Nat) (dir : Direction) (s : State) : State :=
  countIn d (sectionIn s.detTab d dir) (countOut d (sectionOut s.detTab d dir) s)

/-! ## Detectors -/

/-- The record of detector `d`, if it is in use. -/
def State.detectorRecord (s : State) (d : Nat) : Option DetectorRecord := (s.axle.detectors[d]?).join

/-- Replaces the record of detector `d`. -/
def putDetector (d : Nat) (r : DetectorRecord) (s : State) : State :=
  s.setAxle { s.axle with detectors := s.axle.detectors.set d (some r) }

/-- Some detector is FAILED with a cause (R13). -/
def State.anyDetectorFailed (s : State) (c : DetectorCause) : Bool :=
  s.axle.detectors.any fun o =>
    match o with
    | some r => r.state = .failed c
    | none => false

/-- Ends the detector classes that no detector holds any more (R13). -/
def endDetectorFaults (s : State) : State :=
  endFaultUnless .detectorHeadFault (s.anyDetectorFailed .headFault)
    (endFaultUnless .detectorSilent (s.anyDetectorFailed .silent) s)

/-- ENTERED for a detector that becomes FAILED with a cause (R13, R21). -/
def enterDetectorFault (d : Nat) (c : DetectorCause) (s : State) : State :=
  match c with
  | .silent => enterFault .detectorSilent d (detectorOf s.detTab d).silence s
  | .headFault => enterFault .detectorHeadFault d 0 s

/-- A detector state is FAILED. -/
def isFailed : DetectorState → Bool
  | .failed _ => true
  | .unknown | .ok => false

/-- Detector `d` becomes FAILED with a cause, or changes its cause (R11, R12, R13). -/
def failDetector (d : Nat) (c : DetectorCause) (r : DetectorRecord) (s : State) : State :=
  let s' := putDetector d { r with state := .failed c } s
  if r.state = .failed c then s'
  else
    let s' := endDetectorFaults (enterDetectorFault d c s')
    react (if isFailed r.state then s' else disturbAdjacent d s')

/-- Detector `d` becomes OK (R12). -/
def passDetector (d : Nat) (r : DetectorRecord) (s : State) : State :=
  react (endDetectorFaults (putDetector d { r with state := .ok } s))

/-- Sets a detector's silence timer from the present time (R11). -/
def setDetectorTimer (d : Nat) (r : DetectorRecord) (s : State) : DetectorRecord :=
  { r with silence := some (timePlus s.now (detectorOf s.detTab d).silence) }

/-- A sequence gap at detector `d`: both adjacent sections DISTURBED, WHEEL_LOSS raised (R16, R17, R21). -/
def sequenceGap (d : Nat) (expected received : Byte) (s : State) : State :=
  react (raiseFault .wheelLoss d (256 * expected.toNat + received.toNat) (disturbAdjacent d s))

/-! ## Intake -/

/-- Head order codes (R183). -/
def headOrderValid (n : Nat) : Bool := n = 1 || n = 2

/-- Direction of a wheel: UP when its head order equals the detector's UP order (R15). -/
def wheelDirection (t : List Word) (d headOrder : Nat) : Direction :=
  if headOrder = (detectorOf t d).upOrder then .up else .down

/-- The sequence check of a wheel: the number expected, unless the last one is absent (R16). -/
def wheelGap (r : DetectorRecord) (seq : Byte) : Option Byte :=
  match r.lastSeq with
  | none => none
  | some l => if seq = l + 1 then none else some (l + 1)

/-- The sequence check of a heartbeat (R17). -/
def heartbeatGap (r : DetectorRecord) (seq : Byte) : Option Byte :=
  match r.lastSeq with
  | none => none
  | some l => if seq = l then none else some l

/-- The disturbance a sequence check causes, if it shows a gap. -/
def gapEffect (d : Nat) (gap : Option Byte) (received : Byte) (s : State) : State :=
  match gap with
  | none => s
  | some expected => sequenceGap d expected received s

/-- Passage time of a wheel at detector `d` taken in now (R18). -/
def State.passageTime (s : State) (d : Nat) : Time :=
  s.now - BitVec.ofNat 32 (detectorOf s.detTab d).latency

/-- The balances of one wheel moved, and the sequencer told (R19, R6). -/
def moveWheel (d : Nat) (dir : Direction) (s : State) : State := react (moveAxle d dir s)

/-- A WHEEL of detector `d` taken in by the axle counter: the passage handed to the train tracker, and the
state it is handed over in (R20). -/
def countWheel (d : Nat) (r : DetectorRecord) (headOrder interval : Nat) (seq : Byte) (s : State) :
    WheelPassage × State :=
  let s1 := putDetector d { setDetectorTimer d r s with lastSeq := some seq } s
  let dir := wheelDirection s1.detTab d headOrder
  let s2 := gapEffect d (wheelGap r seq) seq s1
  let w : WheelPassage :=
    { detector := d, track := s2.trackOf d, direction := dir, passage := s2.passageTime d,
      interval := interval, underflowed := s2.wheelUnderflows d dir }
  (w, moveWheel d dir s2)

/-- A WHEEL of detector `d` taken in (R20). -/
def takeWheel (d : Nat) (r : DetectorRecord) (headOrder interval : Nat) (seq : Byte) (s : State) :
    State :=
  let x := countWheel d r headOrder interval seq s
  trackWheel x.1 x.2

/-- Head health codes (R183): true for GOOD. -/
def healthOfCode (n : Nat) : Option Bool :=
  if n = 1 then some true else if n = 2 then some false else none

/-- A HEARTBEAT of detector `d` taken in (R17). -/
def takeHeartbeat (d : Nat) (r : DetectorRecord) (seq : Byte) (good : Bool) (s : State) : State :=
  let r1 := { setDetectorTimer d r s with lastSeq := some seq }
  let s2 := gapEffect d (heartbeatGap r seq) seq (putDetector d r1 s)
  if good then passDetector d r1 s2 else failDetector d .headFault r1 s2

/-- The silence expiry of detector `d` (R11): its timer does not run until the next report. -/
def detectorSilent (d : Nat) (r : DetectorRecord) (s : State) : State :=
  failDetector d .silent { r with silence := none } s

/-- A WHEEL matched to detector `d`: taken in, or discarded for its length or head order (R14). -/
def wheelReport (d : Nat) (payload : List Byte) (s : State) : State :=
  match s.detectorRecord d with
  | none => s
  | some r =>
    if payload.length = 4 ∧ headOrderValid (byteAt payload 0).toNat then
      takeWheel d r (byteAt payload 0).toNat (wordAt payload 1).toNat (byteAt payload 3) s
    else s

/-- A WHEEL matched to detector `d` is taken in and replaces the earliest scheduled start of its approach
(R145; log 18). -/
def wheelReplaces (d : Nat) (payload : List Byte) (s : State) : Bool :=
  match s.detectorRecord d with
  | none => false
  | some r =>
    if payload.length = 4 ∧ headOrderValid (byteAt payload 0).toNat then
      let x := countWheel d r (byteAt payload 0).toNat (wordAt payload 1).toNat (byteAt payload 3) s
      x.2.replacesEarliest x.1
    else false

/-- A HEARTBEAT matched to detector `d`: taken in, or discarded for its length or head health (R14). -/
def heartbeatReport (d : Nat) (payload : List Byte) (s : State) : State :=
  match s.detectorRecord d with
  | none => s
  | some r =>
    match healthOfCode (byteAt payload 1).toNat with
    | none => s
    | some good => if payload.length = 2 then takeHeartbeat d r (byteAt payload 0) good s else s

/-! ## RESTORE -/

/-- Restore modes (R22, codes of R184). -/
inductive RestoreMode | sweep | direct
  deriving DecidableEq, Repr

/-- Mode codes of RESTORE (R184). -/
def restoreModeOfCode (n : Nat) : Option RestoreMode :=
  if n = 1 then some .sweep else if n = 2 then some .direct else none

/-- A record holds axles in a section: for a path segment k of its approach that is this section, passed[k]
exceeds passed[k + 1] (R22). -/
def holdsAxles (t : List Word) (trk n : Nat) (r : TrainRecord) : Bool :=
  approachTrack r.approach = trk &&
    (List.range (pathLength t r.approach - 1)).any fun k =>
      segmentSection t r.approach k = n && passedAt r (k + 1) < passedAt r k

/-- The section a RESTORE names exists (R22). -/
def State.sectionNamed (s : State) (trk n : Nat) : Bool :=
  s.safetyActive && trackConfigured s.detTab trk && n < sectionCount s.detTab trk

/-- A RESTORE acting on its section: balance 0 and the new state (R23, R24). -/
def restoreSection (trk n : Nat) (st : SectionState) (s : State) : State :=
  changeSection trk n (fun x => { x with balance := 0, state := st }) s

/-- An accepted SWEEP (R23). -/
def restoreSweepAccepted (trk n : Nat) (s : State) : State :=
  react (restoreSection trk n .prepared s)

/-- An accepted DIRECT, recorded as a NOTICE (R24, R21). -/
def restoreDirectAccepted (trk n : Nat) (s : State) : State :=
  react (raiseNotice (westBounding s.detTab trk n) (sectionIdentity trk n)
    (restoreSection trk n .clear s))

/-- An accepted RESTORE of either mode (R22). -/
def restoreAccepted (m : RestoreMode) (trk n : Nat) (s : State) : State :=
  match m with
  | .sweep => restoreSweepAccepted trk n s
  | .direct => restoreDirectAccepted trk n s

/-! ## Initial state -/

/-- Every detector in use UNKNOWN, its silence timer set from now (R27). -/
def detectorsInitial (s : State) : List (Option DetectorRecord) :=
  (List.range 32).map fun d =>
    if detectorInUse s.detTab d then
      some { state := .unknown, lastSeq := none,
             silence := some (timePlus s.now (detectorOf s.detTab d).silence) }
    else none

/-- The section table of a newly derived geometry, every section at balance 0 in one state (R27). -/
def sectionsInitial (t : List Word) (st : SectionState) : List TrackSection :=
  (allSections t).map fun x => { track := x.1, number := x.2, balance := 0, state := st }

end Sys2Proof.Machine
end

