-- ==== Sys2Proof/Machine/Checks.lean ====
section
/-! DEFINITION. Refusal reasons (R186) and the checks of a staged loop table (R173) and of the staged safety tables
in the order of R174 (R2, R52, R74, R99, R117). -/

namespace Sys2Proof.Machine

/-- Refusal reasons (R186). -/
inductive Reason
  | badLength | badTable | badCount | pastEnd | crcMismatch | loopRange | noConfigWindow | badIdentity
  | crossingRange | crossingTiming | equipmentRange | equipmentAddress | lampRange | lampChannel
  | lampProof | barrierRange | barrierModule | detectorRange | detectorAddress | detectorGeometry
  | approachRange | approachTiming | nothingPending | identityMismatch | noSection | badMode
  | detectorNotOk | axlesHeld | loopAddress
  deriving DecidableEq, Repr

/-- Reason codes (R186). -/
def Reason.code : Reason → Nat
  | .badLength => 1 | .badTable => 2 | .badCount => 3 | .pastEnd => 4 | .crcMismatch => 5
  | .loopRange => 6 | .noConfigWindow => 7 | .badIdentity => 8 | .crossingRange => 9
  | .crossingTiming => 10 | .equipmentRange => 11 | .equipmentAddress => 12 | .lampRange => 13
  | .lampChannel => 14 | .lampProof => 15 | .barrierRange => 16 | .barrierModule => 17
  | .detectorRange => 18 | .detectorAddress => 19 | .detectorGeometry => 20 | .approachRange => 21
  | .approachTiming => 22 | .nothingPending => 23 | .identityMismatch => 24 | .noSection => 25
  | .badMode => 26 | .detectorNotOk => 27 | .axlesHeld => 28 | .loopAddress => 29

/-- The first reason of a list whose condition for refusal holds. -/
def firstReason : List (Bool × Reason) → Option Reason
  | [] => none
  | (bad, r) :: rest => if bad then some r else firstReason rest

/-- A value lies in a range that includes both ends. -/
def inRange (lo hi n : Nat) : Bool := lo ≤ n && n ≤ hi

/-! ## Loop table (R173) -/

/-- An enabled window's action or role holds no valid value. -/
def windowInvalid (w : Window) : Bool := w.enabled && (w.action.isNone || w.role.isNone)

/-- A window that takes CONFIG telegrams (R173). -/
def windowTakesConfig (w : Window) : Bool :=
  w.enabled && w.role = some .config && (w.action = some .consume || w.action = some .copy)

/-- The values of a loop table are in range (R173). -/
def loopInRange (t : List Word) : Bool :=
  !(windowsOf t).any windowInvalid && inRange 100 5000 (tSilenceOf t).toNat
    && inRange 10 1000 (tAgeOf t)
    && arbiterOrder.all (fun c => inRange 0 7 (basePriorityOf t c))
    && (portOfCode (numIn t 36)).isSome

/-- Loop addresses of the detectors in use and of the modules in use of a set of tables. -/
def detectorAddresses (dt : List Word) : List Addr :=
  (detectorsInUse dt).map fun d => (detectorOf dt d).addr

/-- Loop addresses of the modules in use of an equipment table. -/
def moduleAddresses (et : List Word) : List Addr :=
  (modulesInUse et).map fun m => (moduleOf et m).addr

/-- The checks of an ACTIVATE_LOOP in the order of R173, but that the all-zero table is refused with
NO_CONFIG_WINDOW, as R179 says of it, where the order of R173 would give LOOP_RANGE for its T_silence of 0
(DESIGN CHOICE, log 24). -/
def checkLoop (crc : Word) (staged : List Word) (active : SafetyTables) : Option Reason :=
  firstReason
    [(crc ≠ tableCrc staged, .crcMismatch),
     (staged.all fun w => w = 0, .noConfigWindow),
     (!loopInRange staged, .loopRange),
     (!(windowsOf staged).any windowTakesConfig, .noConfigWindow),
     ((detectorAddresses active.detector ++ moduleAddresses active.equipment).contains
        (ownAddressOf staged), .loopAddress)]

/-! ## Crossing table (R174, R74) -/

/-- The values of CROSSING_RANGE are in range (R174). -/
def crossingInRange (t : List Word) : Bool :=
  inRange 1 2000 (halfWidthOf t) && inRange 1 4 (minRedOf t 0) && inRange 1 4 (minRedOf t 1)
    && inRange 1 8 (nLampOf t) && inRange 1000 60000 (tGapOf t) && inRange 100 1000 (tRefreshOf t)
    && inRange 500 5000 (tStatusOf t) && signallerAddressOf t ≠ 0
    && (List.range 24).all fun n => inRange 0 3 (mapGroupOf t n)

/-- The eight timings are in range (R73, R74). -/
def crossingTimed (t : List Word) : Bool :=
  inRange 2000 10000 (tAmberOf t) && inRange 2000 15000 (tRedPreOf t)
    && inRange 4000 20000 (tLowerMaxOf t) && inRange 0 15000 (tExitDelayOf t)
    && inRange 5000 120000 (tExitWaitMaxOf t) && inRange 4000 20000 (tRaiseMaxOf t)
    && inRange 0 60000 (tReopenMinOf t) && inRange 60000 1800000 (tLongClosureOf t)

/-! ## Equipment table (R174) -/

/-- A module entry in use is in range. -/
def moduleInRange (e : ModuleEntry) : Bool :=
  inRange 1 3 e.typeCode && e.addr ≠ 0 && (portOfCode e.portCode).isSome && inRange 200 5000 e.silence

/-- EQUIPMENT_RANGE holds nothing against the table. -/
def equipmentInRange (t : List Word) : Bool :=
  (modulesInUse t).all (fun m => moduleInRange (moduleOf t m))
    && (modulesOfType t .lamp).length ≤ 4 && (modulesOfType t .barrier).length ≤ 4
    && (modulesOfType t .presence).length ≤ 2

/-- EQUIPMENT_ADDRESS holds nothing against the table. -/
def equipmentAddressed (t : List Word) (own : Addr) : Bool :=
  (moduleAddresses t).Nodup && !(moduleAddresses t).contains own

/-! ## Lamp table (R99) -/

/-- A lamp entry in use is in range (R98, R99; the flash phase of an AMBER lamp too, log 9). -/
def lampInRange (t : List Word) (e : LampEntry) : Bool :=
  e.module < (modulesOfType t .lamp).length && inRange 0 3 e.channel && inRange 1 2 e.colourCode
    && inRange 0 1 e.side && inRange 1 2 e.phaseCode && e.onLow < e.onHigh && e.offMax < e.onLow

/-- Module and channel of the lamps in use. -/
def lampChannels (t : List Word) : List (Nat × Nat) :=
  (lampsInUse t).map fun l => ((lampOf t l).module, (lampOf t l).channel)

/-- LAMP_PROOF holds nothing against the table (R99). -/
def lampsSuffice (et ct : List Word) : Bool :=
  [0, 1].all fun side => minRedOf ct side ≤ (redLampsOfSide et side).length

/-! ## Barrier table (R117) -/

/-- A barrier entry is in range: a listed role code, and in use its module and side (R116, R117; log 9). -/
def barrierInRange (t : List Word) (b : Nat) : Bool :=
  let e := barrierOf t b
  inRange 0 2 e.roleCode &&
    (!barrierInUse t b || (e.module < (modulesOfType t .barrier).length && inRange 0 1 e.side))

/-- Barrier modules named by the barriers in use. -/
def namedBarrierModules (t : List Word) : List Nat :=
  (barriersInUse t).map fun b => (barrierOf t b).module

/-- BARRIER_MODULE holds nothing against the table (R117). -/
def barriersMatched (t : List Word) : Bool :=
  (namedBarrierModules t).Nodup &&
    (List.range (modulesOfType t .barrier).length).all fun j => (namedBarrierModules t).contains j

/-! ## Detector table (R2) -/

/-- A detector entry in use is in range (R1). -/
def detectorInRange (e : DetectorEntry) : Bool :=
  inRange 0 3 e.track && headOrderValid e.upOrder && -32767 ≤ e.position && inRange 100 400 e.spacing
    && inRange 0 255 e.latency && inRange 200 5000 e.silence

/-- DETECTOR_ADDRESS holds nothing against the table (R2). -/
def detectorsAddressed (dt et : List Word) (own : Addr) : Bool :=
  (detectorAddresses dt).Nodup
    && !(detectorAddresses dt).any (fun a => (moduleAddresses et).contains a || a = own)

/-- Positions of the detectors in use on a track. -/
def trackPositions (t : List Word) (trk : Nat) : List Int :=
  (trackDetectors t trk).map fun d => (detectorOf t d).position

/-- A track named by an entry in use has a sound geometry (R2). -/
def trackSound (t : List Word) (trk : Nat) : Bool :=
  !trackConfigured t trk ||
    ((trackDetectors t trk).length ≤ 8 && (trackPositions t trk).Nodup
      && (trackPositions t trk).any (· < 0) && (trackPositions t trk).any (0 < ·))

/-- DETECTOR_GEOMETRY holds nothing against the table (R2). -/
def detectorsPlaced (dt ct : List Word) : Bool :=
  !(detectorsInUse dt).isEmpty
    && (detectorsInUse dt).all (fun d => halfWidthOf ct < (detectorOf dt d).position.natAbs)
    && (List.range 4).all (trackSound dt)

/-! ## Approach table (R52) -/

/-- An approach entry in use is in range (R51, R52). -/
def approachInRange (e : ApproachEntry) : Bool :=
  inRange 500 6000 e.vLine && inRange 50 500 e.vFloor && e.vFloor < e.vLine && inRange 5 200 e.aMax
    && inRange 15000 60000 e.twMin && inRange e.twMin 120000 e.twTarget && inRange 0 60000 e.twTol

/-- Tw_min covers amber, red and lowering (R52). -/
def approachTimed (ct : List Word) (e : ApproachEntry) : Bool :=
  tAmberOf ct + tRedPreOf ct + tLowerMaxOf ct ≤ e.twMin

/-- The approach entries in use (R51). -/
def approachesInUse (dt : List Word) : List Nat := (List.range 8).filter (approachConfigured dt)

/-- Every approach entry in use meets a condition. -/
def approachesAll (dt at_ : List Word) (p : ApproachEntry → Bool) : Bool :=
  (approachesInUse dt).all fun a => p (approachOf at_ a)

/-! ## The whole set (R174) -/

/-- The checks of the staged safety tables, rows 3 to 16 of R174. -/
def checkTables (own : Addr) (t : SafetyTables) : Option Reason :=
  firstReason
    [(!crossingInRange t.crossing, .crossingRange),
     (!crossingTimed t.crossing, .crossingTiming),
     (!equipmentInRange t.equipment, .equipmentRange),
     (!equipmentAddressed t.equipment own, .equipmentAddress),
     (!(lampsInUse t.equipment).all (fun l => lampInRange t.equipment (lampOf t.equipment l)), .lampRange),
     (!(lampChannels t.equipment).Nodup, .lampChannel),
     (!lampsSuffice t.equipment t.crossing, .lampProof),
     (!(List.range 4).all (barrierInRange t.equipment), .barrierRange),
     (!barriersMatched t.equipment, .barrierModule),
     (!(detectorsInUse t.detector).all (fun d => detectorInRange (detectorOf t.detector d)), .detectorRange),
     (!detectorsAddressed t.detector t.equipment own, .detectorAddress),
     (!detectorsPlaced t.detector t.crossing, .detectorGeometry),
     (!approachesAll t.detector t.approach approachInRange, .approachRange),
     (!approachesAll t.detector t.approach (approachTimed t.crossing), .approachTiming)]

/-- The words of a safety set in the order its CRC runs over them (R170). -/
def safetyWords (t : SafetyTables) : List Word := t.detector ++ t.approach ++ t.equipment ++ t.crossing

/-- The checks of an ACTIVATE in order (R174). -/
def checkActivate (identity crc : Word) (own : Addr) (t : SafetyTables) : Option Reason :=
  if identity = 0 then some .badIdentity
  else if crc ≠ tableCrc (safetyWords t) then some .crcMismatch
  else checkTables own t

end Sys2Proof.Machine
end

