-- ==== Sys2Proof/Machine/Configuration.lean ====
section
/-! DEFINITION. Activation and restarts (sections 9.4 and 9.5), with what each block does at them (R27, R50, R71,
R95, R96, R115, R131, R132, R152, R153, R169), and the end of an event that can make the part quiescent. -/

namespace Sys2Proof.Machine

/-! ## Command slots formed anew -/

/-- Content of the slot of field module `m` from the present state (R101, R119, R164). -/
def slotContentOf (s : State) (m : Nat) : SlotContent :=
  if moduleType s.eqTab m = some .lamp then
    lampSlotContent s.eqTab s.seq.state ((modulesOfType s.eqTab .lamp).idxOf m)
  else
    match (barrierOfModule s.eqTab ((modulesOfType s.eqTab .barrier).idxOf m)).bind s.barrierRecord with
    | some r => .barrier r.commanded
    | none => .barrier .lower

/-- The slots of the active equipment table (R164). -/
def slotsOf (s : State) : List Slot :=
  (outputModules s.eqTab).map fun m =>
    { module := m, addr := (moduleOf s.eqTab m).addr, port := modulePort s.eqTab m,
      content := slotContentOf s m }

/-- Forms the slots anew, which starts a block at once (R164, R169). -/
def formSlots (s : State) : State := startBlock (s.setCmd { s.cmd with slots := slotsOf s })

/-! ## Reinitialising -/

/-- The condition classes whose owners an activation or restart reinitialises (R152, R153). -/
def ownedClasses : List FaultClass :=
  [.detectorSilent, .detectorHeadFault, .prolongedClosure, .redLampFailed, .roadLightsFailed,
   .amberLampFailed, .lampStuckOn, .lampModuleSilent, .barrierNotDown, .barrierNotUp,
   .barrierModuleSilent, .crossingObstructed, .presenceModuleSilent]

/-- ENDED for a run of classes. -/
def endFaults : List FaultClass → State → State
  | [], s => s
  | c :: rest, s => endFaults rest (endFault c s)

/-- Every record discarded without a report, every overflow flag clear, the next tag kept (R50). -/
def discardRecords (s : State) : State :=
  s.setTracker { s.tracker with records := [], overflow := List.replicate 8 false }

/-- The command block unit stopped: waiting telegrams of the block removed, no slot, no refresh expiry
(R169). -/
def stopBlock (s : State) : State := (removeBlock s).setCmd commandsEmpty

/-- The blocks reinitialised for the active tables, in the sequencer state given, with the section table
given (R27, R50, R95, R96, R115, R132, R146, R169). -/
def reinitialise (st : SeqState) (sections : List TrackSection) (s : State) : State :=
  let s := discardRecords
    (s.setAxle { detectors := detectorsInitial s, sections := sections })
  let s := ((s.setSeq { seqInitSafe with state := st }).setLamp (lampInitial s)).setBarrier (barrierInitial s)
  let s := s.setFault { s.fault with statusExpiry := some (timePlus s.now (tStatusOf s.crTab)) }
  stopBlock (endFaults ownedClasses s)

/-- The blocks left as with no safety set active (R26, R50, R96, R115, R131, R153, R169). -/
def reinitialiseEmpty (s : State) : State :=
  let s := discardRecords (s.setAxle axleEmpty)
  let s := ((s.setSeq seqInitSafe).setLamp lampEmpty).setBarrier barrierEmpty
  let s := s.setFault { s.fault with statusExpiry := none }
  stopBlock (endFaults ownedClasses s)

/-! ## Activation of a safety set -/

/-- The staged safety tables (R170). -/
def State.stagedSafety (s : State) : SafetyTables :=
  { detector := s.config.staged.detector.words, approach := s.config.staged.approach.words,
    equipment := s.config.staged.equipment.words, crossing := s.config.staged.crossing.words }

/-- The activation state returns to IDLE and the pending identity goes (R175). -/
def cancelActivation (s : State) : State :=
  s.setConfig { s.config with activation := .idle, pendingSet := none }

/-- The part is quiescent (R176). -/
def State.quiescent (s : State) : Bool :=
  s.seq.state = .initSafe
    || (s.seq.state = .opened && s.tracker.records.isEmpty && s.axle.sections.all fun x => x.state = .clear)

/-- What the sequencer and the barrier supervisor do at an activation, by the state it is taken in (R95,
R132). -/
def sequenceAfterActivation (s : State) : State :=
  match s.seq.state with
  | .initSafe => leaveInitSafe s
  | _ => actOnDemand (giveCommands .raise (barriersInUse s.eqTab) s)

/-- The state every section of the new geometry has, by the sequencer state (R27). -/
def sectionStateAtActivation : SeqState → SectionState
  | .opened => .clear
  | .initSafe | .amber | .redFlash | .entryLowering | .exitLowering | .closed | .raising => .disturbed

/-- The activation of a pending set takes effect (R176). -/
def takeEffect (identity crc : Word) (s : State) : State :=
  let st := s.seq.state
  let s := s.setConfig { s.config with
    tables := s.stagedSafety, activeIdentity := identity, activeCrc := crc }
  let s := raiseNotice 32 identity.toNat s
  let s := reinitialise st (sectionsInitial s.detTab (sectionStateAtActivation st)) s
  cancelActivation (formSlots (sequenceAfterActivation s))

/-- In AWAIT_QUIESCENT with the part quiescent, the activation takes effect (R176). -/
def activateIfQuiescent (s : State) : State :=
  match s.config.activation, s.config.pendingSet with
  | .awaitQuiescent, some (identity, crc) => if s.quiescent then takeEffect identity crc s else s
  | _, _ => s

/-- The end of an event that can change the crossing proof: it is evaluated, then the reported content is
compared (R129, R145). -/
def finishProof (before : State) (due : Bool) (s : State) : State :=
  finish before due (evaluateProof s)

/-- The end of an event that can change the sequencer state, a section or the pool, and may itself make a
status telegram due: a waiting activation takes effect if the part has become quiescent (R176, log 7). -/
def settleDue (before : State) (due : Bool) (s : State) : State :=
  finishProof before due (activateIfQuiescent s)

/-- The end of such an event that does not itself make a status telegram due (R176, log 7). -/
def settle (before s : State) : State := settleDue before false s

/-! ## Restarts -/

/-- Every section DISTURBED with its balance kept (R27). -/
def sectionsRestarted (l : List TrackSection) : List TrackSection := l.map disturbed

/-- RESTART KEEP with a safety set active (R178). -/
def restartKept (s : State) : State :=
  let s := raiseNotice 33 0 s
  formSlots (leaveInitSafe (reinitialise .initSafe (sectionsRestarted s.axle.sections) s))

/-- A STATUS queue without its status telegram (R153). -/
def withoutStatus (ps : PortState) : PortState :=
  { ps with status := ps.status.filter fun e => !entryIsStatus e }

/-- A waiting status telegram is removed from the STATUS queues (R153). -/
def removeStatus (s : State) : State :=
  (s.setPortA (withoutStatus s.portA)).setPortB (withoutStatus s.portB)

/-- The active safety set emptied (R178). -/
def emptySafety (s : State) : State :=
  s.setConfig { s.config with tables := safetyEmpty, activeIdentity := 0, activeCrc := 0 }

/-- A restart that leaves no safety set active; `code` is 0 for KEEP, 1 for DISCARD (R153, R178). -/
def restartEmptied (code : Nat) (s : State) : State :=
  removeStatus (evaluateGroups (reinitialiseEmpty (emptySafety (raiseNotice 33 code s))))

/-- An accepted RESTART KEEP: with no safety set active each block acts as for DISCARD (R178). -/
def restartKeepAccepted (s : State) : State :=
  if s.safetyActive then restartKept s else restartEmptied 0 s

/-- An accepted RESTART DISCARD (R178). -/
def restartDiscardAccepted (s : State) : State := cancelActivation (restartEmptied 1 s)

end Sys2Proof.Machine
end

