-- ==== Sys2Proof/Machine/Requests.lean ====
section
/-! DEFINITION. The requests of the SIGNALLER and CONFIG roles and their replies (R22, R25, R139, R140, R143,
R171 to R178, R184, R185). Each answers the state after the request with its reply queued; the room for
the reply has been found (R161). -/

namespace Sys2Proof.Machine

/-! ## Replies -/

/-- Result byte: 0 ACCEPTED or OK, 1 REFUSED (R184). -/
def resultByte (r : Option Reason) : Byte := if r.isSome then 1 else 0

/-- Reason byte: 0 when not refused (R184, R186). -/
def reasonByte (r : Option Reason) : Byte :=
  match r with
  | some x => BitVec.ofNat 8 x.code
  | none => 0

/-- Result and reason, as every reply carries them (R184). -/
def verdict (r : Option Reason) : List Byte := [resultByte r, reasonByte r]

/-- A reply to a request of wrong length: REFUSED and BAD_LENGTH after `lead` bytes, every other field 0
up to `size` bytes (R185). -/
def badLengthPayload (lead size : Nat) : List Byte :=
  List.replicate lead 0 ++ verdict (some .badLength) ++ List.replicate (size - lead - 2) 0

/-! ## ACKNOWLEDGE -/

/-- A set of fault classes carried as three bytes (R181). -/
def classSetOf (b0 b1 b2 : Byte) : BitVec 24 := b2 ++ b1 ++ b0

/-- The classes an ACKNOWLEDGE clears: named, latched and not active (R139). -/
def acknowledged (f : FaultUnit) (named : BitVec 24) : BitVec 24 := named &&& f.latched &&& ~~~f.active

/-- Empties the stranger list when NOTICE's latched flag has been cleared (R138, R160). -/
def forgetStrangers (cleared : BitVec 24) (s : State) : State :=
  if cleared.getLsbD FaultClass.notice.number then s.setWindow { s.window with strangers := [] } else s

/-- An ACKNOWLEDGE acting on the flags (R139). -/
def acknowledgeFlags (named : BitVec 24) (s : State) : State :=
  let cleared := acknowledged s.fault named
  forgetStrangers cleared (setFlags s.fault.active (s.fault.latched &&& ~~~cleared) s)

/-- Payload of ACKNOWLEDGE_RESULT (R140, R184). -/
def acknowledgeResult (cleared : BitVec 24) (f : FaultUnit) : List Byte :=
  verdict none ++ classSetBytes cleared ++ classSetBytes f.latched ++ classSetBytes f.active

/-- ACKNOWLEDGE (R139, R140, R185). -/
def answerAcknowledge (a : Arrival) (payload : List Byte) (s : State) : State :=
  if payload.length ≠ 3 then sendReply a 0x60 (badLengthPayload 0 11) s
  else
    let named := classSetOf (byteAt payload 0) (byteAt payload 1) (byteAt payload 2)
    let s' := acknowledgeFlags named s
    sendReply a 0x60 (acknowledgeResult (acknowledged s.fault named) s'.fault) s'

/-! ## RESTORE -/

/-- The checks of a RESTORE in order (R22). -/
def checkRestore (s : State) (trk n : Nat) (mode : Option RestoreMode) : Option Reason :=
  firstReason
    [(!s.sectionNamed trk n, .noSection),
     (mode.isNone, .badMode),
     (!(s.detectorOk (westBounding s.detTab trk n) && s.detectorOk (eastBounding s.detTab trk n)),
        .detectorNotOk),
     (s.tracker.records.any (holdsAxles s.detTab trk n), .axlesHeld)]

/-- Section state codes (R184). -/
def sectionStateCode : SectionState → Nat
  | .clear => 0
  | .occupied => 1
  | .disturbed => 2
  | .prepared => 3

/-- State and balance of a RESTORE_RESULT, absent when the reason is NO_SECTION (R25, R184). -/
def sectionBytes (reason : Option Reason) (x : Option TrackSection) : List Byte :=
  match reason, x with
  | some .noSection, _ => [0xFF, 0xFF, 0xFF]
  | _, some x => BitVec.ofNat 8 (sectionStateCode x.state) :: bytes2 (BitVec.ofNat 16 x.balance)
  | _, none => [0xFF, 0xFF, 0xFF]

/-- A RESTORE acting on its section: accepted in its mode, or refused and changing nothing (R22 to R24). -/
def restoreEffect (reason : Option Reason) (mode : Option RestoreMode) (trk n : Nat) (s : State) : State :=
  match reason, mode with
  | none, some m => restoreAccepted m trk n s
  | _, _ => s

/-- RESTORE (R22 to R25, R185). -/
def answerRestore (a : Arrival) (payload : List Byte) (s : State) : State :=
  if payload.length ≠ 3 then sendReply a 0x61 (badLengthPayload 3 8) s
  else
    let trk := (byteAt payload 0).toNat
    let n := (byteAt payload 1).toNat
    let mode := restoreModeOfCode (byteAt payload 2).toNat
    let reason := checkRestore s trk n mode
    let s' := restoreEffect reason mode trk n s
    sendReply a 0x61
      ([byteAt payload 0, byteAt payload 1, byteAt payload 2] ++ verdict reason
        ++ sectionBytes reason (s'.sectionAt trk n)) s'

/-! ## HISTORY_READ -/

/-- The bytes of a history record (R184). -/
def recordBytes (r : FaultRecord) : List Byte :=
  bytes2 r.number ++ bytes4 r.time ++ [BitVec.ofNat 8 r.cls.number, r.subject] ++ bytes2 r.detail

/-- The records at positions start .. start + count − 1 that exist (R143). -/
def historySlice (h : List FaultRecord) (start count : Nat) : List FaultRecord := (h.drop start).take count

/-- Payload of HISTORY_DATA (R143, R184). -/
def historyData (f : FaultUnit) (start count : Nat) : List Byte :=
  let reason : Option Reason := if inRange 1 4 count then none else some .badCount
  verdict reason ++ [BitVec.ofNat 8 start, BitVec.ofNat 8 f.history.length] ++ bytes2 f.nextRecord
    ++ (if reason.isSome then [] else (historySlice f.history start count).flatMap recordBytes)

/-- HISTORY_READ (R143, R185). -/
def answerHistoryRead (a : Arrival) (payload : List Byte) (s : State) : State :=
  if payload.length ≠ 2 then sendReply a 0x64 (badLengthPayload 0 6) s
  else sendReply a 0x64 (historyData s.fault (byteAt payload 0).toNat (byteAt payload 1).toNat) s

/-! ## IDENTIFY -/

/-- The part revision (R177). -/
def partRevision : Byte := 1

/-- Payload of IDENTITY (R177, R184). -/
def identityData (s : State) : List Byte :=
  verdict none ++ [partRevision] ++ bytes2 s.config.strapBase ++ bytes2 s.config.activeIdentity
    ++ bytes2 s.config.activeCrc ++ bytes2 (tableCrc (safetyWords s.stagedSafety))
    ++ [BitVec.ofNat 8 (activationCode s.config.activation)]
    ++ bytes2 (match s.config.pendingSet with
        | some x => x.1
        | none => 0)
    ++ bytes2 (tableCrc s.loopTab)

/-- IDENTIFY (R177, R185). -/
def answerIdentify (a : Arrival) (payload : List Byte) (s : State) : State :=
  if payload.length ≠ 0 then sendReply a 0x65 (badLengthPayload 0 16) s
  else sendReply a 0x65 (identityData s) s

/-! ## CONFIRM -/

/-- The reason a CONFIRM is refused for (R175). -/
def checkConfirm (s : State) (identity : Word) : Option Reason :=
  match s.config.activation, s.config.pendingSet with
  | .idle, _ => some .nothingPending
  | _, none => some .nothingPending
  | _, some (pid, _) => if identity = pid then none else some .identityMismatch

/-- A CONFIRM acting on the activation state; if the part is quiescent the activation takes effect at that
moment (R175, R176). -/
def confirmEffect (reason : Option Reason) (s : State) : State :=
  match reason with
  | some _ => s
  | none => activateIfQuiescent (s.setConfig { s.config with activation := .awaitQuiescent })

/-- CONFIRM (R175, R185). -/
def answerConfirm (a : Arrival) (payload : List Byte) (s : State) : State :=
  if payload.length ≠ 2 then sendReply a 0x62 (badLengthPayload 2 5) s
  else
    let identity := wordAt payload 0
    let reason := checkConfirm s identity
    let s' := confirmEffect reason s
    sendReply a 0x62
      (bytes2 identity ++ verdict reason ++ [BitVec.ofNat 8 (activationCode s'.config.activation)]) s'

/-! ## RESTART -/

/-- Restart modes (R178). -/
inductive RestartMode | keep | discard
  deriving DecidableEq, Repr

/-- Mode codes of RESTART (R184). -/
def restartModeOfCode (n : Nat) : Option RestartMode :=
  if n = 1 then some .keep else if n = 2 then some .discard else none

/-- A RESTART acting by its mode (R178). -/
def restartEffect (m : Option RestartMode) (s : State) : State :=
  match m with
  | some .keep => restartKeepAccepted s
  | some .discard => restartDiscardAccepted s
  | none => s

/-- RESTART (R178, R185). -/
def answerRestart (a : Arrival) (payload : List Byte) (s : State) : State :=
  if payload.length ≠ 1 then sendReply a 0x63 (badLengthPayload 1 6) s
  else
    let mode := restartModeOfCode (byteAt payload 0).toNat
    let reason : Option Reason := if mode.isSome then none else some .badMode
    let s' := restartEffect mode s
    sendReply a 0x63
      ([byteAt payload 0] ++ verdict reason ++ bytes2 s'.config.activeIdentity
        ++ [BitVec.ofNat 8 (activationCode s'.config.activation)]) s'

/-- A RESTART KEEP that leaves a safety set active makes a status telegram due (R153). -/
def restartDue (payload : List Byte) (before : State) : Bool :=
  payload.length = 1 && restartModeOfCode (byteAt payload 0).toNat = some .keep && before.safetyActive

/-! ## Staged tables -/

/-- The staged copy of a table (R170). -/
def stagedOf (st : StagedTables) : TableId → StagedTable
  | .loop => st.loop
  | .detector => st.detector
  | .approach => st.approach
  | .equipment => st.equipment
  | .crossing => st.crossing

/-- Replaces the staged copy of a table. -/
def setStaged (st : StagedTables) (i : TableId) (x : StagedTable) : StagedTables :=
  match i with
  | .loop => { st with loop := x }
  | .detector => { st with detector := x }
  | .approach => { st with approach := x }
  | .equipment => { st with equipment := x }
  | .crossing => { st with crossing := x }

/-- The staged copy of a table in a state. -/
def State.stagedTable (s : State) (i : TableId) : StagedTable := stagedOf s.config.staged i

/-- Replaces a staged table in a state. -/
def putStaged (i : TableId) (x : StagedTable) (s : State) : State :=
  s.setConfig { s.config with staged := setStaged s.config.staged i x }

/-- CONTINUE as a start word (R184). -/
def continueCode : Word := 0xFFFF

/-- Takes free values: the counter goes on by `n` (log 10). -/
def useFree (n : Nat) (s : State) : State := s.setFreeCounter (s.freeCounter + n)

/-- The start word as resolved (R171, R172); CONTINUE of no table is resolved to a free value (log 10). -/
def resolveStart (start : Word) (index : Option Nat) (free : Word) : Nat :=
  if start = continueCode then
    match index with
    | some i => i
    | none => free.toNat
  else start.toNat

/-- The reason a staged access is refused for (R171, R172). -/
def checkAccess (table : Option TableId) (start count : Nat) : Option Reason :=
  match table with
  | none => some .badTable
  | some i =>
    if !inRange 1 20 count then some .badCount
    else if tableSize i < start + count then some .pastEnd
    else none

/-- Words placed into a table at a word index (R171). -/
def placeWords (l : List Word) (start : Nat) (ws : List Word) : List Word :=
  l.take start ++ ws ++ l.drop (start + ws.length)

/-- The words a STAGE_WRITE payload carries. -/
def payloadWords : List Byte → List Word
  | hi :: lo :: rest => wordOf hi lo :: payloadWords rest
  | _ => []

/-- A table is one of the safety set (R170). -/
def isSafetyTable : TableId → Bool
  | .loop => false
  | .detector | .approach | .equipment | .crossing => true

/-- An activation is pending (R175). -/
def State.activationPending (s : State) : Bool := s.config.activation ≠ .idle

/-- A STAGE_WRITE that names a safety table ends a pending activation (R171, R175). -/
def writeCancels (table : Option TableId) (s : State) : Bool :=
  match table with
  | some i => isSafetyTable i && s.activationPending
  | none => false

/-- An accepted STAGE_WRITE: words placed, write index moved (R171). -/
def stageWords (i : TableId) (start : Nat) (ws : List Word) (s : State) : State :=
  putStaged i { s.stagedTable i with
    words := placeWords (s.stagedTable i).words start ws, writeIndex := start + ws.length } s

/-- What a STAGE_WRITE changes (R171). -/
def stageWriteEffect (table : Option TableId) (start : Nat) (ws : List Word) (reason : Option Reason)
    (s : State) : State :=
  let s := match table, reason with
    | some i, none => stageWords i start ws s
    | _, _ => s
  if writeCancels table s then cancelActivation s else s

/-- Write index and staged CRC of a STAGE_WRITE_RESULT; free values where no table is named (R171, log 10). -/
def stageWriteFields (table : Option TableId) (s : State) (free : Nat) : Word × Word :=
  match table with
  | some i => (BitVec.ofNat 16 (s.stagedTable i).writeIndex, tableCrc (s.stagedTable i).words)
  | none => (Config.freeWord (free + 1), Config.freeWord (free + 2))

/-- STAGE_WRITE (R171, R185). -/
def answerStageWrite (a : Arrival) (payload : List Byte) (s : State) : State :=
  if payload.length < 3 ∨ payload.length % 2 = 0 then sendReply a 0x66 (badLengthPayload 4 11) s
  else
    let table := tableOfCode (byteAt payload 0).toNat
    let ws := payloadWords (payload.drop 3)
    let start := resolveStart (wordAt payload 1) (table.map fun i => (s.stagedTable i).writeIndex)
      (Config.freeWord s.freeCounter)
    let reason := checkAccess table start ws.length
    let s' := stageWriteEffect table start ws reason s
    let fields := stageWriteFields table s' s.freeCounter
    let cancelled := writeCancels table s
    sendReply a 0x66
      ([byteAt payload 0] ++ bytes2 (BitVec.ofNat 16 start) ++ [BitVec.ofNat 8 ws.length]
        ++ verdict reason ++ bytes2 fields.1 ++ bytes2 fields.2 ++ [if cancelled then 1 else 0])
      (if table.isNone then useFree 3 s' else s')

/-- An accepted STAGE_READ moves the read index (R172). -/
def stageReadEffect (table : Option TableId) (start count : Nat) (reason : Option Reason) (s : State) :
    State :=
  match table, reason with
  | some i, none => putStaged i { s.stagedTable i with readIndex := start + count } s
  | _, _ => s

/-- The words of a STAGE_DATA: none in a refusal (R172). -/
def stageReadWords (table : Option TableId) (start count : Nat) (reason : Option Reason) (s : State) :
    List Word :=
  match table, reason with
  | some i, none => ((s.stagedTable i).words.drop start).take count
  | _, _ => []

/-- Read index of a STAGE_DATA; a free value where no table is named (R172, log 10). -/
def stageReadIndex (table : Option TableId) (s : State) (free : Nat) : Word :=
  match table with
  | some i => BitVec.ofNat 16 (s.stagedTable i).readIndex
  | none => Config.freeWord (free + 1)

/-- STAGE_READ (R172, R185). -/
def answerStageRead (a : Arrival) (payload : List Byte) (s : State) : State :=
  if payload.length ≠ 4 then sendReply a 0x67 (badLengthPayload 3 7) s
  else
    let table := tableOfCode (byteAt payload 0).toNat
    let count := (byteAt payload 3).toNat
    let start := resolveStart (wordAt payload 1) (table.map fun i => (s.stagedTable i).readIndex)
      (Config.freeWord s.freeCounter)
    let reason := checkAccess table start count
    let s' := stageReadEffect table start count reason s
    sendReply a 0x67
      ([byteAt payload 0] ++ bytes2 (BitVec.ofNat 16 start) ++ verdict reason
        ++ bytes2 (stageReadIndex table s' s.freeCounter)
        ++ (stageReadWords table start count reason s).flatMap bytes2)
      (if table.isNone then useFree 2 s' else s')

/-! ## ACTIVATE and ACTIVATE_LOOP -/

/-- What an ACTIVATE changes: the pending identity and CRC, and the activation state (R174). -/
def activateEffect (identity crc : Word) (reason : Option Reason) (s : State) : State :=
  match reason with
  | some _ => cancelActivation s
  | none => s.setConfig { s.config with activation := .awaitConfirm, pendingSet := some (identity, crc) }

/-- ACTIVATE (R174, R185). -/
def answerActivate (a : Arrival) (payload : List Byte) (s : State) : State :=
  if payload.length ≠ 4 then sendReply a 0x68 (badLengthPayload 2 5) s
  else
    let identity := wordAt payload 0
    let crc := wordAt payload 2
    let reason := checkActivate identity crc s.ownAddress s.stagedSafety
    let s' := activateEffect identity crc reason s
    sendReply a 0x68
      (bytes2 identity ++ verdict reason ++ [BitVec.ofNat 8 (activationCode s'.config.activation)]) s'

/-- What an ACTIVATE_LOOP changes: the active loop table, and a pending activation is cancelled (R173). -/
def activateLoopEffect (reason : Option Reason) (s : State) : State :=
  match reason with
  | some _ => s
  | none => cancelActivation (s.setWindow { s.window with loopTable := s.config.staged.loop.words })

/-- ACTIVATE_LOOP (R173, R185). -/
def answerActivateLoop (a : Arrival) (payload : List Byte) (s : State) : State :=
  if payload.length ≠ 2 then sendReply a 0x69 (badLengthPayload 0 5) s
  else
    let reason := checkLoop (wordAt payload 0) s.config.staged.loop.words s.config.tables
    let s' := activateLoopEffect reason s
    sendReply a 0x69
      (verdict reason ++ bytes2 (tableCrc s'.loopTab)
        ++ [if reason.isNone && s.activationPending then 1 else 0]) s'

end Sys2Proof.Machine
end

