-- ==== Sys2Proof/Machine/Receive.lean ====
section
/-! DEFINITION. Reception of a good telegram (sections 8.1 to 8.4): the link, the window decision, the passed
copy, and what a consumed telegram of each role and kind does. -/

namespace Sys2Proof.Machine

/-! ## Kinds and roles -/

/-- Kind code of FILL (R182). -/
def kindFill : Byte := 0x00

/-- Kinds taken with the FIELD role (R159). -/
inductive FieldKind | wheel | heartbeat | lampReport | barrierReport | presenceReport
  deriving DecidableEq, Repr

/-- Kinds taken with the SIGNALLER and CONFIG roles (R159). -/
inductive RequestKind
  | acknowledge | restore | confirm | restart | historyRead | identify
  | stageWrite | stageRead | activate | activateLoop
  deriving DecidableEq, Repr

/-- Kind code of a field kind (R182). -/
def FieldKind.code : FieldKind → Byte
  | .wheel => 0x10
  | .heartbeat => 0x11
  | .lampReport => 0x12
  | .barrierReport => 0x13
  | .presenceReport => 0x14

/-- Kind code of a request kind (R182). -/
def RequestKind.code : RequestKind → Byte
  | .acknowledge => 0x40
  | .restore => 0x41
  | .confirm => 0x42
  | .restart => 0x43
  | .historyRead => 0x44
  | .identify => 0x45
  | .stageWrite => 0x46
  | .stageRead => 0x47
  | .activate => 0x48
  | .activateLoop => 0x49

/-- The field kinds. -/
def fieldKinds : List FieldKind := [.wheel, .heartbeat, .lampReport, .barrierReport, .presenceReport]

/-- The request kinds. -/
def requestKinds : List RequestKind :=
  [.acknowledge, .restore, .confirm, .restart, .historyRead, .identify, .stageWrite, .stageRead,
   .activate, .activateLoop]

/-- The field kind a code names, if any (R182). -/
def fieldKindOf (k : Byte) : Option FieldKind := fieldKinds.find? fun x => x.code = k

/-- The request kind a code names, if any (R182). -/
def requestKindOf (k : Byte) : Option RequestKind := requestKinds.find? fun x => x.code = k

/-- The roles that may send a request (R159, R182). -/
def requestAllowed : Role → RequestKind → Bool
  | .field, _ => false
  | .signaller, .acknowledge | .signaller, .restore | .signaller, .confirm | .signaller, .restart
  | .signaller, .historyRead | .signaller, .identify => true
  | .signaller, .stageWrite | .signaller, .stageRead | .signaller, .activate
  | .signaller, .activateLoop => false
  | .config, .stageWrite | .config, .stageRead | .config, .activate | .config, .activateLoop
  | .config, .restart | .config, .identify | .config, .historyRead => true
  | .config, .acknowledge | .config, .restore | .config, .confirm => false

/-! ## The link -/

/-- Both ports are UP (R155). -/
def State.bothUp (s : State) : Bool := s.portA.link = .up && s.portB.link = .up

/-- A good telegram sets the port's silence expiry and takes its link UP (R155). -/
def hearLink (p : Port) (s : State) : State :=
  s.setPort p { s.port p with
    link := .up
    silence := some (timePlus s.now (tSilenceOf s.loopTab).toNat)
    silenceWith := tSilenceOf s.loopTab }

/-- A port going UP: PORT_DOWN ends when both ports are UP, and the signaller port going UP makes a status
telegram due (R155, R145). -/
def portGoesUp (p : Port) (before s : State) : State :=
  finish before (p = s.signallerPort) (endFaultUnless .portDown (!s.bothUp) s)

/-- What every good telegram does to the port it arrives on (R154 step 1, R155; log 5). -/
def portHeard (p : Port) (s : State) : State :=
  match (s.port p).link with
  | .up => hearLink p s
  | .down => portGoesUp p s (hearLink p s)

/-! ## Passed copies -/

/-- A window hits a destination (R157). -/
def windowHits (w : Window) (dst : Addr) : Bool := w.enabled && dst &&& w.mask = w.base &&& w.mask

/-- The window that decides: the lowest-numbered enabled one that hits (R157). -/
def decidingWindow (lt : List Word) (dst : Addr) : Option Window :=
  (windowsOf lt).find? fun w => windowHits w dst

/-- A copy as its deciding window passes it (R158). -/
def translated (w : Window) (t : Telegram) : Telegram :=
  if w.translate then { t with dst := w.translateBase ||| (t.dst &&& ~~~w.mask) } else t

/-- A copy sent out of the port opposite to `p`, or dropped when that port is DOWN or its FORWARD queue
full (R158). -/
def passCopy (p : Port) (t : Telegram) (s : State) : State :=
  if (s.port p.other).link = .down ∨ forwardCapacity ≤ (s.port p.other).forward.length then s
  else joinQueue p.other .forward t none s

/-! ## Discarded with a NOTICE -/

/-- A telegram discarded with a NOTICE for a role mismatch (R159, R138). -/
def mismatch (p : Port) (src : Addr) (s : State) : State := finish s false (noticeRoleMismatch p src s)

/-- Most sources the stranger list holds (R160). -/
def strangerLimit : Nat := 16

/-- A source joins the stranger list, the oldest going first when it is full (R160). -/
def joinStrangers (l : List Addr) (src : Addr) : List Addr :=
  (if strangerLimit ≤ l.length then l.drop (l.length + 1 - strangerLimit) else l) ++ [src]

/-- A stranger heard: nothing when it is listed, else listed with a NOTICE (R160). -/
def strangerHeard (p : Port) (src : Addr) (s : State) : State :=
  if s.window.strangers.contains src then s
  else finish s false
    (noticeStranger p src (s.setWindow { s.window with strangers := joinStrangers s.window.strangers src }))

/-! ## Field reports -/

/-- The detector in use with a loop address (R14). -/
def detectorAt (dt : List Word) (a : Addr) : Option Nat :=
  (detectorsInUse dt).find? fun d => (detectorOf dt d).addr = a

/-- The module in use with a loop address. -/
def moduleAt (et : List Word) (a : Addr) : Option Nat :=
  (modulesInUse et).find? fun m => (moduleOf et m).addr = a

/-- A FIELD source that is found in a table (R160). -/
def State.knownSource (s : State) (a : Addr) : Bool :=
  (detectorAt s.detTab a).isSome || (moduleAt s.eqTab a).isSome

/-- The module of a type with a loop address (R102, R120, R125). -/
def moduleOfTypeAt (et : List Word) (ty : ModuleType) (a : Addr) : Option Nat :=
  (moduleAt et a).filter fun m => moduleType et m = some ty

/-- Index of a module among those of its type: the lamp, barrier or presence module index (R98, R116). -/
def typeIndex (et : List Word) (ty : ModuleType) (m : Nat) : Nat := (modulesOfType et ty).idxOf m

/-- The four channels of a LAMP_REPORT of right length and codes (R102). -/
def lampReportOf (payload : List Byte) : Option (List ChannelReport) :=
  if payload.length = 12 then
    match channelReport payload 0, channelReport payload 1, channelReport payload 2,
          channelReport payload 3 with
    | some a, some b, some c, some d => some [a, b, c, d]
    | _, _, _, _ => none
  else none

/-- Positions of a BARRIER_REPORT (R183). -/
def positionOfCode (n : Nat) : Option BarrierPosition :=
  if n = 1 then some .up else if n = 2 then some .moving else if n = 3 then some .down
  else if n = 4 then some .fault else none

/-- Echoed commands of a BARRIER_REPORT: none inside for NONE (R120, R183). -/
def echoOfCode (n : Nat) : Option (Option BarrierCommand) :=
  if n = 0 then some none else if n = 1 then some (some .raise) else if n = 2 then some (some .lower)
  else none

/-- Position and echo of a BARRIER_REPORT of right length and codes (R120). -/
def barrierReportOf (payload : List Byte) : Option (BarrierPosition × Option BarrierCommand) :=
  if payload.length = 2 then
    match positionOfCode (byteAt payload 0).toNat, echoOfCode (byteAt payload 1).toNat with
    | some pos, some echo => some (pos, echo)
    | _, _ => none
  else none

/-- Values of a PRESENCE_REPORT (R183). -/
def presenceOfCode (n : Nat) : Option Presence :=
  if n = 1 then some .present else if n = 2 then some .absent else none

/-- The value of a PRESENCE_REPORT of right length and code (R125). -/
def presenceReportOf (payload : List Byte) : Option Presence :=
  if payload.length = 1 then presenceOfCode (byteAt payload 0).toNat else none

/-- A WHEEL handed to the axle counter (R14, R20); a start it replaces makes a status telegram due (R145). -/
def takeWheelTelegram (p : Port) (src : Addr) (payload : List Byte) (s : State) : State :=
  match detectorAt s.detTab src with
  | none => mismatch p src s
  | some d => settleDue s (wheelReplaces d payload s) (wheelReport d payload s)

/-- A HEARTBEAT handed to the axle counter (R14, R17). -/
def takeHeartbeatTelegram (p : Port) (src : Addr) (payload : List Byte) (s : State) : State :=
  match detectorAt s.detTab src with
  | none => mismatch p src s
  | some d => settle s (heartbeatReport d payload s)

/-- A LAMP_REPORT handed to the lamp supervisor (R102). -/
def takeLampTelegram (p : Port) (src : Addr) (payload : List Byte) (s : State) : State :=
  match moduleOfTypeAt s.eqTab .lamp src with
  | none => mismatch p src s
  | some m =>
    match lampReportOf payload with
    | none => s
    | some chs => finishProof s false (takeLampReport (typeIndex s.eqTab .lamp m) m chs s)

/-- A BARRIER_REPORT handed to the barrier supervisor (R120). -/
def takeBarrierTelegram (p : Port) (src : Addr) (payload : List Byte) (s : State) : State :=
  match moduleOfTypeAt s.eqTab .barrier src with
  | none => mismatch p src s
  | some m =>
    match barrierReportOf payload with
    | none => s
    | some (pos, echo) =>
      settle s (tellEndedProofs s (takeBarrierReport (typeIndex s.eqTab .barrier m) m pos echo s))

/-- A PRESENCE_REPORT handed to the barrier supervisor (R125). -/
def takePresenceTelegram (p : Port) (src : Addr) (payload : List Byte) (s : State) : State :=
  match moduleOfTypeAt s.eqTab .presence src with
  | none => mismatch p src s
  | some m =>
    match presenceReportOf payload with
    | none => s
    | some v => finishProof s false (takePresenceReport (typeIndex s.eqTab .presence m) m v s)

/-- A field report handed to the block that takes its kind (R159). -/
def takeField (k : FieldKind) (p : Port) (src : Addr) (payload : List Byte) (s : State) : State :=
  match k with
  | .wheel => takeWheelTelegram p src payload s
  | .heartbeat => takeHeartbeatTelegram p src payload s
  | .lampReport => takeLampTelegram p src payload s
  | .barrierReport => takeBarrierTelegram p src payload s
  | .presenceReport => takePresenceTelegram p src payload s

/-! ## Requests -/

/-- A request handed to the block that takes its kind, which answers it (R159, R161). DESIGN CHOICE (log 28): its
reply joins the REPLY queue before the status telegram it makes due joins the STATUS queue (R139, R145, R161 give no
order), and before a set that a RESTORE makes ready takes effect. -/
def takeRequest (k : RequestKind) (a : Arrival) (payload : List Byte) (s : State) : State :=
  match k with
  | .acknowledge => finish s false (answerAcknowledge a payload s)
  | .restore => settle s (answerRestore a payload s)
  | .confirm => finishProof s false (answerConfirm a payload s)
  | .restart => finishProof s (restartDue payload s) (answerRestart a payload s)
  | .historyRead => finish s false (answerHistoryRead a payload s)
  | .identify => finish s false (answerIdentify a payload s)
  | .stageWrite => finish s false (answerStageWrite a payload s)
  | .stageRead => finish s false (answerStageRead a payload s)
  | .activate => finish s false (answerActivate a payload s)
  | .activateLoop => finish s false (answerActivateLoop a payload s)

/-- A request with no room for its reply is discarded unexecuted (R161). -/
def requestWithRoom (k : RequestKind) (a : Arrival) (payload : List Byte) (s : State) : State :=
  if replyRoom a.port s then takeRequest k a payload s else s

/-! ## Consumed telegrams -/

/-- A telegram consumed with the FIELD role (R159, R160). -/
def consumeField (p : Port) (t : Telegram) (s : State) : State :=
  match fieldKindOf t.kind with
  | none => mismatch p t.src s
  | some k => if s.knownSource t.src then takeField k p t.src t.payload s else strangerHeard p t.src s

/-- A telegram consumed with the SIGNALLER or CONFIG role (R159, R161). -/
def consumeRequest (r : Role) (p : Port) (t : Telegram) (s : State) : State :=
  match requestKindOf t.kind with
  | none => mismatch p t.src s
  | some k =>
    if requestAllowed r k then requestWithRoom k { port := p, dst := t.dst, src := t.src } t.payload s
    else mismatch p t.src s

/-- A consumed telegram (R159); a window with no valid role, which no accepted table holds, takes nothing
(log 23). -/
def consume (p : Port) (t : Telegram) (role : Option Role) (s : State) : State :=
  match role with
  | none => mismatch p t.src s
  | some .field => consumeField p t s
  | some .signaller => consumeRequest .signaller p t s
  | some .config => consumeRequest .config p t s

/-! ## Reception -/

/-- The deciding window's action on a telegram (R157); a COPY is consumed, then passed (log 8). -/
def route (p : Port) (t : Telegram) (w : Option Window) (s : State) : State :=
  match w with
  | none => passCopy p t s
  | some w =>
    match w.action with
    | some .consume => consume p t w.role s
    | some .pass => passCopy p (translated w t) s
    | some .copy => passCopy p (translated w t) (consume p t w.role s)
    | none => s

/-- Steps 2 to 4 of the reception of a good telegram (R154). -/
def handleGood (p : Port) (t : Telegram) (s : State) : State :=
  if t.kind = kindFill then s
  else if t.src = s.ownAddress then s
  else route p t (decidingWindow s.loopTab t.dst) s

/-- The reception of a good telegram (R154). A payload of more than 48 bytes makes no good telegram. -/
def receiveGood (p : Port) (t : Telegram) (s : State) : State :=
  if maxPayload < t.payload.length then s else handleGood p t (portHeard p s)

/-- The reception of a whole frame (R154). -/
def receiveFrame (p : Port) (frame : List Byte) (s : State) : State :=
  match parseFrame frame with
  | none => s
  | some t => receiveGood p t s

end Sys2Proof.Machine
end

