-- ==== Sys2Proof/Machine/Telegrams.lean ====
section
/-! DEFINITION. The meanings of the commands that are receptions of telegrams (chapters 1, 5 to 10). Each is the
reception of a good telegram of the row's kind; what becomes of it is decided by R154 to R161 (log 3). -/

namespace Sys2Proof.Machine

/-- What a command ends in: always a next state. -/
abbrev Result := Host.Outcome State Fault Refusal

/-- The telegram of an arrival, a kind and a payload. -/
def telegramOf (a : Arrival) (kind : Byte) (payload : List Byte) : Telegram :=
  { dst := a.dst, src := a.src, kind := kind, payload := payload }

/-- The reception of a field report. -/
def receiveField (k : FieldKind) (a : Arrival) (payload : List Byte) (s : State) : State :=
  receiveGood a.port (telegramOf a k.code payload) s

/-- The reception of a request. -/
def receiveRequest (k : RequestKind) (a : Arrival) (payload : List Byte) (s : State) : State :=
  receiveGood a.port (telegramOf a k.code payload) s

/-! ## Reception as such -/

/-- DISCARDED_TELEGRAM (R154): a frame that is not good has no effect. -/
def execDiscardedTelegram (p : Port) (frame : List Byte) (s : State) : Result :=
  .next (receiveFrame p frame s)

/-- FILL (R154). -/
def execFill (a : Arrival) (payload : List Byte) (s : State) : Result :=
  .next (receiveGood a.port (telegramOf a kindFill payload) s)

/-- OWN_TELEGRAM_RETURNED (R154). -/
def execOwnTelegramReturned (p : Port) (dst : Addr) (kind : Byte) (payload : List Byte) (s : State) :
    Result :=
  .next (receiveGood p { dst := dst, src := s.ownAddress, kind := kind, payload := payload } s)

/-- PASSED_COPY (R158). -/
def execPassedCopy (p : Port) (t : Telegram) (s : State) : Result := .next (receiveGood p t s)

/-- ROLE_MISMATCH (R159). -/
def execRoleMismatch (p : Port) (t : Telegram) (s : State) : Result := .next (receiveGood p t s)

/-! ## Field reports -/

/-- WHEEL (R20). -/
def execWheel (a : Arrival) (payload : List Byte) (s : State) : Result :=
  .next (receiveField .wheel a payload s)

/-- HEARTBEAT (R17). -/
def execHeartbeat (a : Arrival) (payload : List Byte) (s : State) : Result :=
  .next (receiveField .heartbeat a payload s)

/-- LAMP_REPORT (R102). -/
def execLampReport (a : Arrival) (payload : List Byte) (s : State) : Result :=
  .next (receiveField .lampReport a payload s)

/-- BARRIER_REPORT (R120). -/
def execBarrierReport (a : Arrival) (payload : List Byte) (s : State) : Result :=
  .next (receiveField .barrierReport a payload s)

/-- PRESENCE_REPORT (R125). -/
def execPresenceReport (a : Arrival) (payload : List Byte) (s : State) : Result :=
  .next (receiveField .presenceReport a payload s)

/-! ## Requests -/

/-- ACKNOWLEDGE (R139). -/
def execAcknowledge (a : Arrival) (payload : List Byte) (s : State) : Result :=
  .next (receiveRequest .acknowledge a payload s)

/-- RESTORE_SWEEP (R23): a RESTORE whose mode is not DIRECT. -/
def execRestoreSweep (a : Arrival) (payload : List Byte) (s : State) : Result :=
  .next (receiveRequest .restore a payload s)

/-- RESTORE_DIRECT (R24): a RESTORE in mode DIRECT, code 2. -/
def execRestoreDirect (a : Arrival) (track section_ : Byte) (s : State) : Result :=
  .next (receiveRequest .restore a [track, section_, 2] s)

/-- HISTORY_READ (R143). -/
def execHistoryRead (a : Arrival) (payload : List Byte) (s : State) : Result :=
  .next (receiveRequest .historyRead a payload s)

/-- IDENTIFY (R177). -/
def execIdentify (a : Arrival) (payload : List Byte) (s : State) : Result :=
  .next (receiveRequest .identify a payload s)

/-- RESTART_KEEP (R178): a RESTART whose mode is not DISCARD. -/
def execRestartKeep (a : Arrival) (payload : List Byte) (s : State) : Result :=
  .next (receiveRequest .restart a payload s)

/-- RESTART_DISCARD (R178): a RESTART in mode DISCARD, code 2. -/
def execRestartDiscard (a : Arrival) (s : State) : Result :=
  .next (receiveRequest .restart a [2] s)

/-- STAGE_WRITE (R171). -/
def execStageWrite (a : Arrival) (payload : List Byte) (s : State) : Result :=
  .next (receiveRequest .stageWrite a payload s)

/-- STAGE_READ (R172). -/
def execStageRead (a : Arrival) (payload : List Byte) (s : State) : Result :=
  .next (receiveRequest .stageRead a payload s)

/-- ACTIVATE (R174). -/
def execActivate (a : Arrival) (payload : List Byte) (s : State) : Result :=
  .next (receiveRequest .activate a payload s)

/-- ACTIVATE_LOOP (R173). -/
def execActivateLoop (a : Arrival) (payload : List Byte) (s : State) : Result :=
  .next (receiveRequest .activateLoop a payload s)

/-- CONFIRM (R175). -/
def execConfirm (a : Arrival) (payload : List Byte) (s : State) : Result :=
  .next (receiveRequest .confirm a payload s)

end Sys2Proof.Machine
end

