-- ==== Sys2Proof/Machine/Expiries.lean ====
section
/-! DEFINITION. The meanings of HARDWARE_RESET, of the expiries, of ACTIVATION_TAKES_EFFECT and of the events of
the transmitters. An expiry command has effect at the time its timer was set to reach, and none while the
timer does not run or stands at another time (log 2). -/

namespace Sys2Proof.Machine

/-- What an expiry does, when it is due. -/
def atExpiry (e : Option Time) (effect : State → State) (s : State) : State :=
  if s.due e then effect s else s

/-- The record a timer belongs to, when there is one. -/
def withRecord {α : Type} (r : Option α) (effect : α → State → State) (s : State) : State :=
  match r with
  | none => s
  | some x => effect x s

/-! ## Hardware reset -/

/-- The part right after a hardware reset with the strap pins as read (R179); the model's own fields stay
(log 11). -/
def hardwareReset (strap : BitVec 12) (s : State) : State :=
  { State.reset with
    window := windowReset strap
    config := configReset strap
    freeCounter := s.freeCounter
    pending := s.pending }

/-- HARDWARE_RESET (R179). -/
def execHardwareReset (strap : BitVec 12) (s : State) : Result := .next (hardwareReset strap s)

/-! ## Axle counter and train tracker -/

/-- What the silence expiry of detector `d` does, its record at hand (R11). -/
def detectorSilenceEffect (d : Nat) (r : DetectorRecord) (s : State) : State :=
  atExpiry r.silence (fun s => settle s (detectorSilent d r s)) s

/-- DETECTOR_SILENCE_EXPIRY (R11). -/
def execDetectorSilenceExpiry (d : Fin 32) (s : State) : Result :=
  .next (withRecord (s.detectorRecord d.val) (detectorSilenceEffect d.val) s)

/-- The record with a tag, and its place in the pool. -/
def State.recordWithTag (s : State) (tag : Byte) : Option (Nat × TrainRecord) :=
  (s.placeOfTag tag).bind fun i => (s.tracker.records[i]?).map fun r => (i, r)

/-- What the entry gap expiry of a record does (R42). -/
def entryGapEffect (x : Nat × TrainRecord) (s : State) : State :=
  atExpiry (entryGapExpiry s.crTab x.2) (fun s => settle s (closeEntry x.1 s)) s

/-- ENTRY_GAP_EXPIRY (R42). -/
def execEntryGapExpiry (tag : Byte) (s : State) : Result :=
  .next (withRecord (s.recordWithTag tag) entryGapEffect s)

/-- What the scheduled start expiry of a record does (R45). -/
def scheduledStartEffect (x : Nat × TrainRecord) (s : State) : State :=
  atExpiry (approachingStart x.2) (fun s => settle s (startReached x.1 s)) s

/-- SCHEDULED_START_EXPIRY (R45). -/
def execScheduledStartExpiry (tag : Byte) (s : State) : Result :=
  .next (withRecord (s.recordWithTag tag) scheduledStartEffect s)

/-! ## Sequencer -/

/-- AMBER_EXPIRY (R79). -/
def execAmberExpiry (s : State) : Result :=
  .next (atExpiry s.seq.amber (fun s => settle s (enterRedFlash s)) s)

/-- RED_EXPIRY (R80). -/
def execRedExpiry (s : State) : Result :=
  .next (atExpiry s.seq.red (fun s => settle s (leaveRedFlash s)) s)

/-- EXIT_DELAY_EXPIRY (R83). -/
def execExitDelayExpiry (s : State) : Result :=
  .next (atExpiry s.seq.exitDelay (fun s => settle s (startExitLowering s)) s)

/-- LONG_CLOSURE_EXPIRY (R92). -/
def execLongClosureExpiry (s : State) : Result :=
  .next (atExpiry s.seq.longClosure (fun s => settle s (longClosureReached s)) s)

/-! ## Lamps, barriers, presence -/

/-- What the silence expiry of lamp module `j` does, its record at hand (R103). -/
def lampSilenceEffect (j : Nat) (m : LampModule) (s : State) : State :=
  atExpiry m.silence (fun s => finishProof s false (lampModuleSilence j s)) s

/-- LAMP_MODULE_SILENCE_EXPIRY (R103). -/
def execLampModuleSilenceExpiry (j : Fin 4) (s : State) : Result :=
  .next (withRecord (s.lamp.modules[j.val]?) (lampSilenceEffect j.val) s)

/-- What the proving expiry of barrier `b` does, its record at hand (R122). -/
def provingEffect (b : Nat) (r : BarrierRecord) (s : State) : State :=
  atExpiry r.provingExpiry (fun s => settle s (tellEndedProofs s (expireProof b s))) s

/-- PROVING_EXPIRY (R122). -/
def execProvingExpiry (b : Fin 4) (s : State) : Result :=
  .next (withRecord (s.barrierRecord b.val) (provingEffect b.val) s)

/-- What the silence expiry of barrier module `j` does, its record at hand (R124). -/
def barrierSilenceEffect (j : Nat) (m : BarrierModule) (s : State) : State :=
  atExpiry m.silence (fun s => settle s (tellEndedProofs s (barrierModuleSilence j s))) s

/-- BARRIER_MODULE_SILENCE_EXPIRY (R124). -/
def execBarrierModuleSilenceExpiry (j : Fin 4) (s : State) : Result :=
  .next (withRecord (s.barrier.modules[j.val]?) (barrierSilenceEffect j.val) s)

/-- What the silence expiry of presence module `j` does, its record at hand (R124, R125). -/
def presenceSilenceEffect (j : Nat) (m : PresenceModule) (s : State) : State :=
  atExpiry m.silence (fun s => finishProof s false (presenceModuleSilence j s)) s

/-- PRESENCE_MODULE_SILENCE_EXPIRY (R124). -/
def execPresenceModuleSilenceExpiry (j : Fin 2) (s : State) : Result :=
  .next (withRecord (s.barrier.presence[j.val]?) (presenceSilenceEffect j.val) s)

/-- What the exit wait expiry of barrier `b` does, its record at hand (R128). -/
def exitWaitEffect (b : Nat) (r : BarrierRecord) (s : State) : State :=
  atExpiry r.exitWait (fun s => finishProof s false (expireExitWait b s)) s

/-- EXIT_WAIT_EXPIRY (R128). -/
def execExitWaitExpiry (b : Fin 4) (s : State) : Result :=
  .next (withRecord (s.barrierRecord b.val) (exitWaitEffect b.val) s)

/-! ## Fault unit, configuration unit -/

/-- The status period expiry set again, T_status after itself (R146). -/
def nextStatusPeriod (s : State) : State :=
  s.setFault { s.fault with statusExpiry := some (timePlus s.now (tStatusOf s.crTab)) }

/-- STATUS_PERIOD_EXPIRY (R146). -/
def execStatusPeriodExpiry (s : State) : Result :=
  .next (atExpiry s.fault.statusExpiry (fun s => finish s true (nextStatusPeriod s)) s)

/-- ACTIVATION_TAKES_EFFECT (R176): the waiting activation takes effect if the part is quiescent (log 7). -/
def execActivationTakesEffect (s : State) : Result := .next (settle s s)

/-! ## Ports and command block -/

/-- A port that goes DOWN: its silence expiry removed, its four queues emptied, its transmission kept
(R155). -/
def portDownState (ps : PortState) : PortState :=
  { ps with link := .down, silence := none, command := [], status := [], reply := [], forward := [] }

/-- A port going DOWN (R155). -/
def portGoesDown (p : Port) (s : State) : State :=
  enterFault .portDown (portNumber p) (s.port p).silenceWith.toNat
    (s.setPort p (portDownState (s.port p)))

/-- PORT_SILENCE_EXPIRY (R155). -/
def execPortSilenceExpiry (p : Port) (s : State) : Result :=
  .next (atExpiry (s.port p).silence (fun s => finish s false (portGoesDown p s)) s)

/-- The FILL telegram a port sends (R156). -/
def fillTelegram (own : Addr) : Telegram := { dst := 0, src := own, kind := kindFill, payload := [] }

/-- What an idle expiry does: FILL sent if the transmitter is free (R156). -/
def idleReached (p : Port) (s : State) : State :=
  s.setPort p { s.port p with
    idle := none
    transmitter := match (s.port p).transmitter with
      | some t => some t
      | none => some (fillTelegram s.ownAddress) }

/-- IDLE_EXPIRY (R156). -/
def execIdleExpiry (p : Port) (s : State) : Result :=
  .next (atExpiry (s.port p).idle (idleReached p) s)

/-- What a completed transmission does: the transmitter free, the idle expiry floor(T_silence / 4) from now,
and the arbiter's next choice handed over (R156, R163). -/
def transmissionDone (p : Port) (s : State) : State :=
  s.setPort p (serveTransmitter s.loopTab s.now
    { s.port p with
      transmitter := none
      idle := some (timePlus s.now ((tSilenceOf s.loopTab).toNat / 4)) })

/-- TRANSMISSION_COMPLETE (R156): no effect while no transmission is under way (log 12). -/
def execTransmissionComplete (p : Port) (s : State) : Result :=
  .next (if (s.port p).transmitter.isSome then transmissionDone p s else s)

/-- REFRESH_EXPIRY (R165, R167). -/
def execRefreshExpiry (s : State) : Result :=
  .next (atExpiry s.cmd.refresh (fun s => finish s false (refreshBlock s)) s)

end Sys2Proof.Machine
end

