-- ==== Sys2Proof/Machine/Dispatch.lean ====
section
/-! DEFINITION. One meaning per command: exec, arm by arm in the order of Syntax. -/

namespace Sys2Proof.Machine

/-- The effect of a command on everything but the queue, by the rules of the manual. -/
def exec (i : Instr) (s : State) : Host.Outcome State Fault Refusal :=
  match i with
  | .hardwareReset strap => Sys2Proof.Machine.execHardwareReset strap s
  | .discardedTelegram port frame => Sys2Proof.Machine.execDiscardedTelegram port frame s
  | .fill at_ payload => Sys2Proof.Machine.execFill at_ payload s
  | .ownTelegramReturned port dst kind payload => Sys2Proof.Machine.execOwnTelegramReturned port dst kind payload s
  | .passedCopy port t => Sys2Proof.Machine.execPassedCopy port t s
  | .roleMismatch port t => Sys2Proof.Machine.execRoleMismatch port t s
  | .wheel at_ payload => Sys2Proof.Machine.execWheel at_ payload s
  | .heartbeat at_ payload => Sys2Proof.Machine.execHeartbeat at_ payload s
  | .detectorSilenceExpiry detector => Sys2Proof.Machine.execDetectorSilenceExpiry detector s
  | .entryGapExpiry tag => Sys2Proof.Machine.execEntryGapExpiry tag s
  | .scheduledStartExpiry tag => Sys2Proof.Machine.execScheduledStartExpiry tag s
  | .amberExpiry => Sys2Proof.Machine.execAmberExpiry s
  | .redExpiry => Sys2Proof.Machine.execRedExpiry s
  | .exitDelayExpiry => Sys2Proof.Machine.execExitDelayExpiry s
  | .longClosureExpiry => Sys2Proof.Machine.execLongClosureExpiry s
  | .lampReport at_ payload => Sys2Proof.Machine.execLampReport at_ payload s
  | .lampModuleSilenceExpiry module_ => Sys2Proof.Machine.execLampModuleSilenceExpiry module_ s
  | .barrierReport at_ payload => Sys2Proof.Machine.execBarrierReport at_ payload s
  | .provingExpiry barrier => Sys2Proof.Machine.execProvingExpiry barrier s
  | .barrierModuleSilenceExpiry module_ => Sys2Proof.Machine.execBarrierModuleSilenceExpiry module_ s
  | .presenceModuleSilenceExpiry module_ => Sys2Proof.Machine.execPresenceModuleSilenceExpiry module_ s
  | .presenceReport at_ payload => Sys2Proof.Machine.execPresenceReport at_ payload s
  | .exitWaitExpiry barrier => Sys2Proof.Machine.execExitWaitExpiry barrier s
  | .statusPeriodExpiry => Sys2Proof.Machine.execStatusPeriodExpiry s
  | .acknowledge at_ payload => Sys2Proof.Machine.execAcknowledge at_ payload s
  | .restoreSweep at_ payload => Sys2Proof.Machine.execRestoreSweep at_ payload s
  | .restoreDirect at_ track section_ => Sys2Proof.Machine.execRestoreDirect at_ track section_ s
  | .historyRead at_ payload => Sys2Proof.Machine.execHistoryRead at_ payload s
  | .identify at_ payload => Sys2Proof.Machine.execIdentify at_ payload s
  | .restartKeep at_ payload => Sys2Proof.Machine.execRestartKeep at_ payload s
  | .restartDiscard at_ => Sys2Proof.Machine.execRestartDiscard at_ s
  | .stageWrite at_ payload => Sys2Proof.Machine.execStageWrite at_ payload s
  | .stageRead at_ payload => Sys2Proof.Machine.execStageRead at_ payload s
  | .activate at_ payload => Sys2Proof.Machine.execActivate at_ payload s
  | .activateLoop at_ payload => Sys2Proof.Machine.execActivateLoop at_ payload s
  | .confirm at_ payload => Sys2Proof.Machine.execConfirm at_ payload s
  | .activationTakesEffect => Sys2Proof.Machine.execActivationTakesEffect s
  | .portSilenceExpiry port => Sys2Proof.Machine.execPortSilenceExpiry port s
  | .idleExpiry port => Sys2Proof.Machine.execIdleExpiry port s
  | .transmissionComplete port => Sys2Proof.Machine.execTransmissionComplete port s
  | .refreshExpiry => Sys2Proof.Machine.execRefreshExpiry s

end Sys2Proof.Machine
end

