-- ==== Sys2Proof/Machine/Step.lean ====
section
/-! DEFINITION. The step: the command at the front of the queue, or, with none waiting, time. -/

namespace Sys2Proof.Machine

/-- A command that is offered when its condition holds. -/
def offer (b : Bool) (i : Instr) : List Instr := if b then [i] else []

/-- The silence expiries that are due: ports, detectors, modules. -/
def dueSilences (s : State) : List Instr :=
  offer (s.due s.portA.silence) (.portSilenceExpiry .a)
    ++ offer (s.due s.portB.silence) (.portSilenceExpiry .b)
    ++ (List.finRange 32).flatMap (fun d =>
        offer ((s.detectorRecord d.val).any fun r => s.due r.silence) (.detectorSilenceExpiry d))
    ++ (List.finRange 4).flatMap (fun j =>
        offer ((s.lamp.modules[j.val]?).any fun m => s.due m.silence) (.lampModuleSilenceExpiry j))
    ++ (List.finRange 4).flatMap (fun j =>
        offer ((s.barrier.modules[j.val]?).any fun m => s.due m.silence) (.barrierModuleSilenceExpiry j))
    ++ (List.finRange 2).flatMap fun j =>
        offer ((s.barrier.presence[j.val]?).any fun m => s.due m.silence) (.presenceModuleSilenceExpiry j)

/-- The expiries of train records that are due. -/
def dueRecords (s : State) : List Instr :=
  s.tracker.records.flatMap (fun r => offer (s.due (approachingStart r)) (.scheduledStartExpiry r.tag))
    ++ s.tracker.records.flatMap fun r => offer (s.due (entryGapExpiry s.crTab r)) (.entryGapExpiry r.tag)

/-- The expiries of the sequencer and of the barriers that are due. -/
def dueCrossing (s : State) : List Instr :=
  offer (s.due s.seq.amber) .amberExpiry
    ++ offer (s.due s.seq.red) .redExpiry
    ++ offer (s.due s.seq.exitDelay) .exitDelayExpiry
    ++ offer (s.due s.seq.longClosure) .longClosureExpiry
    ++ (List.finRange 4).flatMap (fun b =>
        offer ((s.barrierRecord b.val).any fun r => s.due r.provingExpiry) (.provingExpiry b))
    ++ (List.finRange 4).flatMap fun b =>
        offer ((s.barrierRecord b.val).any fun r => s.due r.exitWait) (.exitWaitExpiry b)

/-- The expiries of sending that are due. -/
def dueSending (s : State) : List Instr :=
  offer (s.due s.cmd.refresh) .refreshExpiry
    ++ offer (s.due s.fault.statusExpiry) .statusPeriodExpiry
    ++ offer (s.due s.portA.idle) (.idleExpiry .a)
    ++ offer (s.due s.portB.idle) (.idleExpiry .b)

/-- Every expiry that is due, in the order in which the model takes them (DESIGN CHOICE, log 19). -/
def dueCommands (s : State) : List Instr :=
  dueSilences s ++ dueRecords s ++ dueCrossing s ++ dueSending s

/-- The timebase goes on by one ms (section 4.1). -/
def tick (s : State) : State := s.setTimebase (s.timebase + 1)

/-- With no command waiting: the first expiry that is due, else one ms passes (DESIGN CHOICE, log 1). -/
def idleStep (s : State) : Host.Outcome State Fault Refusal :=
  match dueCommands s with
  | [] => .next (tick s)
  | i :: _ => exec i s

/-- One step: the command at the front of the queue, run with the queue's rest; with none, `idleStep`. -/
def step (s : State) : Host.Outcome State Fault Refusal :=
  match s.pending with
  | [] => idleStep s
  | i :: rest => exec i (s.setPending rest)

/-- The command a word spells put at the front of the queue. No row of the table gives bits, so every word
spells none (log 14). -/
def State.withFetchWord (s : State) (nbits w : Nat) : State :=
  match decodeTableWord nbits w with
  | none => s
  | some i => s.setPending (i :: s.pending)

end Sys2Proof.Machine
end

