-- ==== Sys2Proof/WellFormed.lean ====
section
/-! DEFINITION. Well-formed commands: those that say what their row of the command table says. A command that is
not well formed still has a meaning (its telegram is received like any other). -/

namespace Sys2Proof

open Sys2Proof.Machine

/-- The telegram a command is the reception of, with its port, given the part's own address; none for the
other commands and for a frame that is no good telegram. -/
def carried (own : Addr) : Instr → Option (Port × Telegram)
  | .discardedTelegram p frame => (parseFrame frame).map fun t => (p, t)
  | .fill a pl => some (a.port, ⟨a.dst, a.src, kindFill, pl⟩)
  | .ownTelegramReturned p dst kind pl => some (p, ⟨dst, own, kind, pl⟩)
  | .passedCopy p t => some (p, t)
  | .roleMismatch p t => some (p, t)
  | .wheel a pl => some (a.port, ⟨a.dst, a.src, FieldKind.wheel.code, pl⟩)
  | .heartbeat a pl => some (a.port, ⟨a.dst, a.src, FieldKind.heartbeat.code, pl⟩)
  | .lampReport a pl => some (a.port, ⟨a.dst, a.src, FieldKind.lampReport.code, pl⟩)
  | .barrierReport a pl => some (a.port, ⟨a.dst, a.src, FieldKind.barrierReport.code, pl⟩)
  | .presenceReport a pl => some (a.port, ⟨a.dst, a.src, FieldKind.presenceReport.code, pl⟩)
  | .acknowledge a pl => some (a.port, ⟨a.dst, a.src, RequestKind.acknowledge.code, pl⟩)
  | .restoreSweep a pl => some (a.port, ⟨a.dst, a.src, RequestKind.restore.code, pl⟩)
  | .restoreDirect a trk n => some (a.port, ⟨a.dst, a.src, RequestKind.restore.code, [trk, n, 2]⟩)
  | .historyRead a pl => some (a.port, ⟨a.dst, a.src, RequestKind.historyRead.code, pl⟩)
  | .identify a pl => some (a.port, ⟨a.dst, a.src, RequestKind.identify.code, pl⟩)
  | .restartKeep a pl => some (a.port, ⟨a.dst, a.src, RequestKind.restart.code, pl⟩)
  | .restartDiscard a => some (a.port, ⟨a.dst, a.src, RequestKind.restart.code, [2]⟩)
  | .stageWrite a pl => some (a.port, ⟨a.dst, a.src, RequestKind.stageWrite.code, pl⟩)
  | .stageRead a pl => some (a.port, ⟨a.dst, a.src, RequestKind.stageRead.code, pl⟩)
  | .activate a pl => some (a.port, ⟨a.dst, a.src, RequestKind.activate.code, pl⟩)
  | .activateLoop a pl => some (a.port, ⟨a.dst, a.src, RequestKind.activateLoop.code, pl⟩)
  | .confirm a pl => some (a.port, ⟨a.dst, a.src, RequestKind.confirm.code, pl⟩)
  | .hardwareReset _ | .detectorSilenceExpiry _ | .entryGapExpiry _ | .scheduledStartExpiry _
  | .amberExpiry | .redExpiry | .exitDelayExpiry | .longClosureExpiry | .lampModuleSilenceExpiry _
  | .provingExpiry _ | .barrierModuleSilenceExpiry _ | .presenceModuleSilenceExpiry _
  | .exitWaitExpiry _ | .statusPeriodExpiry | .activationTakesEffect | .portSilenceExpiry _
  | .idleExpiry _ | .transmissionComplete _ | .refreshExpiry => none

/-- A payload fits a frame (R180). -/
def payloadFits (pl : List Byte) : Bool := pl.length ≤ maxPayload

/-- What each command must meet to be one of its row: a frame that is discarded, a payload that fits, a
kind that is not FILL where FILL has a row of its own, a RESTORE or RESTART of the other mode, a tag that
a record can have (R29, R154, R180). -/
def wellFormed : Instr → Bool
  | .discardedTelegram _ frame => (parseFrame frame).isNone
  | .ownTelegramReturned _ _ kind pl => payloadFits pl && kind ≠ kindFill
  | .passedCopy _ t | .roleMismatch _ t => payloadFits t.payload && t.kind ≠ kindFill
  | .restoreSweep _ pl => payloadFits pl && !(pl.length = 3 && byteAt pl 2 = 2)
  | .restartKeep _ pl => payloadFits pl && pl ≠ [2]
  | .entryGapExpiry tag | .scheduledStartExpiry tag => tag ≠ 0
  | .fill _ pl | .wheel _ pl | .heartbeat _ pl | .lampReport _ pl | .barrierReport _ pl
  | .presenceReport _ pl | .acknowledge _ pl | .historyRead _ pl | .identify _ pl
  | .stageWrite _ pl | .stageRead _ pl | .activate _ pl | .activateLoop _ pl | .confirm _ pl =>
    payloadFits pl
  | .hardwareReset _ | .detectorSilenceExpiry _ | .amberExpiry | .redExpiry | .exitDelayExpiry
  | .longClosureExpiry | .lampModuleSilenceExpiry _ | .provingExpiry _
  | .barrierModuleSilenceExpiry _ | .presenceModuleSilenceExpiry _ | .exitWaitExpiry _
  | .statusPeriodExpiry | .restoreDirect _ _ _ | .restartDiscard _ | .activationTakesEffect
  | .portSilenceExpiry _ | .idleExpiry _ | .transmissionComplete _ | .refreshExpiry => true

end Sys2Proof
end

