-- ==== Sys2Proof/Safety.lean ====
section
/-! DEFINITION. The terms in which claims about the part are made: what a command leaves alone, when a telegram
is taken, what a reply is, and the invariants of each block. -/

namespace Sys2Proof.Machine

/-! ## Frames -/

/-- What a claim can say is left alone: the fields of State, and parts of them that more commands leave alone
than leave the whole field alone. -/
inductive Block
  | timebase | portA | portB | window | axle | tracker | seq | lamp | barrier | cmd | fault | config
  | freeCounter | pending
  /-- Link states, silence and idle timers of both ports (R155, R156). -/
  | links
  /-- One class of outbound queue of both ports (R162). -/
  | queue (c : QueueClass)
  /-- The status period expiry (R146). -/
  | statusPeriod
  deriving DecidableEq, Repr

/-- The link of a port and its two timers are the same in two states of it. -/
def SameLink (ps qs : PortState) : Prop :=
  qs.link = ps.link ∧ qs.silence = ps.silence ∧ qs.silenceWith = ps.silenceWith ∧ qs.idle = ps.idle

/-- A queue is left alone between two states of a port: it is the same, and so is what is under way, if the
port's transmitter is busy; a free transmitter may take its head (R156), and an empty one stays empty. -/
def SameQueue (c : QueueClass) (ps qs : PortState) : Prop :=
  (ps.transmitter.isSome → qs.queue c = ps.queue c ∧ qs.transmitter = ps.transmitter)
    ∧ (ps.queue c = [] → qs.queue c = [])

/-- Two states hold the same in a block. -/
def Block.Same (s t : State) : Block → Prop
  | .timebase => t.timebase = s.timebase
  | .portA => t.portA = s.portA
  | .portB => t.portB = s.portB
  | .window => t.window = s.window
  | .axle => t.axle = s.axle
  | .tracker => t.tracker = s.tracker
  | .seq => t.seq = s.seq
  | .lamp => t.lamp = s.lamp
  | .barrier => t.barrier = s.barrier
  | .cmd => t.cmd = s.cmd
  | .fault => t.fault = s.fault
  | .config => t.config = s.config
  | .freeCounter => t.freeCounter = s.freeCounter
  | .pending => t.pending = s.pending
  | .links => SameLink s.portA t.portA ∧ SameLink s.portB t.portB
  | .queue c => SameQueue c s.portA t.portA ∧ SameQueue c s.portB t.portB
  | .statusPeriod => t.fault.statusExpiry = s.fault.statusExpiry

/-- Every block but those listed is unchanged from `s` to `t`. -/
def Touches (l : List Block) (s t : State) : Prop := ∀ b, b ∉ l → b.Same s t

/-! ## Telegrams taken -/

/-- A telegram that arrives on an UP port, not the part's own, and that the deciding window consumes with a
role (R154, R157); a COPY window consumes it as well as passing it. -/
structure Consumed (r : Role) (s : State) (a : Arrival) : Prop where
  up : (s.port a.port).link = .up
  notOwn : a.src ≠ s.ownAddress
  window : ∃ w, decidingWindow s.loopTab a.dst = some w ∧ (w.action = some .consume ∨ w.action = some .copy)
    ∧ w.role = some r

/-- A request of a role allowed to send it, with room for its reply (R159, R161). -/
structure Requested (k : RequestKind) (s : State) (a : Arrival) : Prop where
  taken : ∃ r, Consumed r s a ∧ requestAllowed r k = true
  room : (s.port a.port).reply.length < 4

/-- A WHEEL telegram that the axle counter takes in at detector `d`, moving in a direction, with no activation
waiting to take effect (R14, R15). -/
structure WheelAt (s : State) (a : Arrival) (payload : List Byte) (d : Nat) (dir : Direction) : Prop where
  quiet : s.config.activation ≠ .awaitQuiescent
  consumed : Consumed .field s a
  matched : detectorAt s.detTab a.src = some d
  supervised : (s.detectorRecord d).isSome
  whole : payload.length = 4
  order : byteAt payload 0 = 1 ∨ byteAt payload 0 = 2
  direction : dir = if (byteAt payload 0).toNat = (detectorOf s.detTab d).upOrder then .up else .down

/-- A telegram other than FILL and the part's own arrives whole on an UP port (R154). -/
structure Arrived (p : Port) (tel : Telegram) (s : State) : Prop where
  up : (s.port p).link = .up
  fits : tel.payload.length ≤ 48
  notFill : tel.kind ≠ 0
  notOwn : tel.src ≠ s.ownAddress

/-! ## Telegrams sent -/

/-- A telegram has joined a queue of a port, now (R162): last in its queue beside a busy transmitter; under way
where the transmitter was free and nothing waited (R156). -/
def JoinedQueue (p : Port) (c : QueueClass) (tel : Telegram) (s t : State) : Prop :=
  ((s.port p).transmitter.isSome →
      (t.port p).queue c = (s.port p).queue c ++ [⟨tel, s.now, none⟩]
        ∧ (t.port p).transmitter = (s.port p).transmitter)
    ∧ ((s.port p).transmitter = none → (∀ d, (s.port p).queue d = []) →
      (t.port p).queue c = [] ∧ (t.port p).transmitter = some tel)

/-- The reply to a request stands last in the REPLY queue of its port; where the transmitter was free and no
reply waited, it is the one reply there or is under way (R161, R163). `own` is the source it carries. -/
def Replied (a : Arrival) (own : Addr) (kind : Byte) (payload : List Byte) (s t : State) : Prop :=
  ((s.port a.port).transmitter.isSome →
      (t.port a.port).reply
        = (s.port a.port).reply ++ [⟨⟨a.src, own, kind, payload⟩, s.now, none⟩])
    ∧ ((s.port a.port).transmitter = none → (s.port a.port).reply = [] →
      (t.port a.port).reply = [⟨⟨a.src, own, kind, payload⟩, s.now, none⟩]
        ∨ ((t.port a.port).reply = []
            ∧ (t.port a.port).transmitter = some ⟨a.src, own, kind, payload⟩))

/-- The status telegram of a state waits on the signaller port or is under way there (R145, R147). Its source is the
own address now, which a refreshed telegram takes by the model's choice (log 27, DESIGN CHOICE). -/
def StatusSent (t : State) : Prop :=
  (t.port t.signallerPort).transmitter = some t.statusTelegram ∨
    ∃ e ∈ (t.port t.signallerPort).status, e.tel = t.statusTelegram

/-- Active and latched flags are as before for every class but those listed. -/
def OnlyClasses (l : List FaultClass) (s t : State) : Prop :=
  ∀ c, c ∉ l → t.fault.isActive c = s.fault.isActive c ∧ t.fault.isLatched c = s.fault.isLatched c

/-- The classes whose condition the sequence, and what it commands, can change (R92, R109, R113, R128, R130). -/
def sequenceClasses : List FaultClass :=
  [.prolongedClosure, .redLampFailed, .roadLightsFailed, .amberLampFailed, .lampStuckOn, .barrierNotDown,
   .barrierNotUp, .crossingObstructed]

/-- The classes a lamp's samples and a lamp module's supervision can change (R103, R106, R108, R113). -/
def lampClasses : List FaultClass :=
  [.redLampFailed, .roadLightsFailed, .amberLampFailed, .lampStuckOn, .lampModuleSilent]

/-- The classes a barrier's reports, proof and module can change (R124, R130). -/
def barrierClasses : List FaultClass := [.barrierNotDown, .barrierNotUp, .barrierModuleSilent]

/-- The classes a wheel can raise by itself (R7, R8, R16, R35, R41, R57, R65, R68, R150). -/
def wheelClasses : List FaultClass :=
  [.wheelLoss, .countUnderflow, .countOverflow, .unexpectedWheel, .trainTableFull, .shortWarning, .longWarning,
   .overspeed, .notice]

/-- The entries a block puts on port `p`, started now: its slots in slot order (R165). -/
def blockEntries (s : State) (p : Port) : List QueueEntry :=
  (s.cmd.slots.zipIdx.filter fun x => x.1.port = p).map fun x =>
    ⟨slotTelegram s.ownAddress x.1, s.now, some x.2⟩

/-- No activation waits for the part to be quiescent (R175). -/
def NotAwaiting (s : State) : Prop := s.config.activation ≠ .awaitQuiescent

/-- A class is captured as the newest history record, now, with a subject and a detail (R141, R142). -/
def Captured (c : FaultClass) (subject : Byte) (detail : Word) (s t : State) : Prop :=
  t.fault.history.getLast? = some ⟨s.fault.nextRecord, s.now, c, subject, detail⟩
    ∧ t.fault.nextRecord = s.fault.nextRecord + 1

/-! ## What commands do to the records -/

/-- What one wheel at detector `d` does to a section: the disturbance of a gap, then the axle out, then the
axle in (R16, R19, R20). -/
def sectionAfterWheel (s : State) (d : Nat) (gap : Bool) (dir : Direction) (x : TrackSection) : TrackSection :=
  if x.track = s.trackOf d then
    let y := if gap && (adjacentSections s.detTab d).contains x.number then disturbed x else x
    let z := if sectionOut s.detTab d dir = some x.number then axleOut y else y
    if sectionIn s.detTab d dir = some x.number then axleIn z else z
  else x

/-- A section with the disturbance of detector `d`, where there is one (R9, R13). -/
def sectionDisturbed (s : State) (d : Nat) (b : Bool) (x : TrackSection) : TrackSection :=
  if b && x.track = s.trackOf d && (adjacentSections s.detTab d).contains x.number then disturbed x else x

/-- What a train record holds of the counting: tag, approach, entry, counts, peak and head passage, every
other field at a fixed value. -/
def counts (r : TrainRecord) : TrainRecord :=
  { r with
    state := .approaching, entrySpeed := none, lastSpeed := none, scheduledStart := none,
    warnedAt := none, islandEntry := none, achieved := none, merged := false, overspeed := false,
    short := false, receding := false }

/-- A command ends the proof under way of barrier `b`, leaving the record `r` in place: the proving expiry, the
silence of its module, or a report (R121, R122, R124). -/
def EndsProof (c : Instr) (s : State) (b : Nat) (r : BarrierRecord) : Prop :=
  ∃ r0, s.barrierRecord b = some r0 ∧ r0.proving = true ∧ r.proving = false ∧ b < 4 ∧
    ((∃ b' : Fin 4, c = .provingExpiry b' ∧ b'.val = b ∧ r0.provingExpiry = some s.now
        ∧ r = recordLost .expired r0)
      ∨ (∃ j m, c = .barrierModuleSilenceExpiry j ∧ s.barrier.modules[j.val]? = some m
          ∧ m.silence = some s.now ∧ barrierOfModule s.eqTab j.val = some b ∧ s.seq.state ≠ .initSafe
          ∧ r = recordLost .silent r0)
      ∨ ∃ a payload m pos echo, c = .barrierReport a payload ∧ Consumed .field s a
          ∧ moduleOfTypeAt s.eqTab .barrier a.src = some m ∧ barrierReportOf payload = some (pos, echo)
          ∧ barrierOfModule s.eqTab (typeIndex s.eqTab .barrier m) = some b
          ∧ r = reportedRecord s.seq.state pos echo r0)

/-- Every barrier of a list other than `b` is resolved. -/
def OthersResolved (s : State) (c : BarrierCommand) (bs : List Nat) (b : Nat) : Prop :=
  ∀ x ∈ bs, x ≠ b → s.resolved c x = true

/-! ## Phases of the sequence entered -/

/-- A barrier record at the giving of a command now, its proof limited to `ms` (R119). -/
def givenNow (s : State) (c : BarrierCommand) (ms : Nat) (r : BarrierRecord) : BarrierRecord :=
  { r with state := .unproved, commanded := c, proving := true, cause := none,
           provingExpiry := some (timePlus s.now ms) }

/-- A barrier record as the start of exit lowering leaves it: an EXIT barrier held where the zone is occupied and
given LOWER where it is clear, any other as before (R83, R126). -/
def exitLowered (s : State) (b : Nat) (r : BarrierRecord) : BarrierRecord :=
  if barrierExitRole s.eqTab b then
    if s.occupied then { r with held := true, exitWait := some (timePlus s.now (tExitWaitMaxOf s.crTab)) }
    else givenNow s .lower (tLowerMaxOf s.crTab) r
  else r

/-- Some APPROACHING record has its scheduled start before the end of the reopen window (R86). -/
def ReopenHeld (s : State) : Prop :=
  ∃ r ∈ s.tracker.records, r.state = .approaching
    ∧ ∃ x, r.scheduledStart = some x ∧ timeBefore x (timePlus s.now (tReopenMinOf s.crTab)) = true

/-- From `s`, with the sequencer's record `q` and the barrier records `rec`, CLOSED is entered, and `t` is what
results: CLOSED with demand or the reopen hold; else RAISING with RAISE given to every barrier in use, or OPEN
where none is in use (R85, R86, R88). -/
def ClosedEntered (q : Sequencer) (rec : Nat → Option BarrierRecord) (s t : State) : Prop :=
  let q := { q with exitDelay := none, exitStarted := false }
  (s.demand = true ∨ ReopenHeld s →
      t.seq = { q with state := .closed } ∧ ∀ b < 4, t.barrierRecord b = rec b)
    ∧ (s.demand = false → ¬ ReopenHeld s →
      t.seq = { q with state := if barriersInUse s.eqTab = [] then .opened else .raising,
                       onset := none, longClosure := none, prolonged := false }
        ∧ t.fault.isActive .prolongedClosure = false
        ∧ ∀ b < 4, t.barrierRecord b = (rec b).map fun r =>
            if barrierInUse s.eqTab b then givenNow s .raise (tRaiseMaxOf s.crTab) r else r)

/-- Likewise exit lowering starts: every EXIT barrier given LOWER or held; with none in use CLOSED is entered
(R83, R126). -/
def ExitLoweringStarted (q : Sequencer) (rec : Nat → Option BarrierRecord) (s t : State) : Prop :=
  ((∃ b ∈ exitBarriers s.eqTab, ∃ r, rec b = some r ∧ r.commanded = .raise) →
      t.seq = { q with exitDelay := none, exitStarted := true }
        ∧ ∀ b < 4, t.barrierRecord b = (rec b).map (exitLowered s b))
    ∧ (exitBarriers s.eqTab = [] → ClosedEntered q rec s t)

/-- Likewise EXIT_LOWERING is entered: the exit delay runs; with T_exit_delay 0 exit lowering starts (R82,
R83). -/
def ExitLoweringEntered (q : Sequencer) (rec : Nat → Option BarrierRecord) (s t : State) : Prop :=
  (tExitDelayOf s.crTab ≠ 0 →
      t.seq = { q with state := .exitLowering, exitStarted := false,
                       exitDelay := some (timePlus s.now (tExitDelayOf s.crTab)) }
        ∧ ∀ b < 4, t.barrierRecord b = rec b)
    ∧ (tExitDelayOf s.crTab = 0 → ExitLoweringStarted { q with state := .exitLowering } rec s t)

/-! ## Invariants -/

/-- Sections of R6: balances within 0 .. 1023, CLEAR only at 0, OCCUPIED only above 0. -/
def SectionsSound (s : State) : Prop :=
  ∀ x ∈ s.axle.sections, x.balance ≤ 1023 ∧ (x.state = .clear → x.balance = 0)
    ∧ (x.state = .occupied → 0 < x.balance)

/-- The pool of R28 to R30 and R43: its limits, passed counts that never rise along the path, counts and
peak of R29, no record left that is due to retire. -/
def PoolSound (s : State) : Prop :=
  s.tracker.records.length ≤ 16 ∧ (∀ a, (s.recordsOf a).length ≤ 4)
    ∧ ∀ r ∈ s.tracker.records, (∀ k, passedAt r (k + 1) ≤ passedAt r k) ∧ 0 < passedAt r 0
        ∧ passedAt r 0 ≤ r.peak ∧ r.peak ≤ 1023 ∧ retirement s.detTab r = none

/-- Tags of R30: unique, never 0, and the next tag never 0. -/
def TagsSound (s : State) : Prop :=
  s.tracker.nextTag ≠ 0 ∧ (s.tracker.records.map (·.tag)).Nodup ∧ ∀ r ∈ s.tracker.records, r.tag ≠ 0

/-- Which fields a record holds in its state (R29, R68). -/
def recordFieldsSound (r : TrainRecord) : Bool :=
  match r.state with
  | .approaching => r.scheduledStart.isSome && r.warnedAt.isNone && r.islandEntry.isNone && r.achieved.isNone
  | .warned => r.scheduledStart.isNone && r.warnedAt.isSome && r.islandEntry.isNone && r.achieved.isNone
  | .inIsland => r.scheduledStart.isNone && r.warnedAt.isSome && r.islandEntry.isSome && r.achieved.isSome

/-- Every record holds the fields of its state, and none is APPROACHING on an unsupervised approach
(R29, R47). -/
def RecordsSound (s : State) : Prop :=
  ∀ r ∈ s.tracker.records, recordFieldsSound r = true
    ∧ (r.state = .approaching → s.unsupervised r.approach = false)

/-- The sequencer's record of R72, with INIT_SAFE exactly while no safety set is active. -/
def SequencerSound (s : State) : Prop :=
  (s.seq.state = .initSafe ↔ s.safetyActive = false)
    ∧ (s.seq.onset.isSome = inClosure s.seq.state)
    ∧ (s.seq.amber.isSome = true ↔ s.seq.state = .amber)
    ∧ (s.seq.red.isSome = true ↔ s.seq.state = .redFlash)
    ∧ (s.seq.exitDelay.isSome = true ↔ s.seq.state = .exitLowering ∧ s.seq.exitStarted = false)
    ∧ (s.seq.exitStarted = true → s.seq.state = .exitLowering)
    ∧ (s.seq.longClosure.isSome = true → inClosure s.seq.state = true)
    ∧ (s.seq.prolonged = true → inClosure s.seq.state = true ∧ s.seq.longClosure = none)

/-- The road is open or opening only without demand (R75). -/
def DemandSound (s : State) : Prop :=
  (s.seq.state = .opened ∨ s.seq.state = .raising) → s.demand = false

/-- CROSSING_PROVED is asserted exactly while its conditions hold (R129). -/
def ProofSound (s : State) : Prop := s.barrier.proved = s.crossingProof

/-- A barrier record of R118. -/
def barrierFieldsSound (r : BarrierRecord) : Bool :=
  r.proving = r.provingExpiry.isSome && r.cause.isSome = (r.state = .notProved)
    && (!r.proving || r.state = .unproved) && (r.exitWait.isNone || r.held)

/-- What a barrier is commanded to in a sequencer state: an ENTRY barrier, or else an EXIT one (R76); none once
exit lowering has started, where the exit hold decides. -/
def commandOf (q : Sequencer) (entry : Bool) : Option BarrierCommand :=
  match q.state with
  | .initSafe | .closed => some .lower
  | .opened | .amber | .redFlash | .raising => some .raise
  | .entryLowering => some (if entry then .lower else .raise)
  | .exitLowering => if entry then some .lower else if q.exitStarted then none else some .raise

/-- Every barrier holds the fields of its state and is commanded as the sequencer's state says; a barrier is held
only while exit lowering goes on, and commanded up meanwhile (R76, R118, R126, R127). -/
def BarriersSound (s : State) : Prop :=
  ∀ b r, s.barrierRecord b = some r → barrierFieldsSound r = true
    ∧ (barrierInUse s.eqTab b = true →
        ∀ c, commandOf s.seq (barrierEntryRole s.eqTab b) = some c → r.commanded = c)
    ∧ (r.held = true → s.seq.state = .exitLowering ∧ s.seq.exitStarted = true ∧ r.commanded = .raise
        ∧ barrierExitRole s.eqTab b = true)

/-- A lamp record of R106: runs within N_lamp, and of two opposed runs one is 0. -/
def lampRunsSound (n : Nat) (r : LampRecord) : Bool :=
  r.badLit ≤ n && r.goodLit ≤ n && r.stuckRun ≤ n && r.goodDark ≤ n
    && (r.badLit = 0 || r.goodLit = 0) && (r.stuckRun = 0 || r.goodDark = 0)

/-- Lamp records of R106 and red report counts of R112. -/
def LampsSound (s : State) : Prop :=
  (∀ l r, s.lampRecord l = some r → lampRunsSound (nLampOf s.crTab) r = true)
    ∧ ∀ m ∈ s.lamp.modules, m.redCount ≤ 10

/-- The history of R141 and R142: at most 32 records, numbered one after another up to the next number. -/
def HistorySound (s : State) : Prop :=
  s.fault.history.length ≤ 32 ∧
    ∀ i r, s.fault.history[i]? = some r →
      r.number = s.fault.nextRecord - BitVec.ofNat 16 (s.fault.history.length - i)

/-- The set of the event classes (R133): 2 to 9, 22 and 23. -/
def eventClasses : BitVec 24 := 0xC003FC

/-- The flags of R135 and the groups of R137: no event class active, no class active unless latched, groups
as flags and map give them. -/
def FlagsSound (s : State) : Prop :=
  s.fault.active &&& eventClasses = 0 ∧ s.fault.active &&& ~~~s.fault.latched = 0
    ∧ s.fault.groups = groupsOf s.safetyActive s.crTab s.fault.active s.fault.latched

/-- DETECTOR_SILENT, DETECTOR_HEAD_FAULT, PROLONGED_CLOSURE and PORT_DOWN are active exactly while their
conditions hold (R13, R92, R155). -/
def TrackFaultsSound (s : State) : Prop :=
  s.fault.isActive .detectorSilent = s.anyDetectorFailed .silent
    ∧ s.fault.isActive .detectorHeadFault = s.anyDetectorFailed .headFault
    ∧ s.fault.isActive .prolongedClosure = s.seq.prolonged
    ∧ s.fault.isActive .portDown = !s.bothUp

/-- The lamp classes are active exactly while their conditions hold (R103, R106, R108, R113). -/
def LampFaultsSound (s : State) : Prop :=
  s.fault.isActive .redLampFailed = ((List.range 16).any fun l => s.lampFailed l && lampRed s.eqTab l)
    ∧ s.fault.isActive .amberLampFailed = ((List.range 16).any fun l => s.lampFailed l && !lampRed s.eqTab l)
    ∧ s.fault.isActive .lampStuckOn = (List.range 16).any s.lampStuck
    ∧ s.fault.isActive .lampModuleSilent = s.anyLampModuleSilent
    ∧ s.fault.isActive .roadLightsFailed = (s.sideFailed 0 || s.sideFailed 1)

/-- The barrier classes are active exactly while their conditions hold (R124, R128, R130). -/
def BarrierFaultsSound (s : State) : Prop :=
  s.fault.isActive .barrierNotDown = s.anyNotThere .lower
    ∧ s.fault.isActive .barrierNotUp = s.anyNotThere .raise
    ∧ s.fault.isActive .barrierModuleSilent = s.anyBarrierModuleSilent
    ∧ s.fault.isActive .presenceModuleSilent = s.anyPresenceModuleSilent
    ∧ s.fault.isActive .crossingObstructed = (exitBarriers s.eqTab).any s.barrierObstructed

/-- A port of R155, R156, R162 and R163: a DOWN port has no silence timer and empty queues, an UP one has a
silence timer; queues within their capacities; nothing waits beside a free transmitter. -/
def portSound (ps : PortState) : Bool :=
  ((ps.link = .up) = ps.silence.isSome)
    && (ps.link = .up || (ps.command.isEmpty && ps.status.isEmpty && ps.reply.isEmpty && ps.forward.isEmpty))
    && ps.command.length ≤ 8 && ps.reply.length ≤ 4 && ps.forward.length ≤ 8
    && (ps.status.filter entryIsStatus).length ≤ 1 && (ps.status.filter entryIsPassage).length ≤ 7
    && ps.status.all (fun e => entryIsStatus e || entryIsPassage e)
    && (ps.transmitter.isSome
      || (ps.command.isEmpty && ps.status.isEmpty && ps.reply.isEmpty && ps.forward.isEmpty))

/-- Both ports are sound. -/
def PortsSound (s : State) : Prop := portSound s.portA = true ∧ portSound s.portB = true

/-- The stranger list of R160: at most 16 sources, none twice. -/
def StrangersSound (s : State) : Prop :=
  s.window.strangers.length ≤ 16 ∧ s.window.strangers.Nodup

/-- Command slots hold what their modules are commanded to (R76, R101, R119, R164). -/
def SlotsSound (s : State) : Prop := s.cmd.slots = slotsOf s

/-- Sizes and indices of the staged tables, and the active loop table's size (R170). -/
def StagedSound (s : State) : Prop :=
  (∀ i, (s.stagedTable i).words.length = tableSize i ∧ (s.stagedTable i).writeIndex ≤ tableSize i
      ∧ (s.stagedTable i).readIndex ≤ tableSize i)
    ∧ s.loopTab.length = tableSize .loop

/-- The activation record (R174, R175): a pending set exactly while not IDLE, and then the staged tables
pass every check with its identity and CRC. -/
def ActivationSound (s : State) : Prop :=
  (s.config.activation = .idle ↔ s.config.pendingSet = none)
    ∧ ∀ x, s.config.pendingSet = some x → checkActivate x.1 x.2 s.ownAddress s.stagedSafety = none

/-- The active tables (R173, R174): the loop table in range with a CONFIG window; no safety set and empty
tables, or a set that passes every check. -/
def TablesSound (s : State) : Prop :=
  loopInRange s.loopTab = true ∧ (windowsOf s.loopTab).any windowTakesConfig = true
    ∧ (s.safetyActive = false → s.config.tables = safetyEmpty ∧ s.config.activeCrc = 0)
    ∧ (s.safetyActive = true → checkTables s.ownAddress s.config.tables = none)

/-- No activation waits while the part is quiescent (R176). -/
def ActivationPrompt (s : State) : Prop :=
  s.config.activation = .awaitQuiescent → s.quiescent = false

/-- What the derived records are indexed by is what the active tables give (R3, R10, R98, R116, R124). -/
def GeometrySound (s : State) : Prop :=
  s.axle.sections.map (fun x => (x.track, x.number)) = allSections s.detTab
    ∧ s.axle.detectors.map Option.isSome = (List.range 32).map (detectorInUse s.detTab)
    ∧ s.lamp.lamps.map Option.isSome = (List.range 16).map (lampInUse s.eqTab)
    ∧ s.barrier.barriers.map Option.isSome = (List.range 4).map (barrierInUse s.eqTab)
    ∧ s.lamp.modules.length = (modulesOfType s.eqTab .lamp).length
    ∧ s.barrier.modules.length = (modulesOfType s.eqTab .barrier).length
    ∧ s.barrier.presence.length = (modulesOfType s.eqTab .presence).length
    ∧ s.tracker.overflow.length = 8
    ∧ ∀ r ∈ s.tracker.records, r.passed.length = pathLength s.detTab r.approach
        ∧ r.approach < 8 ∧ approachConfigured s.detTab r.approach = true

end Sys2Proof.Machine
end

