-- ==== Sys2Proof/Certificates/Slice0/Obligations.lean ====
section
/-! DEFINITION. The statements about the part: how it steps, what each command does and leaves alone, the
invariants every step keeps. -/

open Sys2Proof Sys2Proof.Machine

/-! ## Step and reset -/

/-- O1. The command at the front of the queue is run on the state with the queue's rest. -/
def Obligations.StepRunsFront : Prop :=
  ∀ (c : Instr) (rest : List Instr) (s : State),
    step (s.setPending (c :: rest)) = exec c (s.setPending rest)

/-- O2. On an empty queue the first due expiry is taken, and where none is due one millisecond passes and
nothing else (the model's choice: logs 1 and 19). -/
def Obligations.EmptyQueueIsTime : Prop :=
  ∀ s : State, s.pending = [] →
    (dueCommands s = [] → step s = .next (s.setTimebase (s.timebase + 1)))
      ∧ ∀ c rest, dueCommands s = c :: rest → step s = exec c s

/-- O3. Hardware reset, from any state and with any strap pins (R26, R50, R94, R115, R131, R151, R168, R179);
that the commands waiting and the count of free values stay is the model's choice (log 11). -/
def Obligations.HardwareReset : Prop :=
  ∀ (strap : BitVec 12) (s : State), ∃ t, exec (.hardwareReset strap) s = .next t
    ∧ t.timebase = 0
    ∧ (∀ p, (t.port p).link = .down ∧ (t.port p).silence = none ∧ (t.port p).idle = some 250
        ∧ (t.port p).transmitter = none ∧ ∀ c, (t.port p).queue c = [])
    ∧ t.window.strangers = []
    ∧ t.ownAddress = BitVec.ofNat 16 (strap.toNat * 16)
    ∧ tSilenceOf t.loopTab = 1000 ∧ tAgeOf t.loopTab = 100 ∧ t.signallerPort = .a
    ∧ arbiterOrder.map (basePriorityOf t.loopTab) = [0, 2, 4, 6]
    ∧ windowOf t.loopTab 0 = ⟨true, t.ownAddress, 0xFFFF, some .consume, some .config, false, 0⟩
    ∧ windowOf t.loopTab 1 = ⟨true, t.ownAddress + 1, 0xFFFF, some .consume, some .signaller, false, 0⟩
    ∧ windowOf t.loopTab 2 = ⟨true, t.ownAddress + 2, 0xFFFF, some .consume, some .field, false, 0⟩
    ∧ (∀ i, 3 ≤ i → i < 8 → (windowOf t.loopTab i).enabled = false)
    ∧ (∀ d, t.detectorRecord d = none) ∧ t.axle.sections = []
    ∧ t.tracker.records = [] ∧ t.tracker.nextTag = 1 ∧ (∀ a, t.overflowed a = false)
    ∧ t.seq = ⟨.initSafe, none, none, none, none, false, none, false⟩
    ∧ (∀ l, t.lampRecord l = none) ∧ t.lamp.modules = []
    ∧ (∀ b, t.barrierRecord b = none) ∧ t.barrier.modules = [] ∧ t.barrier.presence = []
    ∧ t.barrier.proved = false
    ∧ t.cmd.slots = [] ∧ t.cmd.refresh = none
    ∧ t.fault.active = FaultClass.portDown.bit ∧ t.fault.latched = FaultClass.portDown.bit
    ∧ t.fault.history = [⟨0, 0, .portDown, 0, 0⟩] ∧ t.fault.nextRecord = 1 ∧ t.fault.groups = 0
    ∧ t.fault.statusExpiry = none
    ∧ (∀ i, t.stagedTable i = ⟨List.replicate (tableSize i) 0, 0, 0⟩)
    ∧ t.config.tables = ⟨List.replicate 192 0, List.replicate 48 0, List.replicate 112 0, List.replicate 41 0⟩
    ∧ t.config.activation = .idle ∧ t.config.pendingSet = none
    ∧ t.config.activeIdentity = 0 ∧ t.config.activeCrc = 0
    ∧ t.config.strapBase = BitVec.ofNat 16 (strap.toNat * 16)
    ∧ t.pending = s.pending ∧ t.freeCounter = s.freeCounter

/-- O4. The machine right after hardware reset meets the invariants of the blocks. -/
def Obligations.ResetInvariants : Prop :=
  let s := State.reset
  SectionsSound s ∧ PoolSound s ∧ TagsSound s ∧ RecordsSound s ∧ SequencerSound s ∧ DemandSound s
    ∧ ProofSound s ∧ BarriersSound s ∧ LampsSound s ∧ HistorySound s ∧ FlagsSound s ∧ TrackFaultsSound s
    ∧ LampFaultsSound s ∧ BarrierFaultsSound s ∧ PortsSound s ∧ StrangersSound s ∧ SlotsSound s
    ∧ StagedSound s ∧ ActivationSound s ∧ TablesSound s ∧ ActivationPrompt s ∧ GeometrySound s

/-! ## Reception -/

/-- O5. A frame whose length field exceeds 48, whose length differs from what the field gives, or whose CRC
differs, has no effect (R154). -/
def Obligations.BadFrameHasNoEffect : Prop :=
  ∀ (p : Port) (frame : List Byte) (s : State),
    let n := (frame.getD 5 0).toNat
    (48 < n ∨ frame.length ≠ n + 8
        ∨ crc16 (frame.take (n + 6)) ≠ wordOf (frame.getD (n + 6) 0) (frame.getD (n + 7) 0)) →
      exec (.discardedTelegram p frame) s = .next s

/-- O6. Frames and telegrams correspond (R180, R181): the frame of a telegram is good and reads as it, and a good
frame is the frame of what it reads as. -/
def Obligations.FramesAndTelegrams : Prop :=
  (∀ t : Telegram, t.payload.length ≤ 48 → parseFrame (frameBytes t) = some t)
    ∧ ∀ (l : List Byte) (t : Telegram), parseFrame l = some t →
        t.payload.length ≤ 48 ∧ frameBytes t = l

/-- O7. On an UP port a FILL, and the part's own telegram come back, set the silence expiry and do nothing else
(R154, R155). On a DOWN port they take it UP; PORT_DOWN ends where the other port is UP, and the signaller port
going UP makes a status telegram due (R155, R145). -/
def Obligations.FillTelegrams : Prop :=
  (∀ (p : Port) (s : State), (s.port p).link = .up →
     let u := s.setPort p { s.port p with
       silence := some (s.now + BitVec.ofNat 32 (tSilenceOf s.loopTab).toNat)
       silenceWith := tSilenceOf s.loopTab }
     (∀ a payload, a.port = p → payload.length ≤ 48 → exec (.fill a payload) s = .next u)
       ∧ ∀ dst kind payload, payload.length ≤ 48 →
           exec (.ownTelegramReturned p dst kind payload) s = .next u)
  ∧ (∀ (a : Arrival) (payload : List Byte) (kind : Byte) (s : State),
       (s.port a.port).link = .down → payload.length ≤ 48 →
       ∃ t, exec (.fill a payload) s = .next t
         ∧ exec (.ownTelegramReturned a.port a.dst kind payload) s = .next t
         ∧ (t.port a.port).link = .up
         ∧ (t.port a.port).silence = some (s.now + BitVec.ofNat 32 (tSilenceOf s.loopTab).toNat)
         ∧ (t.port a.port).silenceWith = tSilenceOf s.loopTab
         ∧ (t.port a.port).idle = (s.port a.port).idle
         ∧ (∀ c, t.fault.isActive c
             = (s.fault.isActive c && !(c = .portDown && (s.port a.port.other).link = .up)))
         ∧ t.fault.latched = s.fault.latched ∧ t.fault.history = s.fault.history
         ∧ t.fault.nextRecord = s.fault.nextRecord
         ∧ (a.port = s.signallerPort → s.safetyActive = true → StatusSent t)
         ∧ Touches [.portA, .portB, .fault, .links, .queue .status] s t)

/-- O8. The reception of a telegram on a DOWN port is the port going UP, as a FILL there takes it, and then the
reception on an UP port (R154; that the two are events of their own is the model's choice, log 5). -/
def Obligations.DownPortReceivesInTwoEvents : Prop :=
  ∀ (c : Instr) (p : Port) (tel : Telegram) (s : State), carried s.ownAddress c = some (p, tel) →
    tel.payload.length ≤ 48 → (s.port p).link = .down →
    ∃ u, exec (.fill ⟨p, 0, 0⟩ []) s = .next u ∧ (u.port p).link = .up ∧ exec c s = exec c u

/-- O9. The deciding window is the lowest-numbered enabled window whose base and the destination agree under
its mask (R157). -/
def Obligations.LowestHitDecides : Prop :=
  ∀ (lt : List Word) (dst : Addr),
    let hits := fun i => (windowOf lt i).enabled = true
      ∧ dst &&& (windowOf lt i).mask = (windowOf lt i).base &&& (windowOf lt i).mask
    (∀ w, decidingWindow lt dst = some w ↔ ∃ i, i < 8 ∧ w = windowOf lt i ∧ hits i ∧ ∀ j < i, ¬ hits j)
      ∧ (decidingWindow lt dst = none ↔ ∀ i < 8, ¬ hits i)

/-- O10. A telegram that no window hits, or whose window's action is PASS, is sent out of the other port,
translated where the window says so, or dropped where that port is DOWN or its FORWARD queue full (R157,
R158). A telegram whose deciding window's action is COPY is taken as a CONSUME window takes it, and its copy is then
sent so (R157; that it is consumed first is the model's choice, log 8). -/
def Obligations.PassedCopy : Prop :=
  (∀ (p : Port) (tel : Telegram) (s : State), Arrived p tel s →
    (∀ w, decidingWindow s.loopTab tel.dst = some w → w.action = some .pass) →
    let dst := match decidingWindow s.loopTab tel.dst with
      | some w => if w.translate then w.translateBase ||| (tel.dst &&& ~~~w.mask) else tel.dst
      | none => tel.dst
    ((s.port p.other).link = .up → (s.port p.other).forward.length < 8 →
      ∃ t, exec (.passedCopy p tel) s = .next t
        ∧ JoinedQueue p.other .forward { tel with dst := dst } s t
        ∧ Touches [.portA, .portB, .queue .forward] (hearLink p s) t)
      ∧ ((s.port p.other).link = .down ∨ 8 ≤ (s.port p.other).forward.length →
        exec (.passedCopy p tel) s = .next (hearLink p s)))
  ∧ ∀ (c : Instr) (p : Port) (tel : Telegram) (s : State) (w : Window),
      carried s.ownAddress c = some (p, tel) → Arrived p tel s → decidingWindow s.loopTab tel.dst = some w →
      let u := consume p tel w.role (hearLink p s)
      let dst := if w.translate then w.translateBase ||| (tel.dst &&& ~~~w.mask) else tel.dst
      (w.action = some .consume → exec c s = .next u)
        ∧ (w.action = some .copy → (u.port p.other).link = .up → (u.port p.other).forward.length < 8 →
          ∃ t, exec c s = .next t ∧ JoinedQueue p.other .forward { tel with dst := dst } u t
            ∧ Touches [.portA, .portB, .queue .forward] u t)
        ∧ (w.action = some .copy →
          (u.port p.other).link = .down ∨ 8 ≤ (u.port p.other).forward.length → exec c s = .next u)

/-- O11. A consumed telegram of a kind its role may not send, or a field report from a detector or module of another
type, is discarded with one NOTICE for a role mismatch (R159, R14, R102, R120, R125, R138, R135). A report from the
right source whose length or codes do not fit is discarded without effect (R14, R102, R120, R125). -/
def Obligations.RoleMismatch : Prop :=
  ∀ (c : Instr) (p : Port) (tel : Telegram) (s : State) (w : Window),
    carried s.ownAddress c = some (p, tel) → Arrived p tel s →
    decidingWindow s.loopTab tel.dst = some w → w.action = some .consume →
    let detector := (detectorAt s.detTab tel.src).isSome
    let module := fun (ty : ModuleType) => (moduleOfTypeAt s.eqTab ty tel.src).isSome
    (((w.role = some .field ∧ tel.kind ∉ [0x10, 0x11, 0x12, 0x13, 0x14])
      ∨ (w.role = some .signaller ∧ tel.kind ∉ [0x40, 0x41, 0x42, 0x43, 0x44, 0x45])
      ∨ (w.role = some .config ∧ tel.kind ∉ [0x43, 0x44, 0x45, 0x46, 0x47, 0x48, 0x49])
      ∨ (w.role = some .field ∧ s.knownSource tel.src = true
          ∧ ((tel.kind ∈ [0x10, 0x11] ∧ detector = false) ∨ (tel.kind = 0x12 ∧ module .lamp = false)
            ∨ (tel.kind = 0x13 ∧ module .barrier = false) ∨ (tel.kind = 0x14 ∧ module .presence = false)))) →
      ∃ t, exec c s = .next t
        ∧ Captured .notice (if p = .a then 36 else 37) tel.src s t
        ∧ t.fault.latched = s.fault.latched ||| FaultClass.notice.bit
        ∧ t.fault.active = s.fault.active
        ∧ Touches [.portA, .portB, .fault, .queue .status] (hearLink p s) t)
    ∧ (w.role = some .field → NotAwaiting s → ProofSound s →
      ((tel.kind = 0x10 ∧ detector = true
          ∧ (tel.payload.length ≠ 4 ∨ (byteAt tel.payload 0 ≠ 1 ∧ byteAt tel.payload 0 ≠ 2)))
        ∨ (tel.kind = 0x11 ∧ detector = true
          ∧ (tel.payload.length ≠ 2 ∨ (byteAt tel.payload 1 ≠ 1 ∧ byteAt tel.payload 1 ≠ 2)))
        ∨ (tel.kind = 0x12 ∧ module .lamp = true
          ∧ (tel.payload.length ≠ 12 ∨ ∃ n < 4, 2 < (byteAt tel.payload (3 * n)).toNat
            ∨ (byteAt tel.payload (3 * n + 1) ≠ 1 ∧ byteAt tel.payload (3 * n + 1) ≠ 2)))
        ∨ (tel.kind = 0x13 ∧ module .barrier = true
          ∧ (tel.payload.length ≠ 2 ∨ byteAt tel.payload 0 = 0 ∨ 4 < (byteAt tel.payload 0).toNat
            ∨ 2 < (byteAt tel.payload 1).toNat))
        ∨ (tel.kind = 0x14 ∧ module .presence = true
          ∧ (tel.payload.length ≠ 1 ∨ (byteAt tel.payload 0 ≠ 1 ∧ byteAt tel.payload 0 ≠ 2)))) →
      exec c s = .next (hearLink p s))

/-- O12. A field telegram from a source in no table joins the stranger list with one NOTICE, the oldest source
leaving a list of 16; from a source listed it does nothing (R160, R138). -/
def Obligations.Stranger : Prop :=
  ∀ (c : Instr) (p : Port) (tel : Telegram) (s : State) (w : Window),
    carried s.ownAddress c = some (p, tel) → Arrived p tel s →
    decidingWindow s.loopTab tel.dst = some w → w.action = some .consume → w.role = some .field →
    tel.kind ∈ [0x10, 0x11, 0x12, 0x13, 0x14] →
    (∀ d < 32, (detectorOf s.detTab d).addr = tel.src → (detectorOf s.detTab d).addr = 0) →
    (∀ m < 10, (moduleOf s.eqTab m).addr = tel.src → (moduleOf s.eqTab m).typeCode = 0) →
    (tel.src ∈ s.window.strangers → exec c s = .next (hearLink p s))
      ∧ (tel.src ∉ s.window.strangers → ∃ t, exec c s = .next t
        ∧ (s.window.strangers.length < 16 → t.window.strangers = s.window.strangers ++ [tel.src])
        ∧ (s.window.strangers.length = 16 → t.window.strangers = s.window.strangers.tail ++ [tel.src])
        ∧ t.window.loopTable = s.window.loopTable
        ∧ Captured .notice (if p = .a then 34 else 35) tel.src s t
        ∧ t.fault.latched = s.fault.latched ||| FaultClass.notice.bit
        ∧ t.fault.active = s.fault.active
        ∧ Touches [.portA, .portB, .window, .fault, .queue .status] (hearLink p s) t)

/-! ## Axle counter and train records -/

/-- O13. One axle into a section (R7) and one out of it (R8), by its state and balance; every other section stays. -/
def Obligations.AxleCounting : Prop :=
  (∀ (d n : Nat) (s : State) (x : TrackSection), s.sectionAt (s.trackOf d) n = some x →
     let y := (countIn d (some n) s).sectionAt (s.trackOf d) n
     (x.state = .clear → x.balance = 0 → y = some { x with balance := 1, state := .occupied })
       ∧ (x.state = .occupied → 1 ≤ x.balance → x.balance ≤ 1022 →
           y = some { x with balance := x.balance + 1 })
       ∧ (x.state = .disturbed ∨ x.state = .prepared → x.balance ≤ 1022 →
           y = some { x with balance := x.balance + 1 })
       ∧ (x.state ≠ .clear → x.balance = 1023 → y = some { x with state := .disturbed })
       ∧ (countIn d (some n) s).axle
           = { s.axle with sections := mapSection (s.trackOf d) n axleIn s.axle.sections }
       ∧ Touches [.axle, .fault] s (countIn d (some n) s)
       ∧ (x.balance ≤ 1022 → countIn d (some n) s
           = s.setAxle { s.axle with sections := mapSection (s.trackOf d) n axleIn s.axle.sections })
       ∧ (x.balance = 1023 → (countIn d (some n) s).fault.isLatched .countOverflow = true))
  ∧ (∀ (d n : Nat) (s : State) (x : TrackSection), s.sectionAt (s.trackOf d) n = some x →
       let y := (countOut d (some n) s).sectionAt (s.trackOf d) n
       (x.state = .occupied ∨ x.state = .prepared → 2 ≤ x.balance →
           y = some { x with balance := x.balance - 1 })
         ∧ (x.state = .occupied ∨ x.state = .prepared → x.balance = 1 →
             y = some { x with balance := 0, state := .clear })
         ∧ (x.state = .disturbed → 1 ≤ x.balance → y = some { x with balance := x.balance - 1 })
         ∧ (x.state = .prepared → x.balance = 0 → y = some x)
         ∧ (x.state = .clear ∨ x.state = .disturbed → x.balance = 0 →
             y = some { x with state := .disturbed }
               ∧ (countOut d (some n) s).fault.isLatched .countUnderflow = true)
         ∧ (countOut d (some n) s).axle
             = { s.axle with sections := mapSection (s.trackOf d) n axleOut s.axle.sections }
         ∧ Touches [.axle, .fault] s (countOut d (some n) s)
         ∧ (1 ≤ x.balance ∨ x.state = .prepared → countOut d (some n) s
             = s.setAxle { s.axle with sections := mapSection (s.trackOf d) n axleOut s.axle.sections }))

/-- O14. A WHEEL taken in (R14 to R16, R19, R20): the silence timer, the sequence check, the balances; and what
it leaves alone. -/
def Obligations.WheelCounted : Prop :=
  ∀ (a : Arrival) (payload : List Byte) (s : State) (d : Nat) (r : DetectorRecord),
    NotAwaiting s → Consumed .field s a → detectorAt s.detTab a.src = some d →
    s.detectorRecord d = some r → payload.length = 4 →
    (byteAt payload 0 = 1 ∨ byteAt payload 0 = 2) →
    let number := byteAt payload 3
    let gap := r.lastSeq.any fun q => number ≠ q + 1
    let dir := if (byteAt payload 0).toNat = (detectorOf s.detTab d).upOrder then Direction.up else .down
    ∃ t, exec (.wheel a payload) s = .next t
      ∧ t.axle.detectors = s.axle.detectors.set d
          (some { r with lastSeq := some number,
                         silence := some (timePlus s.now (detectorOf s.detTab d).silence) })
      ∧ t.axle.sections = s.axle.sections.map (sectionAfterWheel s d gap dir)
      ∧ (gap = true → t.fault.isLatched .wheelLoss = true)
      ∧ (∀ n x, sectionOut s.detTab d dir = some n → s.sectionAt (s.trackOf d) n = some x →
          x.balance = 0 → x.state ≠ .prepared → t.fault.isLatched .countUnderflow = true)
      ∧ (∀ n x, sectionIn s.detTab d dir = some n → s.sectionAt (s.trackOf d) n = some x →
          x.balance = 1023 → t.fault.isLatched .countOverflow = true)
      ∧ OnlyClasses (wheelClasses ++ sequenceClasses) s t
      ∧ Touches [.portA, .portB, .axle, .tracker, .seq, .lamp, .barrier, .cmd, .fault,
          .queue .command, .queue .status, .queue .forward] (hearLink a.port s) t

/-- O15. A strike-in wheel. Of a new train, with room in the pool and on the approach, it creates one record at the
end of the pool, with the first tag of the cycle from the next tag that no record holds (R30, R33). Where the newest
record's entry is open, it joins that record and no other (R32); where it is closed and there is no room, it is
merged into it (R34). Where the pool is full and the approach has no record, or the record's passed[0] is at 1023,
no record takes it and the overflow flag is set, with TRAIN_TABLE_FULL if it was clear (R35, R36), on a track whose
geometry is sound (R2). -/
def Obligations.StrikeInWheel : Prop :=
  ∀ (a : Arrival) (payload : List Byte) (s : State) (d : Nat) (dir : Direction), WheelAt s a payload d dir →
    let ap := approachIndex (s.trackOf d) dir
    let full := 16 ≤ s.tracker.records.length
    let noRoom := full ∨ 4 ≤ (s.recordsOf ap).length
    let entered := fun (x : TrainRecord) => { x with
      passed := x.passed.set 0 (passedAt x 0 + 1), peak := max x.peak (passedAt x 0 + 1)
      lastEntry := s.passageTime d, entryOpen := true }
    pathIndex s.detTab ap d = some 0 →
    ((∀ i x, s.newest ap = some i → s.tracker.records[i]? = some x → x.entryOpen = false) → ¬ noRoom →
      ∃ t tag, exec (.wheel a payload) s = .next t
        ∧ t.tracker.records.map counts = s.tracker.records.map counts
            ++ [counts (createdRecord s.detTab ap tag (s.passageTime d))]
        ∧ (s.tracker.nextTag ≠ 0 → tag ≠ 0) ∧ (∀ x ∈ s.tracker.records, x.tag ≠ tag)
        ∧ (∃ n, tag = tagAfter^[n] s.tracker.nextTag
            ∧ ∀ j < n, ∃ x ∈ s.tracker.records, x.tag = tagAfter^[j] s.tracker.nextTag)
        ∧ t.tracker.nextTag = (if tag = 255 then 1 else tag + 1)
        ∧ (∀ x, t.tracker.records.getLast? = some x → (x.state = .approaching ↔ x.warnedAt = none)))
    ∧ (∀ i x, s.newest ap = some i → s.tracker.records[i]? = some x → passedAt x 0 < 1023 →
      (x.entryOpen = true → ∃ t, exec (.wheel a payload) s = .next t
        ∧ t.tracker.records.map counts = (s.tracker.records.map counts).set i (counts (entered x))
        ∧ t.tracker.nextTag = s.tracker.nextTag)
      ∧ (x.entryOpen = false → noRoom → ∃ t y, exec (.wheel a payload) s = .next t
        ∧ t.tracker.records.map counts = (s.tracker.records.map counts).set i (counts (entered x))
        ∧ t.tracker.nextTag = s.tracker.nextTag
        ∧ t.tracker.records[i]? = some y ∧ y.merged = true
        ∧ (x.state ≠ .approaching → y.state = x.state ∧ y.scheduledStart = x.scheduledStart)
        ∧ (y.state = .approaching → ∀ old, x.scheduledStart = some old →
            ∃ new, y.scheduledStart = some new ∧ timeBefore old new = false)))
    ∧ ((s.newest ap = none ∧ full ∨ ∃ i x, s.newest ap = some i ∧ s.tracker.records[i]? = some x
          ∧ 1023 ≤ passedAt x 0 ∧ (x.entryOpen = true ∨ noRoom)) → trackSound s.detTab (s.trackOf d) = true →
      ∃ t, exec (.wheel a payload) s = .next t
        ∧ t.tracker.records.map counts = s.tracker.records.map counts
        ∧ t.tracker.nextTag = s.tracker.nextTag
        ∧ (ap < s.tracker.overflow.length → t.overflowed ap = true)
        ∧ t.fault.isLatched .trainTableFull
            = (s.fault.isLatched .trainTableFull || !s.overflowed ap))

/-- O16. An inward wheel inside the path is taken by the oldest record that has an axle to give; the record
leaves the pool if that completes its passage, and every other record keeps its counts (R37, R38, R43). -/
def Obligations.InwardWheel : Prop :=
  ∀ (a : Arrival) (payload : List Byte) (s : State) (d k i : Nat) (dir : Direction) (x : TrainRecord),
    WheelAt s a payload d dir →
    pathIndex s.detTab (approachIndex (s.trackOf d) dir) d = some (k + 1) →
    s.tracker.records[i]? = some x → x.approach = approachIndex (s.trackOf d) dir →
    passedAt x (k + 1) < passedAt x k →
    (∀ j < i, ∀ y, s.tracker.records[j]? = some y → y.approach = x.approach →
      passedAt y k ≤ passedAt y (k + 1)) →
    let head := passedAt x (k + 1) = 0
    let y := { x with passed := x.passed.set (k + 1) (passedAt x (k + 1) + 1),
                      headDetector := if head then k + 1 else x.headDetector,
                      headTime := if head then s.passageTime d else x.headTime }
    ∃ t, exec (.wheel a payload) s = .next t
      ∧ t.tracker.records.map counts
          = (if (retirement s.detTab y).isNone then (s.tracker.records.map counts).set i (counts y)
             else (s.tracker.records.map counts).eraseIdx i)

/-- O17. An outward wheel is taken by the newest record that has an axle to give back, where it stands on no inward path
or no record there has an axle to give inward (R31, R37, R40, R43). -/
def Obligations.OutwardWheel : Prop :=
  ∀ (w : WheelPassage) (s : State) (k i : Nat) (x : TrainRecord),
    let ap := approachIndex w.track w.direction.opposite
    let inward := approachIndex w.track w.direction
    (pathIndex s.detTab inward w.detector = none ∨ ∃ n, pathIndex s.detTab inward w.detector = some (n + 1)
      ∧ ∀ r ∈ s.tracker.records, r.approach = inward → passedAt r n ≤ passedAt r (n + 1)) →
    pathIndex s.detTab ap w.detector = some k →
    s.tracker.records[i]? = some x → x.approach = ap → passedAt x (k + 1) < passedAt x k →
    (∀ j y, i < j → s.tracker.records[j]? = some y → y.approach = ap →
      passedAt y k ≤ passedAt y (k + 1)) →
    let y := { x with passed := x.passed.set k (passedAt x k - 1), receding := true }
    (retirement s.detTab y = none →
        attributeWheel w s = s.setTracker { s.tracker with records := s.tracker.records.set i y })
      ∧ ((retirement s.detTab y).isSome →
        (attributeWheel w s).tracker = { s.tracker with records := s.tracker.records.eraseIdx i }
          ∧ OnlyClasses [.notice] s (attributeWheel w s)
          ∧ Touches [.portA, .portB, .tracker, .fault, .queue .status] s (attributeWheel w s))

/-- O18. The first head passage at the island-entry (R39, R66 to R69): the record becomes IN_ISLAND, by way of
WARNED where it was APPROACHING, which judges its predicted warning, with its achieved warning judged. -/
def Obligations.IslandEntry : Prop :=
  ∀ (w : WheelPassage) (creation : Bool) (r : TrainRecord) (s : State),
    let x := islandCall w creation r s
    let achieved := match s.seq.onset with
      | some o => if inClosure s.seq.state && timeBefore o w.passage then (w.passage - o).toNat else 0
      | none => 0
    let ap := approachOf s.appTab r.approach
    x.1.state = .inIsland ∧ x.1.islandEntry = some w.passage ∧ x.1.achieved = some achieved
      ∧ (r.state = .approaching → x.1.scheduledStart = none ∧ x.1.warnedAt = some s.now)
      ∧ (r.state = .approaching →
          (w.passage + BitVec.ofNat 32 (worstArrival ap (s.distanceCm w.detector) (s.callSpeed w r))
            - s.reference).toInt < ap.twMin →
          x.1.short = true ∧ x.2.fault.isLatched .shortWarning = true)
      ∧ (r.state ≠ .approaching → x.1.scheduledStart = r.scheduledStart ∧ x.1.warnedAt = r.warnedAt)
      ∧ (achieved < ap.twMin → x.1.short = true ∧ x.2.fault.isLatched .shortWarning = true)
      ∧ (ap.twMin ≤ achieved → ap.twTarget + ap.twTol < achieved →
          x.2.fault.isLatched .longWarning = true)
      ∧ (r.short = true → x.1.short = true)
      ∧ x.1.passed = r.passed ∧ x.1.tag = r.tag
      ∧ OnlyClasses [.shortWarning, .longWarning, .overspeed] s x.2 ∧ Touches [.fault] s x.2

/-- O19. A HEARTBEAT taken in (R11 to R14, R17). -/
def Obligations.Heartbeat : Prop :=
  ∀ (a : Arrival) (payload : List Byte) (s : State) (d : Nat) (r : DetectorRecord),
    NotAwaiting s → Consumed .field s a → detectorAt s.detTab a.src = some d →
    s.detectorRecord d = some r → payload.length = 2 →
    (byteAt payload 1 = 1 ∨ byteAt payload 1 = 2) →
    let number := byteAt payload 0
    let good := byteAt payload 1 = 1
    let gap := r.lastSeq.any fun q => number ≠ q
    ∃ t, exec (.heartbeat a payload) s = .next t
      ∧ t.axle.detectors = s.axle.detectors.set d
          (some { state := if good then .ok else .failed .headFault, lastSeq := some number,
                  silence := some (timePlus s.now (detectorOf s.detTab d).silence) })
      ∧ t.axle.sections = s.axle.sections.map
          (sectionDisturbed s d (gap || (!decide good && !isFailed r.state)))
      ∧ (gap = true → t.fault.isLatched .wheelLoss = true)
      ∧ (¬ good → r.state ≠ .failed .headFault → t.fault.isActive .detectorHeadFault = true)
      ∧ (good → ∀ c ∈ [FaultClass.detectorSilent, .detectorHeadFault],
          t.fault.isActive c = (s.fault.isActive c && t.anyDetectorFailed
            (if c = .detectorSilent then .silent else .headFault)))
      ∧ OnlyClasses ([.detectorSilent, .detectorHeadFault, .wheelLoss] ++ sequenceClasses) s t
      ∧ Touches [.portA, .portB, .axle, .tracker, .seq, .lamp, .barrier, .cmd, .fault,
          .queue .command, .queue .status, .queue .forward] (hearLink a.port s) t

/-- O20. A detector's silence expiry (R11, R13): FAILED with cause SILENT, its timer stopped, its sections
disturbed where it was not FAILED. -/
def Obligations.DetectorSilence : Prop :=
  ∀ (d : Fin 32) (s : State) (r : DetectorRecord), NotAwaiting s →
    s.detectorRecord d.val = some r → r.silence = some s.now →
    ∃ t, exec (.detectorSilenceExpiry d) s = .next t
      ∧ t.axle.detectors = s.axle.detectors.set d.val
          (some { r with state := .failed .silent, silence := none })
      ∧ t.axle.sections = s.axle.sections.map (sectionDisturbed s d.val (!isFailed r.state))
      ∧ (r.state ≠ .failed .silent → t.fault.isActive .detectorSilent = true)
      ∧ OnlyClasses ([.detectorSilent, .detectorHeadFault] ++ sequenceClasses) s t
      ∧ Touches [.portA, .portB, .axle, .tracker, .seq, .lamp, .barrier, .cmd, .fault,
          .queue .command, .queue .status] s t

/-- O21. The entry gap expiry closes the record's entry; the record leaves the pool if all its axles have
passed (R42, R43). -/
def Obligations.EntryGap : Prop :=
  ∀ (tag : Byte) (s : State) (i : Nat) (r : TrainRecord), NotAwaiting s →
    s.recordWithTag tag = some (i, r) → r.entryOpen = true →
    timePlus r.lastEntry (tGapOf s.crTab) = s.now →
    let y := { r with entryOpen := false }
    ∃ t, exec (.entryGapExpiry tag) s = .next t
      ∧ t.tracker.records.map counts
          = (if (retirement s.detTab y).isNone then (s.tracker.records.map counts).set i (counts y)
             else (s.tracker.records.map counts).eraseIdx i)
      ∧ t.tracker.nextTag = s.tracker.nextTag
      ∧ OnlyClasses (.notice :: sequenceClasses) s t
      ∧ Touches [.portA, .portB, .tracker, .seq, .lamp, .barrier, .cmd, .fault,
          .queue .command, .queue .status] s t

/-- O22. The scheduled start expiry makes the record WARNED, which closes an open road: AMBER, with the closure
onset now (R45, R75, R77, R78, R92). -/
def Obligations.ScheduledStartCloses : Prop :=
  ∀ (tag : Byte) (s : State) (i : Nat) (r : TrainRecord), NotAwaiting s →
    s.recordWithTag tag = some (i, r) → r.state = .approaching → r.scheduledStart = some s.now →
    ∃ t, exec (.scheduledStartExpiry tag) s = .next t
      ∧ t.tracker.records[i]?
          = some { r with state := .warned, scheduledStart := none, warnedAt := some s.now }
      ∧ t.tracker.records.map counts = s.tracker.records.map counts
      ∧ (s.seq.state = .opened → t.seq = { s.seq with
          state := .amber, onset := some s.now, amber := some (timePlus s.now (tAmberOf s.crTab)),
          longClosure := some (timePlus s.now (tLongClosureOf s.crTab)) })
      ∧ OnlyClasses sequenceClasses s t
      ∧ Touches [.portA, .portB, .tracker, .seq, .lamp, .barrier, .cmd, .fault,
          .queue .command, .queue .status] s t

/-- O23. The spot speed of a call (R55): V_line where the head interval is 0, else the head spacing over the interval
rounded up to whole cm/s, clamped to V_floor .. 7000; the worst-case arrival is never after the nominal one
(R61); and a STRIKE-IN, MERGE or ADVANCE call judges its predicted warning (R65, R70), against the closure onset in
a closure and the present time else, and leaves a start, for a record not MERGED the candidate (R62, R63). -/
def Obligations.SpeedAndArrivals : Prop :=
  (∀ (w : WheelPassage) (r : TrainRecord) (s : State),
    let ap := approachOf s.appTab r.approach
    let spacing := (detectorOf s.detTab w.detector).spacing
    let v := s.callSpeed w r
    let clamped := fun u => v = if u < ap.vFloor then ap.vFloor else if 7000 < u then 7000 else u
    ap.vFloor ≤ 7000 →
      (w.interval = 0 → clamped ap.vLine)
      ∧ (0 < w.interval → ∃ u, spacing * 100000 ≤ u * w.interval
          ∧ (∀ x, spacing * 100000 ≤ x * w.interval → u ≤ x) ∧ clamped u)
      ∧ ap.vFloor ≤ v ∧ v ≤ 7000)
  ∧ (∀ (ap : ApproachEntry) (dCm v0 : Nat), 0 < v0 → 0 < ap.aMax →
      worstArrival ap dCm v0 ≤ nominalArrival dCm v0)
  ∧ ∀ (w : WheelPassage) (creation : Bool) (r : TrainRecord) (s : State),
      let ap := approachOf s.appTab r.approach
      let v0 := s.callSpeed w r
      let tWorst := worstArrival ap (s.distanceCm w.detector) v0
      let tNom := nominalArrival (s.distanceCm w.detector) v0
      let offset := min ((tWorst : Int) - ap.twMin) ((tNom : Int) - ap.twTarget)
      let reference := if inClosure s.seq.state then s.seq.onset.getD s.now else s.now
      let available := (w.passage + BitVec.ofNat 32 tWorst - reference).toInt
      let x := scheduleCall w creation r s
      (available < ap.twMin → x.1.short = true ∧ x.2.fault.isLatched .shortWarning = true)
        ∧ (available < ap.twMin → v0 ≤ ap.vLine → s.fault.isLatched .shortWarning = false →
            Captured .shortWarning (BitVec.ofNat 8 r.approach)
              (BitVec.ofNat 16 (min (available.toNat / 100) 32767)) s x.2)
        ∧ (ap.twMin ≤ available → x.1.short = r.short ∧ OnlyClasses [.overspeed] s x.2)
        ∧ (r.merged = false →
            x.1.scheduledStart = some (w.passage + BitVec.ofInt 32 offset))
        ∧ (r.merged = true → ∀ old, r.scheduledStart = some old →
            x.1.scheduledStart = some (timeEarlier old (w.passage + BitVec.ofInt 32 offset)))
        ∧ x.1.passed = r.passed ∧ x.1.tag = r.tag ∧ x.1.state = r.state
        ∧ OnlyClasses [.shortWarning, .overspeed] s x.2 ∧ Touches [.fault] s x.2

/-! ## Sequencer -/

/-- O24. The amber expiry: RED_FLASH, with the red expiry set and every red report count 0 (R79, R112). -/
def Obligations.AmberExpiry : Prop :=
  ∀ s : State, s.seq.amber = some s.now →
    ∃ t, exec .amberExpiry s = .next t
      ∧ t.seq = { s.seq with
          state := .redFlash, amber := none, red := some (timePlus s.now (tRedPreOf s.crTab)) }
      ∧ t.lamp.lamps = s.lamp.lamps
      ∧ t.lamp.modules = s.lamp.modules.map (fun m => { m with redCount := 0 })
      ∧ t.barrier = { s.barrier with proved := false }
      ∧ OnlyClasses [.roadLightsFailed] s t
      ∧ Touches [.portA, .portB, .seq, .lamp, .barrier, .cmd, .fault, .queue .command, .queue .status] s t

/-- O25. The red expiry: ENTRY_LOWERING, LOWER given to every ENTRY barrier and to no other (R80, R119). With no ENTRY
barrier in use the sequencer passes on at once to EXIT_LOWERING (R82), and with T_exit_delay 0 exit lowering
starts at that moment (R83). -/
def Obligations.RedExpiry : Prop :=
  (∀ s : State, s.seq.red = some s.now →
    (∃ b ∈ entryBarriers s.eqTab, (s.barrierRecord b).isSome) →
    ∃ t, exec .redExpiry s = .next t
      ∧ t.seq = { s.seq with state := .entryLowering, red := none }
      ∧ (∀ b < 4, t.barrierRecord b = (s.barrierRecord b).map fun r =>
          if barrierEntryRole s.eqTab b then
            { r with state := .unproved, commanded := .lower, proving := true, cause := none,
                     provingExpiry := some (timePlus s.now (tLowerMaxOf s.crTab)) }
          else r)
      ∧ t.barrier.modules = s.barrier.modules ∧ t.barrier.presence = s.barrier.presence
      ∧ t.barrier.proved = false
      ∧ OnlyClasses sequenceClasses s t
      ∧ Touches [.portA, .portB, .seq, .barrier, .cmd, .fault, .queue .command, .queue .status] s t)
  ∧ ∀ s : State, NotAwaiting s ∨ barriersInUse s.eqTab ≠ [] → s.seq.red = some s.now →
    entryBarriers s.eqTab = [] →
    ∃ t, exec .redExpiry s = .next t
      ∧ ExitLoweringEntered { s.seq with red := none } s.barrierRecord s t
      ∧ t.barrier.modules = s.barrier.modules ∧ t.barrier.presence = s.barrier.presence
      ∧ (t.seq.state ≠ .closed → t.barrier.proved = false)
      ∧ OnlyClasses sequenceClasses s t
      ∧ Touches [.portA, .portB, .seq, .barrier, .cmd, .fault, .queue .command, .queue .status] s t

/-- O26. The exit delay expiry: exit lowering starts. With the zone clear every EXIT barrier is given LOWER; with
the zone occupied every EXIT barrier is held (R83, R126). With no EXIT barrier in use CLOSED is entered at the
expiry, with its reopen decision where demand is absent (R83, R85, R86). -/
def Obligations.ExitDelayExpiry : Prop :=
  (∀ s : State, NotAwaiting s → s.seq.exitDelay = some s.now →
    (∃ b ∈ exitBarriers s.eqTab, ∃ r, s.barrierRecord b = some r ∧ r.commanded = .raise) →
    ∃ t, exec .exitDelayExpiry s = .next t
      ∧ t.seq = { s.seq with exitDelay := none, exitStarted := true }
      ∧ (∀ b < 4, t.barrierRecord b = (s.barrierRecord b).map fun r =>
          if barrierExitRole s.eqTab b then
            if s.occupied then
              { r with held := true, exitWait := some (timePlus s.now (tExitWaitMaxOf s.crTab)) }
            else
              { r with state := .unproved, commanded := .lower, proving := true, cause := none,
                       provingExpiry := some (timePlus s.now (tLowerMaxOf s.crTab)) }
          else r)
      ∧ t.barrier.modules = s.barrier.modules ∧ t.barrier.presence = s.barrier.presence
      ∧ OnlyClasses sequenceClasses s t
      ∧ Touches [.portA, .portB, .seq, .barrier, .cmd, .fault, .queue .command, .queue .status] s t)
  ∧ ∀ s : State, NotAwaiting s ∨ barriersInUse s.eqTab ≠ [] → s.seq.exitDelay = some s.now →
    exitBarriers s.eqTab = [] →
    ∃ t, exec .exitDelayExpiry s = .next t
      ∧ ClosedEntered s.seq s.barrierRecord s t
      ∧ t.barrier.modules = s.barrier.modules ∧ t.barrier.presence = s.barrier.presence
      ∧ OnlyClasses sequenceClasses s t
      ∧ Touches [.portA, .portB, .seq, .barrier, .cmd, .fault, .queue .command, .queue .status] s t

/-- O27. The long closure expiry: removed; with demand, prolonged, and PROLONGED_CLOSURE active with its
detail (R92). -/
def Obligations.LongClosureExpiry : Prop :=
  ∀ s : State, NotAwaiting s → s.seq.longClosure = some s.now →
    ∃ t, exec .longClosureExpiry s = .next t
      ∧ t.seq = { s.seq with longClosure := none, prolonged := s.seq.prolonged || s.demand }
      ∧ (s.demand = true → s.seq.prolonged = false → t.fault.isActive .prolongedClosure = true)
      ∧ (s.demand = true → s.seq.prolonged = false → s.fault.isActive .prolongedClosure = false →
          s.fault.isLatched .prolongedClosure = false →
          Captured .prolongedClosure 0 (BitVec.ofNat 16 s.demandDetail) s t)
      ∧ (s.demand = false → t.fault = s.fault)
      ∧ t.barrier = { s.barrier with proved := s.crossingProof }
      ∧ OnlyClasses [.prolongedClosure] s t
      ∧ Touches [.portA, .portB, .seq, .barrier, .fault, .queue .status] s t

/-- O28. The end of a barrier's proof made known to the sequencer (R81 to R83, R85, R89): the phase ends where
the last barrier it waits for is resolved, and else nothing changes in the sequence. ENTRY_LOWERING ends in
EXIT_LOWERING, where exit lowering starts at once with T_exit_delay 0 (R83, R126); EXIT_LOWERING in CLOSED, where
the reopen decision is made at once with demand absent (R84 to R86). -/
def Obligations.PhaseEnds : Prop :=
  ∀ (c : Instr) (s : State) (b : Nat) (r : BarrierRecord), NotAwaiting s → EndsProof c s b r →
    ∃ t, exec c s = .next t
      ∧ (s.seq.state ∉ [.entryLowering, .exitLowering, .raising] →
          t.seq = s.seq ∧ t.barrierRecord b = some r)
      ∧ (s.seq.state = .entryLowering → b ∈ entryBarriers s.eqTab → recordResolved .lower r = true →
          OthersResolved s .lower (entryBarriers s.eqTab) b → tExitDelayOf s.crTab ≠ 0 →
          t.seq = { s.seq with state := .exitLowering, exitStarted := false,
                               exitDelay := some (timePlus s.now (tExitDelayOf s.crTab)) }
            ∧ t.barrierRecord b = some r)
      ∧ (s.seq.state = .entryLowering → b ∈ entryBarriers s.eqTab → recordResolved .lower r = true →
          OthersResolved s .lower (entryBarriers s.eqTab) b →
          ExitLoweringEntered s.seq (fun x => if x = b then some r else s.barrierRecord x) s t)
      ∧ (s.seq.state = .entryLowering →
          (∃ x ∈ entryBarriers s.eqTab, x ≠ b ∧ s.resolved .lower x = false) →
          t.seq = s.seq ∧ t.barrierRecord b = some r)
      ∧ (s.seq.state = .exitLowering → s.seq.exitStarted = true → b ∈ exitBarriers s.eqTab →
          recordResolved .lower r = true → OthersResolved s .lower (exitBarriers s.eqTab) b →
          s.demand = true →
          t.seq = { s.seq with state := .closed, exitDelay := none, exitStarted := false }
            ∧ t.barrierRecord b = some r)
      ∧ (s.seq.state = .exitLowering → s.seq.exitStarted = true → b ∈ exitBarriers s.eqTab →
          recordResolved .lower r = true → OthersResolved s .lower (exitBarriers s.eqTab) b →
          ClosedEntered s.seq (fun x => if x = b then some r else s.barrierRecord x) s t)
      ∧ (s.seq.state = .exitLowering → s.seq.exitStarted = true →
          (∃ x ∈ exitBarriers s.eqTab, x ≠ b ∧ s.resolved .lower x = false) →
          t.seq = s.seq ∧ t.barrierRecord b = some r)
      ∧ (s.seq.state = .raising → b ∈ barriersInUse s.eqTab → recordResolved .raise r = true →
          OthersResolved s .raise (barriersInUse s.eqTab) b →
          t.seq = { s.seq with state := .opened } ∧ t.barrierRecord b = some r)
      ∧ (s.seq.state = .raising →
          (∃ x ∈ barriersInUse s.eqTab, x ≠ b ∧ s.resolved .raise x = false) →
          t.seq = s.seq ∧ t.barrierRecord b = some r)
      ∧ Touches [.portA, .portB, .links, .seq, .lamp, .barrier, .cmd, .fault, .queue .command,
          .queue .status, .queue .forward] s t

/-- O29. The sequencer acting on demand (R78, R84 to R90, R92, R93): from OPEN to AMBER, from RAISING back to
ENTRY_LOWERING, prolonged once its long closure expiry is past, and in CLOSED the reopen decision. From RAISING with no ENTRY
barrier in use it passes on at once to EXIT_LOWERING (R82). -/
def Obligations.ActsOnDemand : Prop :=
  ∀ s : State,
    let t := actOnDemand s
    let onset := { s.seq with
      onset := some s.now, longClosure := some (timePlus s.now (tLongClosureOf s.crTab)) }
    let limit := timePlus s.now (tReopenMinOf s.crTab)
    let hold := s.tracker.records.any fun r => r.state = .approaching
      && r.scheduledStart.any fun x => timeBefore x limit
    let given := fun (c : BarrierCommand) (bs : List Nat) (ms : Nat) => ∀ b < 4,
      t.barrierRecord b = (s.barrierRecord b).map fun r => if b ∈ bs then
        { r with state := .unproved, commanded := c, proving := true, cause := none,
                 provingExpiry := some (timePlus s.now ms) } else r
    (s.seq.state = .initSafe → t = s)
      ∧ (s.seq.state ≠ .closed → s.demand = false → t = s)
      ∧ (s.seq.state = .opened → s.demand = true → t.seq = { onset with
          state := .amber, amber := some (timePlus s.now (tAmberOf s.crTab)) } ∧ t.barrier = s.barrier)
      ∧ (s.seq.state ∈ [.amber, .redFlash, .entryLowering, .exitLowering, .closed] → s.demand = true →
          t.seq = { s.seq with prolonged := s.seq.prolonged || s.seq.longClosure = none }
            ∧ t.barrier = s.barrier
            ∧ (s.seq.longClosure = none → s.seq.prolonged = false →
                t.fault.isActive .prolongedClosure = true))
      ∧ (s.seq.state = .closed → s.demand = false → hold = true → t = s)
      ∧ (s.seq.state = .closed → s.demand = false → hold = false →
          (t.seq = { s.seq with
            state := if barriersInUse s.eqTab = [] then .opened else .raising
            onset := none, longClosure := none, prolonged := false })
            ∧ t.fault.isActive .prolongedClosure = false
            ∧ given .raise (barriersInUse s.eqTab) (tRaiseMaxOf s.crTab))
      ∧ (s.seq.state = .raising → s.demand = true →
          (∃ b ∈ entryBarriers s.eqTab, (s.barrierRecord b).isSome) →
          t.seq = { onset with state := .entryLowering }
            ∧ given .lower (entryBarriers s.eqTab) (tLowerMaxOf s.crTab)
            ∧ ∀ m ∈ t.lamp.modules, m.redCount = 0)
      ∧ (s.seq.state = .raising → s.demand = true → entryBarriers s.eqTab = [] →
          ExitLoweringEntered onset s.barrierRecord s t ∧ ∀ m ∈ t.lamp.modules, m.redCount = 0)
      ∧ OnlyClasses sequenceClasses s t
      ∧ Touches [.portA, .portB, .seq, .lamp, .barrier, .cmd, .fault, .queue .command] s t

/-! ## Lamps -/

/-- O30. A judged sample acting on a lamp record (R107, R108): its run one longer, up to N_lamp, the opposed run 0,
then the state and stuck-on of the tables. -/
def Obligations.JudgedSample : Prop :=
  ∀ (n : Nat) (r : LampRecord), 0 < n →
    (let t := judgeSample n .goodLit r
     t = { r with
      goodLit := min (r.goodLit + 1) n
      badLit := 0
      state := if r.state = .failed ∧ r.goodLit + 1 < n then .failed else .proved })
    ∧ (let t := judgeSample n .badLit r
       t = { r with
        badLit := min (r.badLit + 1) n
        goodLit := 0
        state := if n ≤ r.badLit + 1 then .failed else r.state })
    ∧ (let t := judgeSample n .stuckOn r
       t = { r with
        stuckRun := min (r.stuckRun + 1) n
        goodDark := 0
        stuckOn := r.stuckOn || n ≤ r.stuckRun + 1 })
    ∧ (let t := judgeSample n .goodDark r
       t = { r with
        goodDark := min (r.goodDark + 1) n
        stuckRun := 0
        stuckOn := r.stuckOn && r.goodDark + 1 < n })
    ∧ judgeSample n .highDark r = { r with stuckRun := 0, goodDark := 0 }

/-- O31. A LAMP_REPORT taken in (R102 to R105, R112): the module OK with its timer set and its red report count
one higher up to 10, each channel's sample judged for the lamp on it if its echo and phase fit, and no other
lamp changed. -/
def Obligations.LampReport : Prop :=
  ∀ (a : Arrival) (payload : List Byte) (s : State) (m : Nat),
    Consumed .field s a → moduleOfTypeAt s.eqTab .lamp a.src = some m → payload.length = 12 →
    (∀ c < 4, (channelReport payload c).isSome) →
    let j := typeIndex s.eqTab .lamp m
    ∃ t, exec (.lampReport a payload) s = .next t
      ∧ t.lamp.modules = s.lamp.modules.modify j (fun x =>
          { supervision := .ok, silence := some (timePlus s.now (moduleOf s.eqTab m).silence),
            redCount := min (x.redCount + 1) 10 })
      ∧ (∀ l, t.lampRecord l =
          match channelReport payload (lampOf s.eqTab l).channel with
          | none => s.lampRecord l
          | some ch =>
            if lampOnChannel s.eqTab j (lampOf s.eqTab l).channel = some l
                ∧ ch.echo = lampMode s.eqTab s.seq.state l then
              match sampleKind (lampOf s.eqTab l) ch.echo ch.lit ch.sample with
              | none => s.lampRecord l
              | some k => (s.lampRecord l).map (judgeSample (nLampOf s.crTab) k)
            else s.lampRecord l)
      ∧ t.barrier = { s.barrier with proved := t.crossingProof }
      ∧ OnlyClasses lampClasses s t
      ∧ Touches [.portA, .portB, .lamp, .barrier, .fault, .queue .status, .queue .forward]
          (hearLink a.port s) t

/-- O32. A lamp module's silence expiry (R103, R110): SILENT, its lamps UNPROVED with every run 0 and stuck-on
no, every other lamp as it was. -/
def Obligations.LampModuleSilence : Prop :=
  ∀ (j : Fin 4) (s : State) (m : LampModule), s.lamp.modules[j.val]? = some m → m.silence = some s.now →
    ∃ t, exec (.lampModuleSilenceExpiry j) s = .next t
      ∧ t.lamp.modules = s.lamp.modules.set j.val { m with supervision := .silent, silence := none }
      ∧ (∀ l, t.lampRecord l = (s.lampRecord l).map fun r =>
          if (lampOf s.eqTab l).module = j.val then ⟨.unproved, 0, 0, false, 0, 0⟩ else r)
      ∧ t.fault.isActive .lampModuleSilent = true
      ∧ t.barrier = { s.barrier with proved := t.crossingProof }
      ∧ OnlyClasses lampClasses s t
      ∧ Touches [.portA, .portB, .lamp, .barrier, .fault, .queue .status] s t

/-! ## Barriers and presence -/

/-- O33. What a report does to a barrier record outside INIT_SAFE (R121, R123). -/
def Obligations.ReportOnBarrier : Prop :=
  ∀ (pos : BarrierPosition) (echo : Option BarrierCommand) (r : BarrierRecord),
    let lost := fun c => { r with state := .notProved, proving := false, provingExpiry := none,
                                  cause := some c }
    let proved := { r with state := if r.commanded = .lower then .provedDown else .provedUp,
                           proving := false, provingExpiry := none, cause := none }
    let atEnd := pos = (if r.commanded = .lower then BarrierPosition.down else .up)
    (pos = .fault → reportOnRecord pos echo r = lost .fault)
      ∧ (pos ≠ .fault → echo ≠ some r.commanded → reportOnRecord pos echo r = r)
      ∧ (pos ≠ .fault → echo = some r.commanded → r.proving = true →
          reportOnRecord pos echo r = if atEnd then proved else r)
      ∧ (pos ≠ .fault → echo = some r.commanded → r.proving = false → r.state = .notProved →
          reportOnRecord pos echo r = if atEnd then proved else r)
      ∧ (pos ≠ .fault → echo = some r.commanded → r.proving = false →
          r.state = (if r.commanded = .lower then .provedDown else .provedUp) →
          reportOnRecord pos echo r = if atEnd then r else lost .lost)

/-- O34. A BARRIER_REPORT taken in outside the three phases that wait for barriers (R120, R124, R129). -/
def Obligations.BarrierReport : Prop :=
  ∀ (a : Arrival) (payload : List Byte) (s : State) (m b : Nat) (pos : BarrierPosition)
      (echo : Option BarrierCommand) (r : BarrierRecord),
    NotAwaiting s → Consumed .field s a → moduleOfTypeAt s.eqTab .barrier a.src = some m →
    barrierReportOf payload = some (pos, echo) →
    barrierOfModule s.eqTab (typeIndex s.eqTab .barrier m) = some b → s.barrierRecord b = some r →
    s.seq.state ∉ [.entryLowering, .exitLowering, .raising] →
    let r1 := if s.seq.state = .initSafe then { r with lastPosition := some pos }
      else reportOnRecord pos echo { r with lastPosition := some pos }
    let r2 := if s.seq.state ≠ .initSafe ∧ r1.state = .notProved ∧ r1.cause = some .silent
      then { r1 with cause := some .expired } else r1
    ∃ t, exec (.barrierReport a payload) s = .next t
      ∧ t.barrier.barriers = s.barrier.barriers.set b (some r2)
      ∧ t.barrier.modules = s.barrier.modules.modify (typeIndex s.eqTab .barrier m) (fun _ =>
          { supervision := .ok, silence := some (timePlus s.now (moduleOf s.eqTab m).silence) })
      ∧ t.barrier.presence = s.barrier.presence ∧ t.barrier.proved = t.crossingProof
      ∧ OnlyClasses barrierClasses s t
      ∧ Touches [.portA, .portB, .barrier, .fault, .queue .status, .queue .forward] (hearLink a.port s) t

/-- O35. Outside the phases that wait for barriers: the proving expiry leaves the barrier NOT_PROVED with cause
EXPIRED, and the class of the commanded position active (R122, R130); a barrier module's silence makes it SILENT,
and outside INIT_SAFE its barrier NOT_PROVED with cause SILENT (R124). -/
def Obligations.ProofLost : Prop :=
  (∀ (b : Fin 4) (s : State) (r : BarrierRecord), NotAwaiting s → s.barrierRecord b.val = some r →
     r.provingExpiry = some s.now → s.seq.state ∉ [.entryLowering, .exitLowering, .raising] →
     ∃ t, exec (.provingExpiry b) s = .next t
       ∧ t.barrier.barriers = s.barrier.barriers.set b.val
           (some { r with state := .notProved, proving := false, provingExpiry := none,
                          cause := some .expired })
       ∧ t.barrier.modules = s.barrier.modules ∧ t.barrier.presence = s.barrier.presence
       ∧ t.barrier.proved = t.crossingProof
       ∧ (recordNotThere r.commanded r = false →
           t.fault.isActive (if r.commanded = .lower then .barrierNotDown else .barrierNotUp) = true)
       ∧ OnlyClasses [.barrierNotDown, .barrierNotUp] s t
       ∧ Touches [.portA, .portB, .barrier, .fault, .queue .status] s t)
  ∧ (∀ (j : Fin 4) (s : State) (m : BarrierModule) (b : Nat) (r : BarrierRecord), NotAwaiting s →
       s.barrier.modules[j.val]? = some m → m.silence = some s.now →
       barrierOfModule s.eqTab j.val = some b → s.barrierRecord b = some r →
       s.seq.state ∉ [.entryLowering, .exitLowering, .raising] →
       ∃ t, exec (.barrierModuleSilenceExpiry j) s = .next t
         ∧ t.barrier.modules = s.barrier.modules.set j.val ⟨.silent, none⟩
         ∧ t.barrierRecord b = some (if s.seq.state = .initSafe then r else
             { r with state := .notProved, proving := false, provingExpiry := none,
                      cause := some .silent })
         ∧ (∀ x, x ≠ b → t.barrierRecord x = s.barrierRecord x)
         ∧ t.barrier.presence = s.barrier.presence ∧ t.barrier.proved = t.crossingProof
         ∧ t.fault.isActive .barrierModuleSilent = true
         ∧ OnlyClasses barrierClasses s t
         ∧ Touches [.portA, .portB, .barrier, .fault, .queue .status] s t)

/-- O36. Road presence (R124, R125). A PRESENCE_REPORT and a presence module's silence set the module. While exit
lowering goes on, a change of the zone's occupancy acts on the EXIT barriers (R127): clear, every held one is
released and lowered and CROSSING_OBSTRUCTED ends; occupied, every one whose lowering proof is under way is
taken back up and held. -/
def Obligations.Presence : Prop :=
  (∀ (a : Arrival) (payload : List Byte) (s : State) (m : Nat),
    Consumed .field s a → moduleOfTypeAt s.eqTab .presence a.src = some m →
    (payload = [1] ∨ payload = [2]) → ¬ (s.seq.state = .exitLowering ∧ s.seq.exitStarted = true) →
    ∃ t, exec (.presenceReport a payload) s = .next t
      ∧ t.barrier = { s.barrier with
          presence := s.barrier.presence.modify (typeIndex s.eqTab .presence m) (fun _ =>
            { supervision := .ok, silence := some (timePlus s.now (moduleOf s.eqTab m).silence),
              taken := if payload = [1] then .present else .absent })
          proved := s.crossingProof }
      ∧ OnlyClasses [.presenceModuleSilent] s t
      ∧ Touches [.portA, .portB, .barrier, .fault, .queue .status, .queue .forward] (hearLink a.port s) t)
  ∧ (∀ (j : Fin 2) (s : State) (m : PresenceModule), s.barrier.presence[j.val]? = some m →
    m.silence = some s.now → ¬ (s.seq.state = .exitLowering ∧ s.seq.exitStarted = true) →
    ∃ t, exec (.presenceModuleSilenceExpiry j) s = .next t
      ∧ t.barrier = { s.barrier with
          presence := s.barrier.presence.set j.val ⟨.silent, none, .present⟩
          proved := s.crossingProof }
      ∧ t.fault.isActive .presenceModuleSilent = true
      ∧ OnlyClasses [.presenceModuleSilent] s t
      ∧ Touches [.portA, .portB, .barrier, .fault, .queue .status] s t)
  ∧ ∀ (c : Instr) (s base : State) (now' : Bool),
    ((∃ a payload m, c = .presenceReport a payload ∧ base = hearLink a.port s ∧ Consumed .field s a
        ∧ moduleOfTypeAt s.eqTab .presence a.src = some m ∧ (payload = [1] ∨ payload = [2])
        ∧ now' = (s.barrier.presence.modify (typeIndex s.eqTab .presence m) (fun x =>
            { x with taken := if payload = [1] then .present else .absent })).any (fun x => x.taken = .present))
      ∨ ∃ j m, c = .presenceModuleSilenceExpiry j ∧ base = s ∧ s.barrier.presence[j.val]? = some m
        ∧ m.silence = some s.now ∧ now' = true) →
    s.seq.state = .exitLowering → s.seq.exitStarted = true →
    ∃ t, exec c s = .next t
      ∧ (now' = s.occupied → t.barrier.barriers = s.barrier.barriers)
      ∧ (s.occupied = true → now' = false →
          t.fault.isActive .crossingObstructed = false
          ∧ ∀ b < 4, t.barrierRecord b = (s.barrierRecord b).map fun r =>
            if barrierExitRole s.eqTab b ∧ r.held = true then
              { r with state := .unproved, commanded := .lower, proving := true, cause := none,
                       provingExpiry := some (timePlus s.now (tLowerMaxOf s.crTab)),
                       held := false, exitWait := none }
            else r)
      ∧ (s.occupied = false → now' = true →
          ∀ b < 4, t.barrierRecord b = (s.barrierRecord b).map fun r =>
            if barrierExitRole s.eqTab b ∧ r.proving = true ∧ r.commanded = .lower then
              { r with state := .unproved, commanded := .raise, proving := true, cause := none,
                       provingExpiry := some (timePlus s.now (tRaiseMaxOf s.crTab)),
                       held := true, exitWait := some (timePlus s.now (tExitWaitMaxOf s.crTab)) }
            else r)
      ∧ t.barrier.modules = s.barrier.modules ∧ t.barrier.proved = s.crossingProof
      ∧ OnlyClasses [.barrierNotDown, .barrierNotUp, .crossingObstructed, .presenceModuleSilent] s t
      ∧ Touches [.portA, .portB, .barrier, .cmd, .fault, .queue .command, .queue .status,
          .queue .forward] base t

/-- O37. The exit wait expiry of a held barrier (R128, R130): the expiry removed, CROSSING_OBSTRUCTED active,
the hold as it was. -/
def Obligations.ExitWaitExpiry : Prop :=
  ∀ (b : Fin 4) (s : State) (r : BarrierRecord), s.barrierRecord b.val = some r →
    r.exitWait = some s.now →
    ∃ t, exec (.exitWaitExpiry b) s = .next t
      ∧ t.barrier = { s.barrier with
          barriers := s.barrier.barriers.set b.val (some { r with exitWait := none })
          proved := s.crossingProof }
      ∧ t.fault.isActive .crossingObstructed = true
      ∧ (s.fault.isActive .crossingObstructed = false → s.fault.isLatched .crossingObstructed = false →
          Captured .crossingObstructed (BitVec.ofNat 8 b.val)
            ((if s.presenceTaken 0 then 1 else 0) + (if s.presenceTaken 1 then 2 else 0)) s t)
      ∧ OnlyClasses [.crossingObstructed] s t
      ∧ Touches [.portA, .portB, .barrier, .fault, .queue .status] s t

/-! ## Fault unit -/

/-- O38. A fault report acting on the flags and the history (R135, R138): what is set, cleared and captured by RAISED,
by NOTICE, by ENTERED and by ENDED, and that the groups follow the flags. -/
def Obligations.FaultReports : Prop :=
  ∀ (c : FaultClass) (subject : Byte) (detail : Word) (s : State),
    let raised := raiseFault c subject.toNat detail.toNat s
    let notice := raiseNotice subject.toNat detail.toNat s
    let entered := enterFault c subject.toNat detail.toNat s
    let ended := endFault c s
    let record : FaultRecord := ⟨s.fault.nextRecord, s.now, c, subject, detail⟩
    let captured := fun (f : FaultUnit) => f.nextRecord = s.fault.nextRecord + 1 ∧ f.history
      = (if s.fault.history.length < 32 then s.fault.history
         else s.fault.history.drop (s.fault.history.length - 31)) ++ [record]
    let kept := fun (f : FaultUnit) => f.nextRecord = s.fault.nextRecord ∧ f.history = s.fault.history
    let flags := fun (t : State) (active latched : BitVec 24) => t.fault.active = active
      ∧ t.fault.latched = latched ∧ t.fault.groups = groupsOf s.safetyActive s.crTab active latched
      ∧ t.fault.statusExpiry = s.fault.statusExpiry ∧ Touches [.fault] s t
    (s.fault.isLatched c = false →
        flags raised s.fault.active (s.fault.latched ||| c.bit) ∧ captured raised.fault)
      ∧ (s.fault.isLatched c = true → raised = s)
      ∧ (c = .notice → flags notice s.fault.active (s.fault.latched ||| c.bit) ∧ captured notice.fault)
      ∧ (s.fault.isActive c = false → s.fault.isLatched c = false →
        flags entered (s.fault.active ||| c.bit) (s.fault.latched ||| c.bit) ∧ captured entered.fault)
      ∧ (s.fault.isActive c = false → s.fault.isLatched c = true →
        flags entered (s.fault.active ||| c.bit) s.fault.latched ∧ kept entered.fault)
      ∧ (s.fault.isActive c = true → entered = s)
      ∧ (s.fault.isActive c = true →
        flags ended (s.fault.active &&& ~~~c.bit) s.fault.latched ∧ kept ended.fault)
      ∧ (s.fault.isActive c = false → ended = s)

/-- O39. The status period expiry is set again T_status later and a status telegram is on its way where a safety set
is active and the signaller port is UP (R145 to R147). Whatever the command, a change of the reported content
leaves a status telegram of the new content waiting or under way there (R145, R147); and so does a head passage
that replaces the earliest scheduled start of its approach, by whatever value (R63, R145); that a start which ties
with another record's for the earliest counts as the earliest there is the model's choice (log 18).
That telegram's source is the own address now: that one queued before an ACTIVATE_LOOP and refreshed at or after it
takes the new own address is the model's choice (log 27), against the wording of R168 and R152. -/
def Obligations.StatusTelegrams : Prop :=
  (∀ s : State, s.fault.statusExpiry = some s.now →
     ∃ t, exec .statusPeriodExpiry s = .next t
       ∧ t.fault = { s.fault with statusExpiry := some (timePlus s.now (tStatusOf s.crTab)) }
       ∧ (s.safetyActive = true → (s.port s.signallerPort).link = .up → StatusSent t)
       ∧ Touches [.portA, .portB, .fault, .queue .status, .statusPeriod] s t)
  ∧ (∀ (c : Instr) (s t : State), exec c s = .next t → (∀ strap, c ≠ .hardwareReset strap) →
       (∀ p tel, carried s.ownAddress c = some (p, tel) → (s.port p).link = .up) →
       t.safetyActive = true → (t.port t.signallerPort).link = .up → t.reported ≠ s.reported →
       StatusSent t)
  ∧ ∀ (a : Arrival) (payload : List Byte) (s : State) (d k i : Nat) (dir : Direction) (x : TrainRecord)
      (start : Time), WheelAt s a payload d dir →
      let ap := approachIndex (s.trackOf d) dir
      pathIndex s.detTab ap d = some (k + 1) → k + 1 < islandEntryIndex s.detTab ap →
      s.tracker.records[i]? = some x → x.approach = ap → passedAt x (k + 1) = 0 → 0 < passedAt x k →
      (∀ j < i, ∀ y, s.tracker.records[j]? = some y → y.approach = ap → passedAt y k ≤ passedAt y (k + 1)) →
      x.state = .approaching → x.merged = false → x.scheduledStart = some start →
      s.earliestStart ap = some start → s.safetyActive = true → (s.port s.signallerPort).link = .up →
      ∃ t, exec (.wheel a payload) s = .next t ∧ StatusSent t

/-- O40. An ACKNOWLEDGE of right length (R139, R140): each class named, latched and not active is cleared,
nothing else is; clearing NOTICE empties the stranger list; the reply says so. -/
def Obligations.Acknowledge : Prop :=
  ∀ (a : Arrival) (b0 b1 b2 : Byte) (s : State), Requested .acknowledge s a →
    let cleared := (b2 ++ b1 ++ b0 : BitVec 24) &&& s.fault.latched &&& ~~~s.fault.active
    ∃ t, exec (.acknowledge a [b0, b1, b2]) s = .next t
      ∧ t.fault.active = s.fault.active ∧ t.fault.latched = s.fault.latched &&& ~~~cleared
      ∧ t.fault.history = s.fault.history ∧ t.fault.nextRecord = s.fault.nextRecord
      ∧ t.fault.groups = groupsOf s.safetyActive s.crTab t.fault.active t.fault.latched
      ∧ t.window.strangers = (if cleared.getLsbD 23 then [] else s.window.strangers)
      ∧ t.window.loopTable = s.window.loopTable
      ∧ Replied a s.ownAddress 0x60
          ([0, 0] ++ classSetBytes cleared ++ classSetBytes t.fault.latched
            ++ classSetBytes t.fault.active) s t
      ∧ Touches [.portA, .portB, .window, .fault, .queue .status, .queue .reply, .queue .forward]
          (hearLink a.port s) t

/-! ## Requests -/

/-- O41. RESTORE (R22 to R25). Accepted, SWEEP leaves the section PREPARED at 0 and DIRECT leaves it CLEAR at 0 with
NOTICE latched, every other section as it was; refused for the first of its conditions, it changes no section. -/
def Obligations.Restore : Prop :=
  (∀ (a : Arrival) (trk n : Byte) (s : State), NotAwaiting s → Requested .restore s a →
     let set := fun (st : SectionState) (x : TrackSection) =>
       if x.track = trk.toNat ∧ x.number = n.toNat then { x with balance := 0, state := st } else x
     let keeps := fun t => Touches [.portA, .portB, .axle, .tracker, .seq, .lamp, .barrier, .cmd, .fault,
       .queue .command, .queue .status, .queue .reply, .queue .forward] (hearLink a.port s) t
     (s.sectionAt trk.toNat n.toNat).isSome →
     (checkRestore s trk.toNat n.toNat (some .sweep) = none →
       ∃ t, exec (.restoreSweep a [trk, n, 1]) s = .next t
         ∧ t.axle = { s.axle with sections := s.axle.sections.map (set .prepared) }
         ∧ Replied a s.ownAddress 0x61 [trk, n, 1, 0, 0, 3, 0, 0] s t
         ∧ OnlyClasses sequenceClasses s t ∧ keeps t)
     ∧ (checkRestore s trk.toNat n.toNat (some .direct) = none →
       ∃ t, exec (.restoreDirect a trk n) s = .next t
         ∧ t.axle = { s.axle with sections := s.axle.sections.map (set .clear) }
         ∧ t.fault.isLatched .notice = true
         ∧ Replied a s.ownAddress 0x61 [trk, n, 2, 0, 0, 0, 0, 0] s t
         ∧ OnlyClasses (.notice :: sequenceClasses) s t ∧ keeps t))
  ∧ (∀ (a : Arrival) (trk n mode : Byte) (s : State) (c : Instr) (reason : Reason),
       NotAwaiting s → Requested .restore s a →
       (c = .restoreSweep a [trk, n, mode] ∨ (mode = 2 ∧ c = .restoreDirect a trk n)) →
       checkRestore s trk.toNat n.toNat (restoreModeOfCode mode.toNat) = some reason →
       ∃ t, exec c s = .next t
         ∧ t.barrier = { s.barrier with proved := s.crossingProof }
         ∧ Touches [.portA, .portB, .barrier, .queue .status, .queue .reply, .queue .forward]
             (hearLink a.port s) t
         ∧ (reason = .noSection ↔ (s.safetyActive = false ∨ trackConfigured s.detTab trk.toNat = false
             ∨ sectionCount s.detTab trk.toNat ≤ n.toNat))
         ∧ (reason = .noSection → Replied a s.ownAddress 0x61 [trk, n, mode, 1, 25, 0xFF, 0xFF, 0xFF] s t))

/-- O42. HISTORY_READ and IDENTIFY are answered from what the part holds, and change nothing else (R143,
R177). -/
def Obligations.HistoryAndIdentity : Prop :=
  ∀ (a : Arrival) (s : State),
    let keeps := fun t => Touches [.portA, .portB, .queue .reply, .queue .forward] (hearLink a.port s) t
    (∀ start count : Byte, Requested .historyRead s a →
      ∃ t, exec (.historyRead a [start, count]) s = .next t ∧ keeps t
        ∧ (1 ≤ count.toNat → count.toNat ≤ 4 → Replied a s.ownAddress 0x64
            ([0, 0, start, BitVec.ofNat 8 s.fault.history.length] ++ bytes2 s.fault.nextRecord
              ++ ((s.fault.history.drop start.toNat).take count.toNat).flatMap recordBytes) s t)
        ∧ (count = 0 ∨ 4 < count.toNat → Replied a s.ownAddress 0x64
            ([1, 3, start, BitVec.ofNat 8 s.fault.history.length] ++ bytes2 s.fault.nextRecord) s t))
    ∧ (Requested .identify s a →
      ∃ t, exec (.identify a []) s = .next t ∧ keeps t
        ∧ Replied a s.ownAddress 0x65
            ([0, 0, 1] ++ bytes2 s.config.strapBase ++ bytes2 s.config.activeIdentity
              ++ bytes2 s.config.activeCrc ++ bytes2 (tableCrc (safetyWords s.stagedSafety))
              ++ [BitVec.ofNat 8 (activationCode s.config.activation)]
              ++ bytes2 ((s.config.pendingSet.map (·.1)).getD 0) ++ bytes2 (tableCrc s.loopTab)) s t)

/-- O43. RESTART KEEP with a safety set active (R178, R27, R50, R93, R96, R132, R153): every section DISTURBED
with its balance, no train record, CLOSED with the onset now, LOWER under proof at every barrier, the tables
and a pending activation kept. With none active it acts as DISCARD does, but keeps the activation record (R153,
R178); a RESTART of another mode is refused with BAD_MODE and changes nothing but the REPLY queue, and behind a COPY
window the other port's FORWARD queue (R178, R157, R158). -/
def Obligations.RestartKeep : Prop :=
  (∀ (a : Arrival) (s : State), Requested .restart s a → s.safetyActive = true →
    (∃ trk < 4, trackConfigured s.detTab trk = true) →
    ∃ t, exec (.restartKeep a [1]) s = .next t
      ∧ t.config = s.config ∧ t.window = s.window
      ∧ t.axle.sections = s.axle.sections.map (fun x => { x with state := .disturbed })
      ∧ (∀ d < 32, t.detectorRecord d = if detectorInUse s.detTab d then
          some ⟨.unknown, none, some (timePlus s.now (detectorOf s.detTab d).silence)⟩ else none)
      ∧ t.tracker = { s.tracker with records := [], overflow := List.replicate 8 false }
      ∧ t.seq = ⟨.closed, some s.now, none, none, none, false,
          some (timePlus s.now (tLongClosureOf s.crTab)), false⟩
      ∧ (∀ b < 4, t.barrierRecord b = if barrierInUse s.eqTab b then
          some ⟨.unproved, .lower, true, some (timePlus s.now (tLowerMaxOf s.crTab)), none, none, false,
            none⟩ else none)
      ∧ (∀ m ∈ t.barrier.presence, m.taken = .present)
      ∧ (∀ l < 16, t.lampRecord l = if lampInUse s.eqTab l then some ⟨.unproved, 0, 0, false, 0, 0⟩
          else none)
      ∧ t.fault.isLatched .notice = true ∧ s.fault.latched &&& ~~~t.fault.latched = 0
      ∧ (∀ c, c ∉ [FaultClass.notice, .roadLightsFailed] → t.fault.isLatched c = s.fault.isLatched c)
      ∧ (∀ c, c ∉ ownedClasses → t.fault.isActive c = s.fault.isActive c)
      ∧ t.fault.statusExpiry = some (timePlus s.now (tStatusOf s.crTab))
      ∧ Replied a s.ownAddress 0x63
          ([1, 0, 0] ++ bytes2 s.config.activeIdentity
            ++ [BitVec.ofNat 8 (activationCode s.config.activation)]) s t
      ∧ Touches [.portA, .portB, .axle, .tracker, .seq, .lamp, .barrier, .cmd, .fault, .queue .command,
          .queue .status, .queue .reply, .queue .forward, .statusPeriod] (hearLink a.port s) t)
  ∧ (∀ (a : Arrival) (s : State), Requested .restart s a → s.safetyActive = false →
    ∃ t, exec (.restartKeep a [1]) s = .next t
      ∧ t.config = { s.config with tables := safetyEmpty, activeIdentity := 0, activeCrc := 0 }
      ∧ t.window = s.window ∧ t.axle = axleEmpty
      ∧ t.tracker = { s.tracker with records := [], overflow := List.replicate 8 false }
      ∧ t.seq = seqInitSafe ∧ t.lamp = lampEmpty ∧ t.barrier = barrierEmpty ∧ t.cmd = commandsEmpty
      ∧ t.fault.latched = s.fault.latched ||| FaultClass.notice.bit
      ∧ t.fault.groups = 0 ∧ t.fault.statusExpiry = none
      ∧ (∀ c, t.fault.isActive c = (s.fault.isActive c && !ownedClasses.contains c))
      ∧ t.fault.history = (if s.fault.history.length < 32 then s.fault.history
          else s.fault.history.drop (s.fault.history.length - 31))
          ++ [⟨s.fault.nextRecord, s.now, .notice, 33, 0⟩]
      ∧ Replied a s.ownAddress 0x63
          [1, 0, 0, 0, 0, BitVec.ofNat 8 (activationCode s.config.activation)] s t
      ∧ Touches [.portA, .portB, .axle, .tracker, .seq, .lamp, .barrier, .cmd, .fault, .config,
          .queue .command, .queue .status, .queue .reply, .queue .forward, .statusPeriod] (hearLink a.port s) t)
  ∧ ∀ (a : Arrival) (mode : Byte) (s : State), Requested .restart s a → mode ≠ 1 → mode ≠ 2 → ProofSound s →
    ∃ t, exec (.restartKeep a [mode]) s = .next t
      ∧ Replied a s.ownAddress 0x63
          ([mode, 1, 26] ++ bytes2 s.config.activeIdentity
            ++ [BitVec.ofNat 8 (activationCode s.config.activation)]) s t
      ∧ Touches [.portA, .portB, .queue .reply, .queue .forward] (hearLink a.port s) t

/-- O44. RESTART DISCARD (R178, R26, R50, R96, R115, R131, R153, R169): no safety set, INIT_SAFE, nothing of the
crossing held; latched flags, history, next tag and the loop set kept, but for the NOTICE of the restart. -/
def Obligations.RestartDiscard : Prop :=
  ∀ (a : Arrival) (s : State), Requested .restart s a →
    ∃ t, exec (.restartDiscard a) s = .next t
      ∧ t.config = { s.config with tables := safetyEmpty, activeIdentity := 0, activeCrc := 0,
                                   activation := .idle, pendingSet := none }
      ∧ t.window = s.window ∧ t.axle = axleEmpty
      ∧ t.tracker = { s.tracker with records := [], overflow := List.replicate 8 false }
      ∧ t.seq = seqInitSafe ∧ t.lamp = lampEmpty ∧ t.barrier = barrierEmpty ∧ t.cmd = commandsEmpty
      ∧ t.fault.latched = s.fault.latched ||| FaultClass.notice.bit
      ∧ t.fault.groups = 0 ∧ t.fault.statusExpiry = none
      ∧ (∀ c ∈ ownedClasses, t.fault.isActive c = false)
      ∧ (∀ c, c ∉ ownedClasses → t.fault.isActive c = s.fault.isActive c)
      ∧ Captured .notice 33 1 s t
      ∧ t.fault.history = (if s.fault.history.length < 32 then s.fault.history
          else s.fault.history.drop (s.fault.history.length - 31))
          ++ [⟨s.fault.nextRecord, s.now, .notice, 33, 1⟩]
      ∧ (∀ p, (t.port p).command = [] ∧ ((s.port p).transmitter.isSome →
          (t.port p).status = (s.port p).status.filter fun e => !entryIsStatus e))
      ∧ Replied a s.ownAddress 0x63 [2, 0, 0, 0, 0, 0] s t
      ∧ Touches [.portA, .portB, .axle, .tracker, .seq, .lamp, .barrier, .cmd, .fault, .config,
          .queue .command, .queue .status, .queue .reply, .queue .forward, .statusPeriod] (hearLink a.port s) t

/-- O45. A request with no room for its reply is discarded unexecuted; one of wrong length is answered with
BAD_LENGTH and changes nothing else (R161, R185). -/
def Obligations.RequestNotTaken : Prop :=
  ∀ (c : Instr) (k : RequestKind) (a : Arrival) (payload : List Byte) (s : State) (w : Window) (r : Role),
    carried s.ownAddress c = some (a.port, ⟨a.dst, a.src, k.code, payload⟩) → payload.length ≤ 48 →
    (s.port a.port).link = .up → a.src ≠ s.ownAddress →
    decidingWindow s.loopTab a.dst = some w → w.action = some .consume → w.role = some r →
    requestAllowed r k = true →
    (4 ≤ (s.port a.port).reply.length → exec c s = .next (hearLink a.port s))
    ∧ ((s.port a.port).reply.length < 4 →
        payload.length ∉ (match k with
          | .acknowledge | .restore => [3]
          | .confirm | .historyRead | .activateLoop => [2]
          | .restart => [1]
          | .identify => [0]
          | .stageRead | .activate => [4]
          | .stageWrite => (List.range 23).map fun i => 3 + 2 * i) →
        NotAwaiting s → ProofSound s →
        ∃ t, exec c s = .next t
          ∧ Touches [.portA, .portB, .queue .reply] (hearLink a.port s) t
          ∧ ∃ lead size, Replied a s.ownAddress (k.code + 0x20)
              (List.replicate lead 0 ++ [1, 1] ++ List.replicate (size - lead - 2) 0) s t
            ∧ (lead, size) = match k with
              | .acknowledge => (0, 11) | .restore => (3, 8) | .confirm => (2, 5) | .restart => (1, 6)
              | .historyRead => (0, 6) | .identify => (0, 16) | .stageWrite => (4, 11)
              | .stageRead => (3, 7) | .activate => (2, 5) | .activateLoop => (0, 5))

/-- O46. STAGE_WRITE (R171) and STAGE_READ (R172). Of a table: accepted, words are placed and the write index moves
past them, or the words asked for are in the reply and the read index moves past them; refused, neither; a pending
activation is cancelled by a write that names a safety table. Of no table: refused with BAD_TABLE; what its reply
carries of a table is then open (log 10). -/
def Obligations.StagedTables : Prop :=
  (∀ (a : Arrival) (payload : List Byte) (s : State) (i : TableId), Requested .stageWrite s a →
     payload.length ≤ 48 → 3 ≤ payload.length → payload.length % 2 = 1 →
     tableOfCode (byteAt payload 0).toNat = some i → StagedSound s →
     let start := if wordAt payload 1 = 0xFFFF then (s.stagedTable i).writeIndex
       else (wordAt payload 1).toNat
     let n := (payload.length - 3) / 2
     let accepted := 1 ≤ n ∧ n ≤ 20 ∧ start + n ≤ tableSize i
     let cancels := i ≠ .loop ∧ s.config.activation ≠ .idle
     ∃ t, exec (.stageWrite a payload) s = .next t
       ∧ (accepted → (t.stagedTable i).writeIndex = start + n
           ∧ (t.stagedTable i).readIndex = (s.stagedTable i).readIndex
           ∧ (∀ j, (t.stagedTable i).words.getD j 0
               = if start ≤ j ∧ j < start + n then wordAt payload (3 + 2 * (j - start))
                 else (s.stagedTable i).words.getD j 0)
           ∧ (t.stagedTable i).words.length = tableSize i)
       ∧ (¬ accepted → t.stagedTable i = s.stagedTable i)
       ∧ (∀ j, j ≠ i → t.stagedTable j = s.stagedTable j)
       ∧ t.config.activation = (if cancels then .idle else s.config.activation)
       ∧ t.config.pendingSet = (if cancels then none else s.config.pendingSet)
       ∧ t.config.tables = s.config.tables ∧ t.config.activeIdentity = s.config.activeIdentity
       ∧ t.config.activeCrc = s.config.activeCrc ∧ t.config.strapBase = s.config.strapBase
       ∧ Replied a s.ownAddress 0x66
           ([byteAt payload 0] ++ bytes2 (BitVec.ofNat 16 start) ++ [BitVec.ofNat 8 n]
             ++ (if accepted then [0, 0] else if n = 0 ∨ 20 < n then [1, 3] else [1, 4])
             ++ bytes2 (BitVec.ofNat 16 (t.stagedTable i).writeIndex)
             ++ bytes2 (tableCrc (t.stagedTable i).words) ++ [if cancels then 1 else 0]) s t
       ∧ Touches [.portA, .portB, .config, .queue .status, .queue .reply, .queue .forward]
           (hearLink a.port s) t)
  ∧ (∀ (a : Arrival) (payload : List Byte) (s : State) (i : TableId), Requested .stageRead s a →
       payload.length = 4 → tableOfCode (byteAt payload 0).toNat = some i →
       let start := if wordAt payload 1 = 0xFFFF then (s.stagedTable i).readIndex
         else (wordAt payload 1).toNat
       let n := (byteAt payload 3).toNat
       let accepted := 1 ≤ n ∧ n ≤ 20 ∧ start + n ≤ tableSize i
       ∃ t, exec (.stageRead a payload) s = .next t
         ∧ t.stagedTable i = (if accepted then { s.stagedTable i with readIndex := start + n }
             else s.stagedTable i)
         ∧ (∀ j, j ≠ i → t.stagedTable j = s.stagedTable j)
         ∧ t.config = { s.config with staged := t.config.staged }
         ∧ Replied a s.ownAddress 0x67
             ([byteAt payload 0] ++ bytes2 (BitVec.ofNat 16 start)
               ++ (if accepted then [0, 0] else if n = 0 ∨ 20 < n then [1, 3] else [1, 4])
               ++ bytes2 (BitVec.ofNat 16 (t.stagedTable i).readIndex)
               ++ (if accepted then (((s.stagedTable i).words.drop start).take n).flatMap bytes2
                   else [])) s t
         ∧ Touches [.portA, .portB, .config, .queue .reply, .queue .forward] (hearLink a.port s) t)
  ∧ (∀ (a : Arrival) (payload : List Byte) (s : State), tableOfCode (byteAt payload 0).toNat = none →
       (Requested .stageWrite s a → payload.length ≤ 48 → 3 ≤ payload.length → payload.length % 2 = 1 →
         ∃ t start index crc, exec (.stageWrite a payload) s = .next t
           ∧ (wordAt payload 1 ≠ 0xFFFF → start = wordAt payload 1)
           ∧ Replied a s.ownAddress 0x66
               ([byteAt payload 0] ++ bytes2 start ++ [BitVec.ofNat 8 ((payload.length - 3) / 2)] ++ [1, 2]
                 ++ bytes2 index ++ bytes2 crc ++ [0]) s t
           ∧ Touches [.portA, .portB, .freeCounter, .queue .reply, .queue .forward] (hearLink a.port s) t)
       ∧ (Requested .stageRead s a → payload.length = 4 →
         ∃ t start index, exec (.stageRead a payload) s = .next t
           ∧ (wordAt payload 1 ≠ 0xFFFF → start = wordAt payload 1)
           ∧ Replied a s.ownAddress 0x67
               ([byteAt payload 0] ++ bytes2 start ++ [1, 2] ++ bytes2 index) s t
           ∧ Touches [.portA, .portB, .freeCounter, .queue .reply, .queue .forward] (hearLink a.port s) t))

/-- O47. ACTIVATE (R174, R175): accepted, its identity and CRC are pending and the state is AWAIT_CONFIRM;
refused, whatever was pending is cancelled; nothing active changes. -/
def Obligations.Activate : Prop :=
  ∀ (a : Arrival) (payload : List Byte) (s : State), Requested .activate s a → payload.length = 4 →
    let reason := checkActivate (wordAt payload 0) (wordAt payload 2) s.ownAddress s.stagedSafety
    ∃ t, exec (.activate a payload) s = .next t
      ∧ (reason = none → t.config = { s.config with
            activation := .awaitConfirm, pendingSet := some (wordAt payload 0, wordAt payload 2) }
          ∧ Replied a s.ownAddress 0x68 (bytes2 (wordAt payload 0) ++ [0, 0, 1]) s t)
      ∧ (∀ x, reason = some x →
          t.config = { s.config with activation := .idle, pendingSet := none }
          ∧ Replied a s.ownAddress 0x68
              (bytes2 (wordAt payload 0) ++ [1, BitVec.ofNat 8 x.code, 0]) s t)
      ∧ (wordAt payload 0 = 0 → reason = some .badIdentity)
      ∧ (wordAt payload 0 ≠ 0 → wordAt payload 2 ≠ tableCrc (safetyWords s.stagedSafety) →
          reason = some .crcMismatch)
      ∧ Touches [.portA, .portB, .config, .queue .status, .queue .reply, .queue .forward]
          (hearLink a.port s) t

/-- O48. ACTIVATE_LOOP (R173): accepted, the staged loop table is the active one at once and a pending activation
is cancelled; refused, nothing changes. The reply carries the own address of the table then active. An all-zero table is refused with NO_CONFIG_WINDOW
(R179; the model's choice against the order of R173, log 24). -/
def Obligations.ActivateLoop : Prop :=
  ∀ (a : Arrival) (payload : List Byte) (s : State), Requested .activateLoop s a → payload.length = 2 →
    let staged := s.config.staged.loop.words
    let reason := checkLoop (wordAt payload 0) staged s.config.tables
    ∃ t, exec (.activateLoop a payload) s = .next t
      ∧ (reason = none →
          t.window = { s.window with loopTable := staged }
          ∧ t.config = { s.config with activation := .idle, pendingSet := none }
          ∧ Replied a (ownAddressOf staged) 0x69 ([0, 0] ++ bytes2 (tableCrc staged)
              ++ [if s.config.activation = .idle then 0 else 1]) s t)
      ∧ (∀ x, reason = some x → t.window = s.window ∧ t.config = s.config
          ∧ Replied a s.ownAddress 0x69
              ([1, BitVec.ofNat 8 x.code] ++ bytes2 (tableCrc s.loopTab) ++ [0]) s t)
      ∧ (wordAt payload 0 ≠ tableCrc staged → reason = some .crcMismatch)
      ∧ (wordAt payload 0 = tableCrc staged → (∀ w ∈ staged, w = 0) → reason = some .noConfigWindow)
      ∧ Touches [.portA, .portB, .window, .config, .queue .status, .queue .reply, .queue .forward]
          (hearLink a.port s) t

/-- O49. CONFIRM (R175, R176): refused with nothing pending or with another identity, changing nothing; accepted,
AWAIT_QUIESCENT, or the pending set active at once where the part is quiescent. -/
def Obligations.Confirm : Prop :=
  ∀ (a : Arrival) (hi lo : Byte) (s : State), Requested .confirm s a → ProofSound s →
    let identity := hi ++ lo
    let keeps := fun t => Touches [.portA, .portB, .queue .reply, .queue .forward] (hearLink a.port s) t
    (s.config.activation = .idle ∨ s.config.pendingSet = none →
      ∃ t, exec (.confirm a [hi, lo]) s = .next t ∧ keeps t
        ∧ (s.config.activation = .idle →
          Replied a s.ownAddress 0x62 [hi, lo, 1, 23, 0] s t))
    ∧ (∀ pid crc, s.config.activation ≠ .idle → s.config.pendingSet = some (pid, crc) →
      (identity ≠ pid → ∃ t, exec (.confirm a [hi, lo]) s = .next t ∧ keeps t
        ∧ Replied a s.ownAddress 0x62
            [hi, lo, 1, 24, BitVec.ofNat 8 (activationCode s.config.activation)] s t)
      ∧ (identity = pid → s.quiescent = false → ∃ t, exec (.confirm a [hi, lo]) s = .next t
        ∧ t.config = { s.config with activation := .awaitQuiescent }
        ∧ Replied a s.ownAddress 0x62 [hi, lo, 0, 0, 2] s t
        ∧ Touches [.portA, .portB, .config, .queue .status, .queue .reply, .queue .forward]
            (hearLink a.port s) t)
      ∧ (identity = pid → s.quiescent = true → ∃ t, exec (.confirm a [hi, lo]) s = .next t
        ∧ t.config = { s.config with tables := s.stagedSafety, activeIdentity := pid, activeCrc := crc,
                                     activation := .idle, pendingSet := none }
        ∧ Replied a s.ownAddress 0x62 [hi, lo, 0, 0, 0] s t
        ∧ Touches [.portA, .portB, .axle, .tracker, .seq, .lamp, .barrier, .cmd, .fault, .config,
            .queue .command, .queue .status, .queue .reply, .queue .forward, .statusPeriod]
            (hearLink a.port s) t))

/-- O50. A pending set takes effect at the first moment the part is quiescent (R176, R27, R50, R95, R132, R152):
the tables copied, every section at 0, no record, the next tag and the latched flags kept; from INIT_SAFE
the road is CLOSED, from OPEN it goes to AMBER. With no activation waiting, or the part not quiescent, nothing
changes. -/
def Obligations.ActivationTakesEffect : Prop :=
  (∀ (s : State) (pid crc : Word), s.config.activation = .awaitQuiescent →
    s.config.pendingSet = some (pid, crc) → s.quiescent = true → ActivationSound s →
    ∃ t, exec .activationTakesEffect s = .next t
      ∧ t.config = { s.config with tables := s.stagedSafety, activeIdentity := pid, activeCrc := crc,
                                   activation := .idle, pendingSet := none }
      ∧ t.axle.sections = (allSections t.detTab).map (fun x =>
          ⟨x.1, x.2, 0, if s.seq.state = .initSafe then .disturbed else .clear⟩)
      ∧ (∀ d < 32, t.detectorRecord d = if detectorInUse t.detTab d then
          some ⟨.unknown, none, some (timePlus s.now (detectorOf t.detTab d).silence)⟩ else none)
      ∧ t.tracker = { s.tracker with records := [], overflow := List.replicate 8 false }
      ∧ (s.seq.state = .initSafe → t.seq = ⟨.closed, some s.now, none, none, none, false,
          some (timePlus s.now (tLongClosureOf t.crTab)), false⟩)
      ∧ (s.seq.state = .opened → t.seq = ⟨.amber, some s.now,
          some (timePlus s.now (tAmberOf t.crTab)), none, none, false,
          some (timePlus s.now (tLongClosureOf t.crTab)), false⟩)
      ∧ (∀ b < 4, barrierInUse t.eqTab b = true → (t.barrierRecord b).map (·.commanded)
          = some (if s.seq.state = .initSafe then .lower else .raise))
      ∧ t.barrier.proved = false
      ∧ t.fault.isLatched .notice = true ∧ s.fault.latched &&& ~~~t.fault.latched = 0
      ∧ (∀ c, c ∉ [FaultClass.notice, .roadLightsFailed] → t.fault.isLatched c = s.fault.isLatched c)
      ∧ (∀ c, c ∉ ownedClasses → t.fault.isActive c = s.fault.isActive c)
      ∧ t.fault.statusExpiry = some (timePlus s.now (tStatusOf t.crTab))
      ∧ Touches [.portA, .portB, .axle, .tracker, .seq, .lamp, .barrier, .cmd, .fault, .config,
          .queue .command, .queue .status, .statusPeriod] s t)
  ∧ ∀ s : State, NotAwaiting s ∨ s.quiescent = false → ProofSound s →
      exec .activationTakesEffect s = .next s

/-! ## Ports and command block -/

/-- O51. A port's silence expiry: DOWN, no silence timer, every queue empty, its transmission going on;
PORT_DOWN active (R155, R168). -/
def Obligations.PortSilence : Prop :=
  ∀ (p : Port) (s : State), (s.port p).silence = some s.now →
    ∃ t, exec (.portSilenceExpiry p) s = .next t
      ∧ t.port p = { s.port p with link := .down, silence := none, command := [], status := [],
                                   reply := [], forward := [] }
      ∧ t.fault.isActive .portDown = true
      ∧ (s.fault.isActive .portDown = false → t.fault.isLatched .portDown = true)
      ∧ (s.fault.isActive .portDown = false → s.fault.isLatched .portDown = false →
          Captured .portDown (if p = .a then 0 else 1) (s.port p).silenceWith s t)
      ∧ OnlyClasses [.portDown] s t
      ∧ Touches [.portA, .portB, .fault, .links, .queue .command, .queue .status,
          .queue .reply, .queue .forward] s t
      ∧ SameLink (s.port p.other) (t.port p.other)
      ∧ ∀ c, c ≠ .status → SameQueue c (s.port p.other) (t.port p.other)

/-- O52. The idle expiry sends FILL where the transmitter is free (R156); a completed transmission sets the idle
expiry floor(T_silence / 4) later and hands the transmitter the head the arbiter chooses (R156, R163). -/
def Obligations.Transmitter : Prop :=
  ∀ (p : Port) (s : State),
    ((s.port p).idle = some s.now → ∃ t, exec (.idleExpiry p) s = .next t
      ∧ t = s.setPort p { s.port p with
          idle := none
          transmitter := match (s.port p).transmitter with
            | some x => some x
            | none => some ⟨0, s.ownAddress, 0, []⟩ })
    ∧ ((s.port p).transmitter.isSome →
      let after := { s.port p with
        transmitter := none, idle := some (timePlus s.now ((tSilenceOf s.loopTab).toNat / 4)) }
      ∃ t, exec (.transmissionComplete p) s = .next t
        ∧ ((∀ c, (s.port p).queue c = []) → t = s.setPort p after)
        ∧ (∀ c e rest, (s.port p).queue c = e :: rest →
            (∀ d x l, (s.port p).queue d = x :: l →
              effectivePriority s.loopTab s.now c e < effectivePriority s.loopTab s.now d x
                ∨ (effectivePriority s.loopTab s.now c e = effectivePriority s.loopTab s.now d x
                  ∧ arbiterOrder.idxOf c ≤ arbiterOrder.idxOf d)) →
            t = s.setPort p { after.setQueue c rest with transmitter := some e.tel }))

/-- O53. The refresh expiry (R165, R167): a complete block is followed by a new one of every slot in slot order,
skipping slots on a DOWN port; telegrams that still wait are removed first, with COMMAND_OVERRUN; the refresh
expiry is set T_refresh later. -/
def Obligations.Refresh : Prop :=
  ∀ s : State, s.cmd.refresh = some s.now →
    ∃ t, exec .refreshExpiry s = .next t
      ∧ t.cmd = { s.cmd with refresh := some (timePlus s.now (tRefreshOf s.crTab)) }
      ∧ (∀ p, (s.port p).link = .up → (s.port p).transmitter.isSome →
          (t.port p).command = blockEntries s p ∧ (t.port p).transmitter = (s.port p).transmitter)
      ∧ (∀ p, (s.port p).link = .up → (s.port p).transmitter = none → (∀ c, (s.port p).queue c = []) →
          ∀ e rest, blockEntries s p = e :: rest →
            (t.port p).command = rest ∧ (t.port p).transmitter = some e.tel)
      ∧ (∀ p, (s.port p).link = .down → (t.port p).command = [])
      ∧ (s.portA.command = [] → s.portB.command = [] → t.fault = s.fault)
      ∧ (s.portA.command ≠ [] ∨ s.portB.command ≠ [] →
          t.fault.isLatched .commandOverrun = true ∧ t.fault.active = s.fault.active)
      ∧ Touches [.portA, .portB, .cmd, .fault, .queue .command, .queue .status] s t

/-! ## Whole-machine rules and invariants -/

/-- O54. Latched flags are only ever cleared by an ACKNOWLEDGE (or a hardware reset), and the active safety set
only ever changes to the pending one in AWAIT_QUIESCENT or to none by a RESTART (R135, R139, R152, R153,
R176, R178). -/
def Obligations.WhatOnlySomeCommandsChange : Prop :=
  ∀ (c : Instr) (s t : State), exec c s = .next t → (∀ strap, c ≠ .hardwareReset strap) →
    (∀ x : FaultClass, s.fault.isLatched x = true → t.fault.isLatched x = false →
      t.fault.isActive x = false
        ∧ ∃ p tel, carried s.ownAddress c = some (p, tel) ∧ tel.kind = 0x40)
    ∧ (t.config.tables ≠ s.config.tables →
      (∃ pid crc, s.config.pendingSet = some (pid, crc) ∧ t.config.activeIdentity = pid
          ∧ t.config.activeCrc = crc ∧ t.config.tables = s.stagedSafety)
        ∨ (t.config.activeIdentity = 0 ∧ ∃ p tel, carried s.ownAddress c = some (p, tel)
            ∧ tel.kind = 0x43))
    ∧ t.pending = s.pending ∧ t.timebase = s.timebase

/-- O55. Every step keeps the sections of R6: balances within 0 .. 1023, CLEAR only at 0, OCCUPIED only above 0. -/
def Obligations.SectionsKept : Prop :=
  ∀ s t : State, SectionsSound s → step s = .next t → SectionsSound t

/-- O56. Every step keeps the fault unit sound: the history within 32 records numbered one after another up to the
next number (R141, R142), no event class active, no class active unless latched, the groups as flags and map
give them (R135, R137); and every condition class active exactly while its condition holds (R13, R92, R103, R106,
R108, R113, R124, R128, R130, R155), the barrier classes with barrier records that are sound. -/
def Obligations.FaultUnitKept : Prop :=
  (∀ s t : State, HistorySound s → step s = .next t → HistorySound t)
    ∧ (∀ s t : State, FlagsSound s → step s = .next t → FlagsSound t)
    ∧ (∀ s t : State, TrackFaultsSound s → step s = .next t → TrackFaultsSound t)
    ∧ (∀ s t : State, LampFaultsSound s → step s = .next t → LampFaultsSound t)
    ∧ ∀ s t : State, BarrierFaultsSound s → BarriersSound s → step s = .next t → BarrierFaultsSound t

/-- O57. Every step keeps the sequencer's record as R72 has it, with INIT_SAFE exactly while no safety set is active
(a pending identity is never 0); never leaves the road open or opening with demand (R75); leaves CROSSING_PROVED
asserted exactly while its conditions hold (R129); keeps every barrier's record sound and commanded as the
sequencer's state says (R76, R118, R126, R127); and keeps lamp runs and red report counts in range (R106, R112). -/
def Obligations.SequenceKept : Prop :=
  (∀ s t : State, (∀ x, s.config.pendingSet = some x → x.1 ≠ 0) →
      SequencerSound s → step s = .next t → SequencerSound t)
    ∧ (∀ s t : State, DemandSound s → step s = .next t → DemandSound t)
    ∧ (∀ s t : State, ProofSound s → step s = .next t → ProofSound t)
    ∧ (∀ s t : State, BarriersSound s → SequencerSound s → GeometrySound s → step s = .next t →
        BarriersSound t)
    ∧ ∀ s t : State, LampsSound s → step s = .next t → LampsSound t

/-- O58. Every step keeps the pool within its limits with passed counts that never rise along the path and tags
unique and never 0 (R28 to R30, R43), and every record with the fields of its state, none APPROACHING on an
unsupervised approach (R29, R47); and it keeps the records of sections, detectors, lamps, barriers, modules and
trains those that the active tables give (R3, R10, R98, R116, R124). -/
def Obligations.TrackerKept : Prop :=
  (∀ s t : State, PoolSound s → TagsSound s → step s = .next t → PoolSound t ∧ TagsSound t)
    ∧ (∀ s t : State, RecordsSound s → step s = .next t → RecordsSound t)
    ∧ ∀ s t : State, GeometrySound s → TablesSound s → step s = .next t → GeometrySound t

/-- O59. Every step keeps the tables sound: sizes and indices of the staged tables, a pending set that passes every
check of R174, active tables that pass every check of R173 and R174; and it never leaves an activation waiting in a
quiescent part (R176). -/
def Obligations.ConfigKept : Prop :=
  (∀ s t : State, StagedSound s → ActivationSound s → TablesSound s → step s = .next t →
    StagedSound t ∧ ActivationSound t ∧ TablesSound t)
  ∧ ∀ s t : State, ActivationPrompt s → ActivationSound s → TablesSound s → SequencerSound s →
      step s = .next t → ActivationPrompt t

/-- O60. Every step keeps the command slots holding what their modules are commanded to (R76, R101, R119, R164), and
the ports sound: a DOWN port silent and empty, queues within their capacities, nothing waiting beside a free
transmitter (R155, R156, R162); with tables that pass their checks. It keeps the stranger list within 16 sources,
none twice (R160). -/
def Obligations.PortsKept : Prop :=
  (∀ s t : State, StagedSound s → ActivationSound s → TablesSound s → SlotsSound s → PortsSound s →
    step s = .next t → SlotsSound t ∧ PortsSound t)
  ∧ ∀ s t : State, StrangersSound s → step s = .next t → StrangersSound t
end

