-- ==== Sys2Proof/Laws/State.lean ====
section
/-! SUPPORT. One lemma per field per update of State, true by rfl, so that no proof unfolds a record update. -/

namespace Sys2Proof.Machine

@[simp] theorem State.setTimebase_timebase (x : Time) (s : State) : (s.setTimebase x).timebase = x := rfl
@[simp] theorem State.setTimebase_portA (x : Time) (s : State) : (s.setTimebase x).portA = s.portA := rfl
@[simp] theorem State.setTimebase_portB (x : Time) (s : State) : (s.setTimebase x).portB = s.portB := rfl
@[simp] theorem State.setTimebase_window (x : Time) (s : State) : (s.setTimebase x).window = s.window := rfl
@[simp] theorem State.setTimebase_axle (x : Time) (s : State) : (s.setTimebase x).axle = s.axle := rfl
@[simp] theorem State.setTimebase_tracker (x : Time) (s : State) : (s.setTimebase x).tracker = s.tracker := rfl
@[simp] theorem State.setTimebase_seq (x : Time) (s : State) : (s.setTimebase x).seq = s.seq := rfl
@[simp] theorem State.setTimebase_lamp (x : Time) (s : State) : (s.setTimebase x).lamp = s.lamp := rfl
@[simp] theorem State.setTimebase_barrier (x : Time) (s : State) : (s.setTimebase x).barrier = s.barrier := rfl
@[simp] theorem State.setTimebase_cmd (x : Time) (s : State) : (s.setTimebase x).cmd = s.cmd := rfl
@[simp] theorem State.setTimebase_fault (x : Time) (s : State) : (s.setTimebase x).fault = s.fault := rfl
@[simp] theorem State.setTimebase_config (x : Time) (s : State) : (s.setTimebase x).config = s.config := rfl
@[simp] theorem State.setTimebase_freeCounter (x : Time) (s : State) : (s.setTimebase x).freeCounter = s.freeCounter := rfl
@[simp] theorem State.setTimebase_pending (x : Time) (s : State) : (s.setTimebase x).pending = s.pending := rfl
@[simp] theorem State.setTimebase_port (x : Time) (s : State) (p : Port) : (s.setTimebase x).port p = s.port p := by cases p <;> rfl

@[simp] theorem State.setPortA_timebase (x : PortState) (s : State) : (s.setPortA x).timebase = s.timebase := rfl
@[simp] theorem State.setPortA_portA (x : PortState) (s : State) : (s.setPortA x).portA = x := rfl
@[simp] theorem State.setPortA_portB (x : PortState) (s : State) : (s.setPortA x).portB = s.portB := rfl
@[simp] theorem State.setPortA_window (x : PortState) (s : State) : (s.setPortA x).window = s.window := rfl
@[simp] theorem State.setPortA_axle (x : PortState) (s : State) : (s.setPortA x).axle = s.axle := rfl
@[simp] theorem State.setPortA_tracker (x : PortState) (s : State) : (s.setPortA x).tracker = s.tracker := rfl
@[simp] theorem State.setPortA_seq (x : PortState) (s : State) : (s.setPortA x).seq = s.seq := rfl
@[simp] theorem State.setPortA_lamp (x : PortState) (s : State) : (s.setPortA x).lamp = s.lamp := rfl
@[simp] theorem State.setPortA_barrier (x : PortState) (s : State) : (s.setPortA x).barrier = s.barrier := rfl
@[simp] theorem State.setPortA_cmd (x : PortState) (s : State) : (s.setPortA x).cmd = s.cmd := rfl
@[simp] theorem State.setPortA_fault (x : PortState) (s : State) : (s.setPortA x).fault = s.fault := rfl
@[simp] theorem State.setPortA_config (x : PortState) (s : State) : (s.setPortA x).config = s.config := rfl
@[simp] theorem State.setPortA_freeCounter (x : PortState) (s : State) : (s.setPortA x).freeCounter = s.freeCounter := rfl
@[simp] theorem State.setPortA_pending (x : PortState) (s : State) : (s.setPortA x).pending = s.pending := rfl

@[simp] theorem State.setPortB_timebase (x : PortState) (s : State) : (s.setPortB x).timebase = s.timebase := rfl
@[simp] theorem State.setPortB_portA (x : PortState) (s : State) : (s.setPortB x).portA = s.portA := rfl
@[simp] theorem State.setPortB_portB (x : PortState) (s : State) : (s.setPortB x).portB = x := rfl
@[simp] theorem State.setPortB_window (x : PortState) (s : State) : (s.setPortB x).window = s.window := rfl
@[simp] theorem State.setPortB_axle (x : PortState) (s : State) : (s.setPortB x).axle = s.axle := rfl
@[simp] theorem State.setPortB_tracker (x : PortState) (s : State) : (s.setPortB x).tracker = s.tracker := rfl
@[simp] theorem State.setPortB_seq (x : PortState) (s : State) : (s.setPortB x).seq = s.seq := rfl
@[simp] theorem State.setPortB_lamp (x : PortState) (s : State) : (s.setPortB x).lamp = s.lamp := rfl
@[simp] theorem State.setPortB_barrier (x : PortState) (s : State) : (s.setPortB x).barrier = s.barrier := rfl
@[simp] theorem State.setPortB_cmd (x : PortState) (s : State) : (s.setPortB x).cmd = s.cmd := rfl
@[simp] theorem State.setPortB_fault (x : PortState) (s : State) : (s.setPortB x).fault = s.fault := rfl
@[simp] theorem State.setPortB_config (x : PortState) (s : State) : (s.setPortB x).config = s.config := rfl
@[simp] theorem State.setPortB_freeCounter (x : PortState) (s : State) : (s.setPortB x).freeCounter = s.freeCounter := rfl
@[simp] theorem State.setPortB_pending (x : PortState) (s : State) : (s.setPortB x).pending = s.pending := rfl

@[simp] theorem State.setWindow_timebase (x : WindowUnit) (s : State) : (s.setWindow x).timebase = s.timebase := rfl
@[simp] theorem State.setWindow_portA (x : WindowUnit) (s : State) : (s.setWindow x).portA = s.portA := rfl
@[simp] theorem State.setWindow_portB (x : WindowUnit) (s : State) : (s.setWindow x).portB = s.portB := rfl
@[simp] theorem State.setWindow_window (x : WindowUnit) (s : State) : (s.setWindow x).window = x := rfl
@[simp] theorem State.setWindow_axle (x : WindowUnit) (s : State) : (s.setWindow x).axle = s.axle := rfl
@[simp] theorem State.setWindow_tracker (x : WindowUnit) (s : State) : (s.setWindow x).tracker = s.tracker := rfl
@[simp] theorem State.setWindow_seq (x : WindowUnit) (s : State) : (s.setWindow x).seq = s.seq := rfl
@[simp] theorem State.setWindow_lamp (x : WindowUnit) (s : State) : (s.setWindow x).lamp = s.lamp := rfl
@[simp] theorem State.setWindow_barrier (x : WindowUnit) (s : State) : (s.setWindow x).barrier = s.barrier := rfl
@[simp] theorem State.setWindow_cmd (x : WindowUnit) (s : State) : (s.setWindow x).cmd = s.cmd := rfl
@[simp] theorem State.setWindow_fault (x : WindowUnit) (s : State) : (s.setWindow x).fault = s.fault := rfl
@[simp] theorem State.setWindow_config (x : WindowUnit) (s : State) : (s.setWindow x).config = s.config := rfl
@[simp] theorem State.setWindow_freeCounter (x : WindowUnit) (s : State) : (s.setWindow x).freeCounter = s.freeCounter := rfl
@[simp] theorem State.setWindow_pending (x : WindowUnit) (s : State) : (s.setWindow x).pending = s.pending := rfl
@[simp] theorem State.setWindow_port (x : WindowUnit) (s : State) (p : Port) : (s.setWindow x).port p = s.port p := by cases p <;> rfl

@[simp] theorem State.setAxle_timebase (x : AxleCounter) (s : State) : (s.setAxle x).timebase = s.timebase := rfl
@[simp] theorem State.setAxle_portA (x : AxleCounter) (s : State) : (s.setAxle x).portA = s.portA := rfl
@[simp] theorem State.setAxle_portB (x : AxleCounter) (s : State) : (s.setAxle x).portB = s.portB := rfl
@[simp] theorem State.setAxle_window (x : AxleCounter) (s : State) : (s.setAxle x).window = s.window := rfl
@[simp] theorem State.setAxle_axle (x : AxleCounter) (s : State) : (s.setAxle x).axle = x := rfl
@[simp] theorem State.setAxle_tracker (x : AxleCounter) (s : State) : (s.setAxle x).tracker = s.tracker := rfl
@[simp] theorem State.setAxle_seq (x : AxleCounter) (s : State) : (s.setAxle x).seq = s.seq := rfl
@[simp] theorem State.setAxle_lamp (x : AxleCounter) (s : State) : (s.setAxle x).lamp = s.lamp := rfl
@[simp] theorem State.setAxle_barrier (x : AxleCounter) (s : State) : (s.setAxle x).barrier = s.barrier := rfl
@[simp] theorem State.setAxle_cmd (x : AxleCounter) (s : State) : (s.setAxle x).cmd = s.cmd := rfl
@[simp] theorem State.setAxle_fault (x : AxleCounter) (s : State) : (s.setAxle x).fault = s.fault := rfl
@[simp] theorem State.setAxle_config (x : AxleCounter) (s : State) : (s.setAxle x).config = s.config := rfl
@[simp] theorem State.setAxle_freeCounter (x : AxleCounter) (s : State) : (s.setAxle x).freeCounter = s.freeCounter := rfl
@[simp] theorem State.setAxle_pending (x : AxleCounter) (s : State) : (s.setAxle x).pending = s.pending := rfl
@[simp] theorem State.setAxle_port (x : AxleCounter) (s : State) (p : Port) : (s.setAxle x).port p = s.port p := by cases p <;> rfl

@[simp] theorem State.setTracker_timebase (x : Tracker) (s : State) : (s.setTracker x).timebase = s.timebase := rfl
@[simp] theorem State.setTracker_portA (x : Tracker) (s : State) : (s.setTracker x).portA = s.portA := rfl
@[simp] theorem State.setTracker_portB (x : Tracker) (s : State) : (s.setTracker x).portB = s.portB := rfl
@[simp] theorem State.setTracker_window (x : Tracker) (s : State) : (s.setTracker x).window = s.window := rfl
@[simp] theorem State.setTracker_axle (x : Tracker) (s : State) : (s.setTracker x).axle = s.axle := rfl
@[simp] theorem State.setTracker_tracker (x : Tracker) (s : State) : (s.setTracker x).tracker = x := rfl
@[simp] theorem State.setTracker_seq (x : Tracker) (s : State) : (s.setTracker x).seq = s.seq := rfl
@[simp] theorem State.setTracker_lamp (x : Tracker) (s : State) : (s.setTracker x).lamp = s.lamp := rfl
@[simp] theorem State.setTracker_barrier (x : Tracker) (s : State) : (s.setTracker x).barrier = s.barrier := rfl
@[simp] theorem State.setTracker_cmd (x : Tracker) (s : State) : (s.setTracker x).cmd = s.cmd := rfl
@[simp] theorem State.setTracker_fault (x : Tracker) (s : State) : (s.setTracker x).fault = s.fault := rfl
@[simp] theorem State.setTracker_config (x : Tracker) (s : State) : (s.setTracker x).config = s.config := rfl
@[simp] theorem State.setTracker_freeCounter (x : Tracker) (s : State) : (s.setTracker x).freeCounter = s.freeCounter := rfl
@[simp] theorem State.setTracker_pending (x : Tracker) (s : State) : (s.setTracker x).pending = s.pending := rfl
@[simp] theorem State.setTracker_port (x : Tracker) (s : State) (p : Port) : (s.setTracker x).port p = s.port p := by cases p <;> rfl

@[simp] theorem State.setSeq_timebase (x : Sequencer) (s : State) : (s.setSeq x).timebase = s.timebase := rfl
@[simp] theorem State.setSeq_portA (x : Sequencer) (s : State) : (s.setSeq x).portA = s.portA := rfl
@[simp] theorem State.setSeq_portB (x : Sequencer) (s : State) : (s.setSeq x).portB = s.portB := rfl
@[simp] theorem State.setSeq_window (x : Sequencer) (s : State) : (s.setSeq x).window = s.window := rfl
@[simp] theorem State.setSeq_axle (x : Sequencer) (s : State) : (s.setSeq x).axle = s.axle := rfl
@[simp] theorem State.setSeq_tracker (x : Sequencer) (s : State) : (s.setSeq x).tracker = s.tracker := rfl
@[simp] theorem State.setSeq_seq (x : Sequencer) (s : State) : (s.setSeq x).seq = x := rfl
@[simp] theorem State.setSeq_lamp (x : Sequencer) (s : State) : (s.setSeq x).lamp = s.lamp := rfl
@[simp] theorem State.setSeq_barrier (x : Sequencer) (s : State) : (s.setSeq x).barrier = s.barrier := rfl
@[simp] theorem State.setSeq_cmd (x : Sequencer) (s : State) : (s.setSeq x).cmd = s.cmd := rfl
@[simp] theorem State.setSeq_fault (x : Sequencer) (s : State) : (s.setSeq x).fault = s.fault := rfl
@[simp] theorem State.setSeq_config (x : Sequencer) (s : State) : (s.setSeq x).config = s.config := rfl
@[simp] theorem State.setSeq_freeCounter (x : Sequencer) (s : State) : (s.setSeq x).freeCounter = s.freeCounter := rfl
@[simp] theorem State.setSeq_pending (x : Sequencer) (s : State) : (s.setSeq x).pending = s.pending := rfl
@[simp] theorem State.setSeq_port (x : Sequencer) (s : State) (p : Port) : (s.setSeq x).port p = s.port p := by cases p <;> rfl

@[simp] theorem State.setLamp_timebase (x : LampSupervisor) (s : State) : (s.setLamp x).timebase = s.timebase := rfl
@[simp] theorem State.setLamp_portA (x : LampSupervisor) (s : State) : (s.setLamp x).portA = s.portA := rfl
@[simp] theorem State.setLamp_portB (x : LampSupervisor) (s : State) : (s.setLamp x).portB = s.portB := rfl
@[simp] theorem State.setLamp_window (x : LampSupervisor) (s : State) : (s.setLamp x).window = s.window := rfl
@[simp] theorem State.setLamp_axle (x : LampSupervisor) (s : State) : (s.setLamp x).axle = s.axle := rfl
@[simp] theorem State.setLamp_tracker (x : LampSupervisor) (s : State) : (s.setLamp x).tracker = s.tracker := rfl
@[simp] theorem State.setLamp_seq (x : LampSupervisor) (s : State) : (s.setLamp x).seq = s.seq := rfl
@[simp] theorem State.setLamp_lamp (x : LampSupervisor) (s : State) : (s.setLamp x).lamp = x := rfl
@[simp] theorem State.setLamp_barrier (x : LampSupervisor) (s : State) : (s.setLamp x).barrier = s.barrier := rfl
@[simp] theorem State.setLamp_cmd (x : LampSupervisor) (s : State) : (s.setLamp x).cmd = s.cmd := rfl
@[simp] theorem State.setLamp_fault (x : LampSupervisor) (s : State) : (s.setLamp x).fault = s.fault := rfl
@[simp] theorem State.setLamp_config (x : LampSupervisor) (s : State) : (s.setLamp x).config = s.config := rfl
@[simp] theorem State.setLamp_freeCounter (x : LampSupervisor) (s : State) : (s.setLamp x).freeCounter = s.freeCounter := rfl
@[simp] theorem State.setLamp_pending (x : LampSupervisor) (s : State) : (s.setLamp x).pending = s.pending := rfl
@[simp] theorem State.setLamp_port (x : LampSupervisor) (s : State) (p : Port) : (s.setLamp x).port p = s.port p := by cases p <;> rfl

@[simp] theorem State.setBarrier_timebase (x : BarrierSupervisor) (s : State) : (s.setBarrier x).timebase = s.timebase := rfl
@[simp] theorem State.setBarrier_portA (x : BarrierSupervisor) (s : State) : (s.setBarrier x).portA = s.portA := rfl
@[simp] theorem State.setBarrier_portB (x : BarrierSupervisor) (s : State) : (s.setBarrier x).portB = s.portB := rfl
@[simp] theorem State.setBarrier_window (x : BarrierSupervisor) (s : State) : (s.setBarrier x).window = s.window := rfl
@[simp] theorem State.setBarrier_axle (x : BarrierSupervisor) (s : State) : (s.setBarrier x).axle = s.axle := rfl
@[simp] theorem State.setBarrier_tracker (x : BarrierSupervisor) (s : State) : (s.setBarrier x).tracker = s.tracker := rfl
@[simp] theorem State.setBarrier_seq (x : BarrierSupervisor) (s : State) : (s.setBarrier x).seq = s.seq := rfl
@[simp] theorem State.setBarrier_lamp (x : BarrierSupervisor) (s : State) : (s.setBarrier x).lamp = s.lamp := rfl
@[simp] theorem State.setBarrier_barrier (x : BarrierSupervisor) (s : State) : (s.setBarrier x).barrier = x := rfl
@[simp] theorem State.setBarrier_cmd (x : BarrierSupervisor) (s : State) : (s.setBarrier x).cmd = s.cmd := rfl
@[simp] theorem State.setBarrier_fault (x : BarrierSupervisor) (s : State) : (s.setBarrier x).fault = s.fault := rfl
@[simp] theorem State.setBarrier_config (x : BarrierSupervisor) (s : State) : (s.setBarrier x).config = s.config := rfl
@[simp] theorem State.setBarrier_freeCounter (x : BarrierSupervisor) (s : State) : (s.setBarrier x).freeCounter = s.freeCounter := rfl
@[simp] theorem State.setBarrier_pending (x : BarrierSupervisor) (s : State) : (s.setBarrier x).pending = s.pending := rfl
@[simp] theorem State.setBarrier_port (x : BarrierSupervisor) (s : State) (p : Port) : (s.setBarrier x).port p = s.port p := by cases p <;> rfl

@[simp] theorem State.setCmd_timebase (x : CommandBlock) (s : State) : (s.setCmd x).timebase = s.timebase := rfl
@[simp] theorem State.setCmd_portA (x : CommandBlock) (s : State) : (s.setCmd x).portA = s.portA := rfl
@[simp] theorem State.setCmd_portB (x : CommandBlock) (s : State) : (s.setCmd x).portB = s.portB := rfl
@[simp] theorem State.setCmd_window (x : CommandBlock) (s : State) : (s.setCmd x).window = s.window := rfl
@[simp] theorem State.setCmd_axle (x : CommandBlock) (s : State) : (s.setCmd x).axle = s.axle := rfl
@[simp] theorem State.setCmd_tracker (x : CommandBlock) (s : State) : (s.setCmd x).tracker = s.tracker := rfl
@[simp] theorem State.setCmd_seq (x : CommandBlock) (s : State) : (s.setCmd x).seq = s.seq := rfl
@[simp] theorem State.setCmd_lamp (x : CommandBlock) (s : State) : (s.setCmd x).lamp = s.lamp := rfl
@[simp] theorem State.setCmd_barrier (x : CommandBlock) (s : State) : (s.setCmd x).barrier = s.barrier := rfl
@[simp] theorem State.setCmd_cmd (x : CommandBlock) (s : State) : (s.setCmd x).cmd = x := rfl
@[simp] theorem State.setCmd_fault (x : CommandBlock) (s : State) : (s.setCmd x).fault = s.fault := rfl
@[simp] theorem State.setCmd_config (x : CommandBlock) (s : State) : (s.setCmd x).config = s.config := rfl
@[simp] theorem State.setCmd_freeCounter (x : CommandBlock) (s : State) : (s.setCmd x).freeCounter = s.freeCounter := rfl
@[simp] theorem State.setCmd_pending (x : CommandBlock) (s : State) : (s.setCmd x).pending = s.pending := rfl
@[simp] theorem State.setCmd_port (x : CommandBlock) (s : State) (p : Port) : (s.setCmd x).port p = s.port p := by cases p <;> rfl

@[simp] theorem State.setFault_timebase (x : FaultUnit) (s : State) : (s.setFault x).timebase = s.timebase := rfl
@[simp] theorem State.setFault_portA (x : FaultUnit) (s : State) : (s.setFault x).portA = s.portA := rfl
@[simp] theorem State.setFault_portB (x : FaultUnit) (s : State) : (s.setFault x).portB = s.portB := rfl
@[simp] theorem State.setFault_window (x : FaultUnit) (s : State) : (s.setFault x).window = s.window := rfl
@[simp] theorem State.setFault_axle (x : FaultUnit) (s : State) : (s.setFault x).axle = s.axle := rfl
@[simp] theorem State.setFault_tracker (x : FaultUnit) (s : State) : (s.setFault x).tracker = s.tracker := rfl
@[simp] theorem State.setFault_seq (x : FaultUnit) (s : State) : (s.setFault x).seq = s.seq := rfl
@[simp] theorem State.setFault_lamp (x : FaultUnit) (s : State) : (s.setFault x).lamp = s.lamp := rfl
@[simp] theorem State.setFault_barrier (x : FaultUnit) (s : State) : (s.setFault x).barrier = s.barrier := rfl
@[simp] theorem State.setFault_cmd (x : FaultUnit) (s : State) : (s.setFault x).cmd = s.cmd := rfl
@[simp] theorem State.setFault_fault (x : FaultUnit) (s : State) : (s.setFault x).fault = x := rfl
@[simp] theorem State.setFault_config (x : FaultUnit) (s : State) : (s.setFault x).config = s.config := rfl
@[simp] theorem State.setFault_freeCounter (x : FaultUnit) (s : State) : (s.setFault x).freeCounter = s.freeCounter := rfl
@[simp] theorem State.setFault_pending (x : FaultUnit) (s : State) : (s.setFault x).pending = s.pending := rfl
@[simp] theorem State.setFault_port (x : FaultUnit) (s : State) (p : Port) : (s.setFault x).port p = s.port p := by cases p <;> rfl

@[simp] theorem State.setConfig_timebase (x : ConfigUnit) (s : State) : (s.setConfig x).timebase = s.timebase := rfl
@[simp] theorem State.setConfig_portA (x : ConfigUnit) (s : State) : (s.setConfig x).portA = s.portA := rfl
@[simp] theorem State.setConfig_portB (x : ConfigUnit) (s : State) : (s.setConfig x).portB = s.portB := rfl
@[simp] theorem State.setConfig_window (x : ConfigUnit) (s : State) : (s.setConfig x).window = s.window := rfl
@[simp] theorem State.setConfig_axle (x : ConfigUnit) (s : State) : (s.setConfig x).axle = s.axle := rfl
@[simp] theorem State.setConfig_tracker (x : ConfigUnit) (s : State) : (s.setConfig x).tracker = s.tracker := rfl
@[simp] theorem State.setConfig_seq (x : ConfigUnit) (s : State) : (s.setConfig x).seq = s.seq := rfl
@[simp] theorem State.setConfig_lamp (x : ConfigUnit) (s : State) : (s.setConfig x).lamp = s.lamp := rfl
@[simp] theorem State.setConfig_barrier (x : ConfigUnit) (s : State) : (s.setConfig x).barrier = s.barrier := rfl
@[simp] theorem State.setConfig_cmd (x : ConfigUnit) (s : State) : (s.setConfig x).cmd = s.cmd := rfl
@[simp] theorem State.setConfig_fault (x : ConfigUnit) (s : State) : (s.setConfig x).fault = s.fault := rfl
@[simp] theorem State.setConfig_config (x : ConfigUnit) (s : State) : (s.setConfig x).config = x := rfl
@[simp] theorem State.setConfig_freeCounter (x : ConfigUnit) (s : State) : (s.setConfig x).freeCounter = s.freeCounter := rfl
@[simp] theorem State.setConfig_pending (x : ConfigUnit) (s : State) : (s.setConfig x).pending = s.pending := rfl
@[simp] theorem State.setConfig_port (x : ConfigUnit) (s : State) (p : Port) : (s.setConfig x).port p = s.port p := by cases p <;> rfl

@[simp] theorem State.setFreeCounter_timebase (x : Nat) (s : State) : (s.setFreeCounter x).timebase = s.timebase := rfl
@[simp] theorem State.setFreeCounter_portA (x : Nat) (s : State) : (s.setFreeCounter x).portA = s.portA := rfl
@[simp] theorem State.setFreeCounter_portB (x : Nat) (s : State) : (s.setFreeCounter x).portB = s.portB := rfl
@[simp] theorem State.setFreeCounter_window (x : Nat) (s : State) : (s.setFreeCounter x).window = s.window := rfl
@[simp] theorem State.setFreeCounter_axle (x : Nat) (s : State) : (s.setFreeCounter x).axle = s.axle := rfl
@[simp] theorem State.setFreeCounter_tracker (x : Nat) (s : State) : (s.setFreeCounter x).tracker = s.tracker := rfl
@[simp] theorem State.setFreeCounter_seq (x : Nat) (s : State) : (s.setFreeCounter x).seq = s.seq := rfl
@[simp] theorem State.setFreeCounter_lamp (x : Nat) (s : State) : (s.setFreeCounter x).lamp = s.lamp := rfl
@[simp] theorem State.setFreeCounter_barrier (x : Nat) (s : State) : (s.setFreeCounter x).barrier = s.barrier := rfl
@[simp] theorem State.setFreeCounter_cmd (x : Nat) (s : State) : (s.setFreeCounter x).cmd = s.cmd := rfl
@[simp] theorem State.setFreeCounter_fault (x : Nat) (s : State) : (s.setFreeCounter x).fault = s.fault := rfl
@[simp] theorem State.setFreeCounter_config (x : Nat) (s : State) : (s.setFreeCounter x).config = s.config := rfl
@[simp] theorem State.setFreeCounter_freeCounter (x : Nat) (s : State) : (s.setFreeCounter x).freeCounter = x := rfl
@[simp] theorem State.setFreeCounter_pending (x : Nat) (s : State) : (s.setFreeCounter x).pending = s.pending := rfl
@[simp] theorem State.setFreeCounter_port (x : Nat) (s : State) (p : Port) : (s.setFreeCounter x).port p = s.port p := by cases p <;> rfl

@[simp] theorem State.setPending_timebase (x : List Instr) (s : State) : (s.setPending x).timebase = s.timebase := rfl
@[simp] theorem State.setPending_portA (x : List Instr) (s : State) : (s.setPending x).portA = s.portA := rfl
@[simp] theorem State.setPending_portB (x : List Instr) (s : State) : (s.setPending x).portB = s.portB := rfl
@[simp] theorem State.setPending_window (x : List Instr) (s : State) : (s.setPending x).window = s.window := rfl
@[simp] theorem State.setPending_axle (x : List Instr) (s : State) : (s.setPending x).axle = s.axle := rfl
@[simp] theorem State.setPending_tracker (x : List Instr) (s : State) : (s.setPending x).tracker = s.tracker := rfl
@[simp] theorem State.setPending_seq (x : List Instr) (s : State) : (s.setPending x).seq = s.seq := rfl
@[simp] theorem State.setPending_lamp (x : List Instr) (s : State) : (s.setPending x).lamp = s.lamp := rfl
@[simp] theorem State.setPending_barrier (x : List Instr) (s : State) : (s.setPending x).barrier = s.barrier := rfl
@[simp] theorem State.setPending_cmd (x : List Instr) (s : State) : (s.setPending x).cmd = s.cmd := rfl
@[simp] theorem State.setPending_fault (x : List Instr) (s : State) : (s.setPending x).fault = s.fault := rfl
@[simp] theorem State.setPending_config (x : List Instr) (s : State) : (s.setPending x).config = s.config := rfl
@[simp] theorem State.setPending_freeCounter (x : List Instr) (s : State) : (s.setPending x).freeCounter = s.freeCounter := rfl
@[simp] theorem State.setPending_pending (x : List Instr) (s : State) : (s.setPending x).pending = x := rfl
@[simp] theorem State.setPending_port (x : List Instr) (s : State) (p : Port) : (s.setPending x).port p = s.port p := by cases p <;> rfl

@[simp] theorem State.setPort_timebase (p : Port) (x : PortState) (s : State) : (s.setPort p x).timebase = s.timebase := by cases p <;> rfl
@[simp] theorem State.setPort_window (p : Port) (x : PortState) (s : State) : (s.setPort p x).window = s.window := by cases p <;> rfl
@[simp] theorem State.setPort_axle (p : Port) (x : PortState) (s : State) : (s.setPort p x).axle = s.axle := by cases p <;> rfl
@[simp] theorem State.setPort_tracker (p : Port) (x : PortState) (s : State) : (s.setPort p x).tracker = s.tracker := by cases p <;> rfl
@[simp] theorem State.setPort_seq (p : Port) (x : PortState) (s : State) : (s.setPort p x).seq = s.seq := by cases p <;> rfl
@[simp] theorem State.setPort_lamp (p : Port) (x : PortState) (s : State) : (s.setPort p x).lamp = s.lamp := by cases p <;> rfl
@[simp] theorem State.setPort_barrier (p : Port) (x : PortState) (s : State) : (s.setPort p x).barrier = s.barrier := by cases p <;> rfl
@[simp] theorem State.setPort_cmd (p : Port) (x : PortState) (s : State) : (s.setPort p x).cmd = s.cmd := by cases p <;> rfl
@[simp] theorem State.setPort_fault (p : Port) (x : PortState) (s : State) : (s.setPort p x).fault = s.fault := by cases p <;> rfl
@[simp] theorem State.setPort_config (p : Port) (x : PortState) (s : State) : (s.setPort p x).config = s.config := by cases p <;> rfl
@[simp] theorem State.setPort_freeCounter (p : Port) (x : PortState) (s : State) : (s.setPort p x).freeCounter = s.freeCounter := by cases p <;> rfl
@[simp] theorem State.setPort_pending (p : Port) (x : PortState) (s : State) : (s.setPort p x).pending = s.pending := by cases p <;> rfl
@[simp] theorem State.setPort_port_self (p : Port) (x : PortState) (s : State) : (s.setPort p x).port p = x := by cases p <;> rfl
@[simp] theorem State.setPort_port_other (p : Port) (x : PortState) (s : State) : (s.setPort p x).port p.other = s.port p.other := by cases p <;> rfl
@[simp] theorem State.setPort_self (p : Port) (s : State) : s.setPort p (s.port p) = s := by cases p <;> rfl
@[simp] theorem State.setPort_setPort (p : Port) (x y : PortState) (s : State) : (s.setPort p x).setPort p y = s.setPort p y := by cases p <;> rfl
@[simp] theorem Port_other_other (p : Port) : p.other.other = p := by cases p <;> rfl
@[simp] theorem Port_other_ne (p : Port) : p.other ≠ p := by cases p <;> simp [Port.other]

/-- Reading a port after writing one: the written value on the same port, the old one otherwise. -/
theorem State.setPort_port (p q : Port) (x : PortState) (s : State) :
    (s.setPort p x).port q = if q = p then x else s.port q := by
  cases p <;> cases q <;> rfl

end Sys2Proof.Machine
end

