-- ==== Sys2Proof/Laws/Frames.lean ====
section
/-! SUPPORT. Frames: one lemma per shared operation, saying which blocks it can change. Each is tagged for
simp, so that a goal that a composition of operations touches no more than a list of blocks closes by
simp, given depth enough for its side conditions (maxDischargeDepth). -/

namespace Sys2Proof.Machine

/-- A link that has not changed twice has not changed. -/
theorem SameLink.trans {p q r : PortState} (h : SameLink p q) (k : SameLink q r) : SameLink p r := by
  obtain ⟨h1, h2, h3, h4⟩ := h
  obtain ⟨k1, k2, k3, k4⟩ := k
  exact ⟨k1.trans h1, k2.trans h2, k3.trans h3, k4.trans h4⟩

/-- A queue that has not changed twice has not changed. -/
theorem SameQueue.trans {c : QueueClass} {p q r : PortState} (h : SameQueue c p q) (k : SameQueue c q r) :
    SameQueue c p r := by
  refine ⟨fun hp => ?_, fun hp => k.2 (h.2 hp)⟩
  obtain ⟨h1, h2⟩ := h.1 hp
  obtain ⟨k1, k2⟩ := k.1 (by rw [h2]; exact hp)
  exact ⟨k1.trans h1, k2.trans h2⟩

/-- A port has the same link as itself. -/
theorem SameLink.refl (p : PortState) : SameLink p p := ⟨rfl, rfl, rfl, rfl⟩

/-- A port has the same queues as itself. -/
theorem SameQueue.refl (c : QueueClass) (p : PortState) : SameQueue c p p := ⟨fun _ => ⟨rfl, rfl⟩, id⟩

/-- Nothing done touches nothing. -/
theorem Touches.refl (L : List Block) (s : State) : Touches L s s := by
  intro b _
  cases b <;> first | rfl | exact ⟨SameLink.refl _, SameLink.refl _⟩ | exact ⟨SameQueue.refl _ _, SameQueue.refl _ _⟩

/-- What two steps touch together. -/
theorem Touches.trans {L : List Block} {s t u : State} (h : Touches L s t) (k : Touches L t u) :
    Touches L s u := by
  intro b hb
  have h1 := h b hb
  have h2 := k b hb
  cases b <;> first
    | exact Eq.trans h2 h1
    | exact ⟨SameLink.trans h1.1 h2.1, SameLink.trans h1.2 h2.2⟩
    | exact ⟨SameQueue.trans h1.1 h2.1, SameQueue.trans h1.2 h2.2⟩

/-- A longer list of blocks allows as much. -/
theorem Touches.mono {L M : List Block} {s t : State} (hLM : L ⊆ M) (h : Touches L s t) : Touches M s t :=
  fun b hb => h b fun hL => hb (hLM hL)

/-- A step that touches no more than is allowed keeps within what is allowed. -/
theorem Touches.step {L M : List Block} {s t u : State} (hM : M ⊆ L) (h : Touches L s t)
    (k : Touches M t u) : Touches L s u :=
  h.trans (k.mono hM)

@[simp] theorem State.setWindow_touches {L : List Block} {s t : State} (x : WindowUnit)
    (hL : .window ∈ L) (h : Touches L s t) : Touches L s (t.setWindow x) := by
  intro b hb; have h := h b hb; cases b <;> first | exact h | exact absurd hL hb

@[simp] theorem State.setAxle_touches {L : List Block} {s t : State} (x : AxleCounter)
    (hL : .axle ∈ L) (h : Touches L s t) : Touches L s (t.setAxle x) := by
  intro b hb; have h := h b hb; cases b <;> first | exact h | exact absurd hL hb

@[simp] theorem State.setTracker_touches {L : List Block} {s t : State} (x : Tracker)
    (hL : .tracker ∈ L) (h : Touches L s t) : Touches L s (t.setTracker x) := by
  intro b hb; have h := h b hb; cases b <;> first | exact h | exact absurd hL hb

@[simp] theorem State.setSeq_touches {L : List Block} {s t : State} (x : Sequencer)
    (hL : .seq ∈ L) (h : Touches L s t) : Touches L s (t.setSeq x) := by
  intro b hb; have h := h b hb; cases b <;> first | exact h | exact absurd hL hb

@[simp] theorem State.setLamp_touches {L : List Block} {s t : State} (x : LampSupervisor)
    (hL : .lamp ∈ L) (h : Touches L s t) : Touches L s (t.setLamp x) := by
  intro b hb; have h := h b hb; cases b <;> first | exact h | exact absurd hL hb

@[simp] theorem State.setBarrier_touches {L : List Block} {s t : State} (x : BarrierSupervisor)
    (hL : .barrier ∈ L) (h : Touches L s t) : Touches L s (t.setBarrier x) := by
  intro b hb; have h := h b hb; cases b <;> first | exact h | exact absurd hL hb

@[simp] theorem State.setCmd_touches {L : List Block} {s t : State} (x : CommandBlock)
    (hL : .cmd ∈ L) (h : Touches L s t) : Touches L s (t.setCmd x) := by
  intro b hb; have h := h b hb; cases b <;> first | exact h | exact absurd hL hb

@[simp] theorem State.setConfig_touches {L : List Block} {s t : State} (x : ConfigUnit)
    (hL : .config ∈ L) (h : Touches L s t) : Touches L s (t.setConfig x) := by
  intro b hb; have h := h b hb; cases b <;> first | exact h | exact absurd hL hb

@[simp] theorem State.setFreeCounter_touches {L : List Block} {s t : State} (x : Nat)
    (hL : .freeCounter ∈ L) (h : Touches L s t) : Touches L s (t.setFreeCounter x) := by
  intro b hb; have h := h b hb; cases b <;> first | exact h | exact absurd hL hb

/-- A fault unit put in place with its status period as it was. -/
@[simp] theorem State.setFault_touches {L : List Block} {s t : State} (x : FaultUnit)
    (hx : x.statusExpiry = t.fault.statusExpiry) (hL : .fault ∈ L) (h : Touches L s t) :
    Touches L s (t.setFault x) := by
  intro b hb
  have h := h b hb
  cases b <;> first | exact h | exact absurd hL hb | exact hx.trans h

/-- A fault unit put in place. -/
theorem State.setFault_touches_all {L : List Block} {s t : State} (x : FaultUnit)
    (hL : .fault ∈ L) (hP : .statusPeriod ∈ L) (h : Touches L s t) : Touches L s (t.setFault x) := by
  intro b hb
  have h := h b hb
  cases b <;> first | exact h | exact absurd hL hb | exact absurd hP hb

/-- A port put in place whose link is as it was where links are not touched, and whose queues of the classes
not touched are as they were. -/
theorem State.setPort_touches {L : List Block} {s t : State} (p : Port) (x : PortState)
    (hA : .portA ∈ L) (hB : .portB ∈ L) (hl : .links ∉ L → SameLink (t.port p) x)
    (hq : ∀ c, .queue c ∉ L → SameQueue c (t.port p) x) (h : Touches L s t) :
    Touches L s (t.setPort p x) := by
  refine h.trans ?_
  intro b hb
  cases p <;> cases b <;> first
    | rfl
    | exact absurd hA hb
    | exact absurd hB hb
    | exact ⟨hl hb, SameLink.refl _⟩
    | exact ⟨SameLink.refl _, hl hb⟩
    | exact ⟨hq _ hb, SameQueue.refl _ _⟩
    | exact ⟨SameQueue.refl _ _, hq _ hb⟩

/-- Putting a queue in place leaves the link alone. -/
theorem setQueue_link (c : QueueClass) (q : List QueueEntry) (ps : PortState) :
    SameLink ps (ps.setQueue c q) := by cases c <;> exact ⟨rfl, rfl, rfl, rfl⟩

/-- Putting one class's queue in place leaves the others alone. -/
theorem setQueue_other {c d : QueueClass} (h : d ≠ c) (q : List QueueEntry) (ps : PortState) :
    SameQueue d ps (ps.setQueue c q) := by
  cases c <;> cases d <;> first | exact absurd rfl h | exact ⟨fun _ => ⟨rfl, rfl⟩, id⟩

/-- Putting a queue in place leaves the transmitter alone. -/
@[simp] theorem setQueue_transmitter (c : QueueClass) (q : List QueueEntry) (ps : PortState) :
    (ps.setQueue c q).transmitter = ps.transmitter := by cases c <;> rfl

/-- The queue put in place is the one read. -/
@[simp] theorem setQueue_queue (c : QueueClass) (q : List QueueEntry) (ps : PortState) :
    (ps.setQueue c q).queue c = q := by cases c <;> rfl

/-- Another queue is read as before. -/
theorem setQueue_queue_ne {c d : QueueClass} (h : d ≠ c) (q : List QueueEntry) (ps : PortState) :
    (ps.setQueue c q).queue d = ps.queue d := by cases c <;> cases d <;> first | exact absurd rfl h | rfl

/-- A busy transmitter is left alone. -/
theorem serveTransmitter_busy {lt : List Word} {now : Time} {ps : PortState} (h : ps.transmitter.isSome) :
    serveTransmitter lt now ps = ps := by
  unfold serveTransmitter
  cases hx : ps.transmitter with
  | none => rw [hx] at h; cases h
  | some _ => rfl

/-- Serving a transmitter leaves the link alone. -/
theorem serveTransmitter_link (lt : List Word) (now : Time) (ps : PortState) :
    SameLink ps (serveTransmitter lt now ps) := by
  unfold serveTransmitter
  split
  · exact SameLink.refl _
  · split
    · exact SameLink.refl _
    · split
      · exact SameLink.refl _
      · obtain ⟨h1, h2, h3, h4⟩ := setQueue_link ‹QueueClass› ‹List QueueEntry› ps
        exact ⟨h1, h2, h3, h4⟩

/-- Serving a transmitter changes no queue of a busy port, and no empty queue. -/
theorem serveTransmitter_queue (lt : List Word) (now : Time) (c : QueueClass) (ps : PortState) :
    SameQueue c ps (serveTransmitter lt now ps) := by
  refine ⟨fun h => ?_, fun h => ?_⟩
  · rw [serveTransmitter_busy h]
    exact ⟨rfl, rfl⟩
  · unfold serveTransmitter
    split
    · exact h
    · split
      · exact h
      · split
        · exact h
        · rename_i d _ _ e rest hq
          have hne : c ≠ d := by rintro rfl; rw [h] at hq; cases hq
          have := setQueue_queue_ne hne rest ps
          rw [← h, ← this]
          cases c <;> rfl

@[simp] theorem joinQueue_touches {L : List Block} {s t : State} (p : Port) (c : QueueClass) (tel : Telegram)
    (slot : Option Nat) (hL : [.portA, .portB, .queue c] ⊆ L) (h : Touches L s t) :
    Touches L s (joinQueue p c tel slot t) := by
  simp only [List.cons_subset, List.nil_subset, and_true] at hL
  refine State.setPort_touches p _ hL.1 hL.2.1 (fun _ => ?_) (fun d hd => ?_) h
  · exact (setQueue_link _ _ _).trans (serveTransmitter_link _ _ _)
  · refine (setQueue_other ?_ _ _).trans (serveTransmitter_queue _ _ _ _)
    rintro rfl
    exact hd hL.2.2

/-- A queue put in place of a port. -/
theorem State.setPort_setQueue_touches {L : List Block} {s t : State} (p : Port) (c : QueueClass)
    (q : List QueueEntry) (hL : [.portA, .portB, .queue c] ⊆ L) (h : Touches L s t) :
    Touches L s (t.setPort p ((t.port p).setQueue c q)) := by
  simp only [List.cons_subset, List.nil_subset, and_true] at hL
  refine State.setPort_touches p _ hL.1 hL.2.1 (fun _ => setQueue_link _ _ _) (fun d hd => ?_) h
  refine setQueue_other ?_ _ _
  rintro rfl
  exact hd hL.2.2

@[simp] theorem sendReply_touches {L : List Block} {s t : State} (a : Arrival) (kind : Byte)
    (payload : List Byte)
    (hL : [.portA, .portB, .queue .reply] ⊆ L)
    (h : Touches L s t) : Touches L s (sendReply a kind payload t) := by
  simp only [List.cons_subset, List.nil_subset, and_true] at hL
  unfold sendReply
  simp (maxDischargeDepth := 40) [*]

@[simp] theorem evaluateGroups_touches {L : List Block} {s t : State}
    (hL : [.fault] ⊆ L)
    (h : Touches L s t) : Touches L s (evaluateGroups t) := by
  simp only [List.cons_subset, List.nil_subset, and_true] at hL
  unfold evaluateGroups
  simp (maxDischargeDepth := 40) [*]

@[simp] theorem setFlags_touches {L : List Block} {s t : State} (x y : BitVec 24)
    (hL : [.fault] ⊆ L)
    (h : Touches L s t) : Touches L s (setFlags x y t) := by
  simp only [List.cons_subset, List.nil_subset, and_true] at hL
  unfold setFlags
  simp (maxDischargeDepth := 40) [*]

@[simp] theorem capture_touches {L : List Block} {s t : State} (c : FaultClass) (x y : Nat)
    (hL : [.fault] ⊆ L)
    (h : Touches L s t) : Touches L s (capture c x y t) := by
  simp only [List.cons_subset, List.nil_subset, and_true] at hL
  unfold capture
  simp (maxDischargeDepth := 40) [*]

@[simp] theorem raiseFault_touches {L : List Block} {s t : State} (c : FaultClass) (x y : Nat)
    (hL : [.fault] ⊆ L)
    (h : Touches L s t) : Touches L s (raiseFault c x y t) := by
  simp only [List.cons_subset, List.nil_subset, and_true] at hL
  unfold raiseFault
  (repeat' split) <;> simp (maxDischargeDepth := 40) [*]

@[simp] theorem raiseNotice_touches {L : List Block} {s t : State} (x y : Nat)
    (hL : [.fault] ⊆ L)
    (h : Touches L s t) : Touches L s (raiseNotice x y t) := by
  simp only [List.cons_subset, List.nil_subset, and_true] at hL
  unfold raiseNotice
  simp (maxDischargeDepth := 40) [*]

@[simp] theorem enterFault_touches {L : List Block} {s t : State} (c : FaultClass) (x y : Nat)
    (hL : [.fault] ⊆ L)
    (h : Touches L s t) : Touches L s (enterFault c x y t) := by
  simp only [List.cons_subset, List.nil_subset, and_true] at hL
  unfold enterFault
  (repeat' split) <;> simp (maxDischargeDepth := 40) [*]

@[simp] theorem endFault_touches {L : List Block} {s t : State} (c : FaultClass)
    (hL : [.fault] ⊆ L)
    (h : Touches L s t) : Touches L s (endFault c t) := by
  simp only [List.cons_subset, List.nil_subset, and_true] at hL
  unfold endFault
  (repeat' split) <;> simp (maxDischargeDepth := 40) [*]

@[simp] theorem endFaultUnless_touches {L : List Block} {s t : State} (c : FaultClass) (b : Bool)
    (hL : [.fault] ⊆ L)
    (h : Touches L s t) : Touches L s (endFaultUnless c b t) := by
  simp only [List.cons_subset, List.nil_subset, and_true] at hL
  unfold endFaultUnless
  (repeat' split) <;> simp (maxDischargeDepth := 40) [*]

@[simp] theorem noticeRoleMismatch_touches {L : List Block} {s t : State} (p : Port) (src : Addr)
    (hL : [.fault] ⊆ L)
    (h : Touches L s t) : Touches L s (noticeRoleMismatch p src t) := by
  simp only [List.cons_subset, List.nil_subset, and_true] at hL
  unfold noticeRoleMismatch
  simp (maxDischargeDepth := 40) [*]

@[simp] theorem noticeStranger_touches {L : List Block} {s t : State} (p : Port) (src : Addr)
    (hL : [.fault] ⊆ L)
    (h : Touches L s t) : Touches L s (noticeStranger p src t) := by
  simp only [List.cons_subset, List.nil_subset, and_true] at hL
  unfold noticeStranger
  simp (maxDischargeDepth := 40) [*]

@[simp] theorem removeBlock_touches {L : List Block} {s t : State}
    (hL : [.portA, .portB, .queue .command] ⊆ L)
    (h : Touches L s t) : Touches L s (removeBlock t) := by
  unfold removeBlock
  have h1 := State.setPort_setQueue_touches .a .command [] hL h
  exact State.setPort_setQueue_touches .b .command [] hL h1

@[simp] theorem queueSlot_touches {L : List Block} {s t : State} (sl : Slot) (i : Nat)
    (hL : [.portA, .portB, .queue .command] ⊆ L)
    (h : Touches L s t) : Touches L s (queueSlot t sl i) := by
  simp only [List.cons_subset, List.nil_subset, and_true] at hL
  unfold queueSlot
  (repeat' split) <;> simp (maxDischargeDepth := 40) [*]

@[simp] theorem queueSlots_touches {L : List Block} {s t : State} (l : List Slot) (i : Nat)
    (hL : [.portA, .portB, .queue .command] ⊆ L)
    (h : Touches L s t) : Touches L s (queueSlots l i t) := by
  simp only [List.cons_subset, List.nil_subset, and_true] at hL
  induction l generalizing t i with
  | nil => exact h
  | cons x xs ih => exact ih _ (by simp (maxDischargeDepth := 40) [*])

@[simp] theorem startBlock_touches {L : List Block} {s t : State}
    (hL : [.portA, .portB, .cmd, .queue .command] ⊆ L)
    (h : Touches L s t) : Touches L s (startBlock t) := by
  simp only [List.cons_subset, List.nil_subset, and_true] at hL
  unfold startBlock
  dsimp only
  simp (maxDischargeDepth := 40) [*]

@[simp] theorem writeSlot_touches {L : List Block} {s t : State} (m : Nat) (c : SlotContent)
    (hL : [.portA, .portB, .cmd, .queue .command] ⊆ L)
    (h : Touches L s t) : Touches L s (writeSlot m c t) := by
  simp only [List.cons_subset, List.nil_subset, and_true] at hL
  unfold writeSlot
  (repeat' split) <;> simp (maxDischargeDepth := 40) [*]

@[simp] theorem refreshBlock_touches {L : List Block} {s t : State}
    (hL : [.portA, .portB, .cmd, .fault, .queue .command] ⊆ L)
    (h : Touches L s t) : Touches L s (refreshBlock t) := by
  simp only [List.cons_subset, List.nil_subset, and_true] at hL
  unfold refreshBlock
  (repeat' split) <;> simp (maxDischargeDepth := 40) [*]

@[simp] theorem writeLampSlotsFrom_touches {L : List Block} {s t : State} (l : List Nat) (i : Nat)
    (hL : [.portA, .portB, .cmd, .queue .command] ⊆ L)
    (h : Touches L s t) : Touches L s (writeLampSlotsFrom l i t) := by
  simp only [List.cons_subset, List.nil_subset, and_true] at hL
  induction l generalizing t i with
  | nil => exact h
  | cons x xs ih => exact ih _ (by simp (maxDischargeDepth := 40) [*])

@[simp] theorem writeLampSlots_touches {L : List Block} {s t : State}
    (hL : [.portA, .portB, .cmd, .queue .command] ⊆ L)
    (h : Touches L s t) : Touches L s (writeLampSlots t) := by
  simp only [List.cons_subset, List.nil_subset, and_true] at hL
  unfold writeLampSlots
  simp (maxDischargeDepth := 40) [*]

@[simp] theorem enterRoadLights_touches {L : List Block} {s t : State} (side : Nat)
    (hL : [.fault] ⊆ L)
    (h : Touches L s t) : Touches L s (enterRoadLights side t) := by
  simp only [List.cons_subset, List.nil_subset, and_true] at hL
  unfold enterRoadLights
  (repeat' split) <;> simp (maxDischargeDepth := 40) [*]

@[simp] theorem evaluateRoadLights_touches {L : List Block} {s t : State}
    (hL : [.fault] ⊆ L)
    (h : Touches L s t) : Touches L s (evaluateRoadLights t) := by
  simp only [List.cons_subset, List.nil_subset, and_true] at hL
  unfold evaluateRoadLights
  simp (maxDischargeDepth := 40) [*]

@[simp] theorem endLampFaults_touches {L : List Block} {s t : State}
    (hL : [.fault] ⊆ L)
    (h : Touches L s t) : Touches L s (endLampFaults t) := by
  simp only [List.cons_subset, List.nil_subset, and_true] at hL
  unfold endLampFaults
  simp (maxDischargeDepth := 40) [*]

@[simp] theorem putLamp_touches {L : List Block} {s t : State} (l : Nat) (r : LampRecord)
    (hL : [.lamp] ⊆ L)
    (h : Touches L s t) : Touches L s (putLamp l r t) := by
  simp only [List.cons_subset, List.nil_subset, and_true] at hL
  unfold putLamp
  simp (maxDischargeDepth := 40) [*]

@[simp] theorem unproveRedLamps_touches {L : List Block} {s t : State}
    (hL : [.lamp, .fault] ⊆ L)
    (h : Touches L s t) : Touches L s (unproveRedLamps t) := by
  simp only [List.cons_subset, List.nil_subset, and_true] at hL
  unfold unproveRedLamps
  simp (maxDischargeDepth := 40) [*]

@[simp] theorem redBegins_touches {L : List Block} {s t : State}
    (hL : [.lamp] ⊆ L)
    (h : Touches L s t) : Touches L s (redBegins t) := by
  simp only [List.cons_subset, List.nil_subset, and_true] at hL
  unfold redBegins
  simp (maxDischargeDepth := 40) [*]

@[simp] theorem lampsOnSeqState_touches {L : List Block} {s t : State}
    (hL : [.portA, .portB, .cmd, .fault, .queue .command] ⊆ L)
    (h : Touches L s t) : Touches L s (lampsOnSeqState t) := by
  simp only [List.cons_subset, List.nil_subset, and_true] at hL
  unfold lampsOnSeqState
  simp (maxDischargeDepth := 40) [*]

@[simp] theorem enterLampFailed_touches {L : List Block} {s t : State} (l v : Nat) (was now : LampRecord)
    (hL : [.fault] ⊆ L)
    (h : Touches L s t) : Touches L s (enterLampFailed l v was now t) := by
  simp only [List.cons_subset, List.nil_subset, and_true] at hL
  unfold enterLampFailed
  (repeat' split) <;> simp (maxDischargeDepth := 40) [*]

@[simp] theorem enterLampStuck_touches {L : List Block} {s t : State} (l v : Nat) (was now : LampRecord)
    (hL : [.fault] ⊆ L)
    (h : Touches L s t) : Touches L s (enterLampStuck l v was now t) := by
  simp only [List.cons_subset, List.nil_subset, and_true] at hL
  unfold enterLampStuck
  (repeat' split) <;> simp (maxDischargeDepth := 40) [*]

@[simp] theorem judgeLamp_touches {L : List Block} {s t : State} (l : Nat) (k : SampleKind) (v : Nat)
    (hL : [.lamp, .fault] ⊆ L)
    (h : Touches L s t) : Touches L s (judgeLamp l k v t) := by
  simp only [List.cons_subset, List.nil_subset, and_true] at hL
  unfold judgeLamp
  dsimp only
  (repeat' split) <;> simp (maxDischargeDepth := 40) [*]

@[simp] theorem judgeChannel_touches {L : List Block} {s t : State} (j c : Nat) (ch : ChannelReport)
    (hL : [.lamp, .fault] ⊆ L)
    (h : Touches L s t) : Touches L s (judgeChannel j c ch t) := by
  simp only [List.cons_subset, List.nil_subset, and_true] at hL
  unfold judgeChannel
  (repeat' split) <;> simp (maxDischargeDepth := 40) [*]

@[simp] theorem judgeChannels_touches {L : List Block} {s t : State} (j : Nat) (l : List ChannelReport)
    (i : Nat)
    (hL : [.lamp, .fault] ⊆ L)
    (h : Touches L s t) : Touches L s (judgeChannels j l i t) := by
  simp only [List.cons_subset, List.nil_subset, and_true] at hL
  induction l generalizing t i with
  | nil => exact h
  | cons x xs ih => exact ih _ (by simp (maxDischargeDepth := 40) [*])

@[simp] theorem lampModuleHeard_touches {L : List Block} {s t : State} (j timeout : Nat)
    (hL : [.lamp, .fault] ⊆ L)
    (h : Touches L s t) : Touches L s (lampModuleHeard j timeout t) := by
  simp only [List.cons_subset, List.nil_subset, and_true] at hL
  unfold lampModuleHeard
  dsimp only
  simp (maxDischargeDepth := 40) [*]

@[simp] theorem countRedReport_touches {L : List Block} {s t : State} (j : Nat)
    (hL : [.lamp] ⊆ L)
    (h : Touches L s t) : Touches L s (countRedReport j t) := by
  simp only [List.cons_subset, List.nil_subset, and_true] at hL
  unfold countRedReport
  simp (maxDischargeDepth := 40) [*]

@[simp] theorem takeLampReport_touches {L : List Block} {s t : State} (j m : Nat) (chs : List ChannelReport)
    (hL : [.lamp, .fault] ⊆ L)
    (h : Touches L s t) : Touches L s (takeLampReport j m chs t) := by
  simp only [List.cons_subset, List.nil_subset, and_true] at hL
  unfold takeLampReport
  simp (maxDischargeDepth := 40) [*]

@[simp] theorem silenceLampModule_touches {L : List Block} {s t : State} (j m : Nat)
    (hL : [.lamp, .fault] ⊆ L)
    (h : Touches L s t) : Touches L s (silenceLampModule j m t) := by
  simp only [List.cons_subset, List.nil_subset, and_true] at hL
  unfold silenceLampModule
  dsimp only
  simp (maxDischargeDepth := 40) [*]

@[simp] theorem lampModuleSilence_touches {L : List Block} {s t : State} (j : Nat)
    (hL : [.lamp, .fault] ⊆ L)
    (h : Touches L s t) : Touches L s (lampModuleSilence j t) := by
  simp only [List.cons_subset, List.nil_subset, and_true] at hL
  unfold lampModuleSilence
  simp (maxDischargeDepth := 40) [*]

@[simp] theorem putBarrier_touches {L : List Block} {s t : State} (b : Nat) (r : BarrierRecord)
    (hL : [.barrier] ⊆ L)
    (h : Touches L s t) : Touches L s (putBarrier b r t) := by
  simp only [List.cons_subset, List.nil_subset, and_true] at hL
  unfold putBarrier
  simp (maxDischargeDepth := 40) [*]

@[simp] theorem endBarrierFaults_touches {L : List Block} {s t : State}
    (hL : [.fault] ⊆ L)
    (h : Touches L s t) : Touches L s (endBarrierFaults t) := by
  simp only [List.cons_subset, List.nil_subset, and_true] at hL
  unfold endBarrierFaults
  simp (maxDischargeDepth := 40) [*]

@[simp] theorem enterNotThere_touches {L : List Block} {s t : State} (b : Nat) (was now : BarrierRecord)
    (hL : [.fault] ⊆ L)
    (h : Touches L s t) : Touches L s (enterNotThere b was now t) := by
  simp only [List.cons_subset, List.nil_subset, and_true] at hL
  unfold enterNotThere
  (repeat' split) <;> simp (maxDischargeDepth := 40) [*]

@[simp] theorem changeBarrier_touches {L : List Block} {s t : State} (b : Nat) (was now : BarrierRecord)
    (hL : [.barrier, .fault] ⊆ L)
    (h : Touches L s t) : Touches L s (changeBarrier b was now t) := by
  simp only [List.cons_subset, List.nil_subset, and_true] at hL
  unfold changeBarrier
  simp (maxDischargeDepth := 40) [*]

@[simp] theorem giveCommand_touches {L : List Block} {s t : State} (c : BarrierCommand) (b : Nat)
    (hL : [.portA, .portB, .barrier, .cmd, .fault, .queue .command] ⊆ L)
    (h : Touches L s t) : Touches L s (giveCommand c b t) := by
  simp only [List.cons_subset, List.nil_subset, and_true] at hL
  unfold giveCommand
  (repeat' split) <;> simp (maxDischargeDepth := 40) [*]

@[simp] theorem giveCommands_touches {L : List Block} {s t : State} (c : BarrierCommand) (l : List Nat)
    (hL : [.portA, .portB, .barrier, .cmd, .fault, .queue .command] ⊆ L)
    (h : Touches L s t) : Touches L s (giveCommands c l t) := by
  simp only [List.cons_subset, List.nil_subset, and_true] at hL
  induction l generalizing t with
  | nil => exact h
  | cons x xs ih => exact ih (by simp (maxDischargeDepth := 40) [*])

@[simp] theorem evaluateProof_touches {L : List Block} {s t : State}
    (hL : [.barrier] ⊆ L)
    (h : Touches L s t) : Touches L s (evaluateProof t) := by
  simp only [List.cons_subset, List.nil_subset, and_true] at hL
  unfold evaluateProof
  simp (maxDischargeDepth := 40) [*]

@[simp] theorem barrierModuleHeard_touches {L : List Block} {s t : State} (j timeout : Nat)
    (hL : [.barrier, .fault] ⊆ L)
    (h : Touches L s t) : Touches L s (barrierModuleHeard j timeout t) := by
  simp only [List.cons_subset, List.nil_subset, and_true] at hL
  unfold barrierModuleHeard
  dsimp only
  simp (maxDischargeDepth := 40) [*]

@[simp] theorem takeBarrierReport_touches {L : List Block} {s t : State} (j m : Nat)
    (pos : BarrierPosition) (echo : Option BarrierCommand)
    (hL : [.barrier, .fault] ⊆ L)
    (h : Touches L s t) : Touches L s (takeBarrierReport j m pos echo t) := by
  simp only [List.cons_subset, List.nil_subset, and_true] at hL
  unfold takeBarrierReport
  dsimp only
  (repeat' split) <;> simp (maxDischargeDepth := 40) [*]

@[simp] theorem expireProof_touches {L : List Block} {s t : State} (b : Nat)
    (hL : [.barrier, .fault] ⊆ L)
    (h : Touches L s t) : Touches L s (expireProof b t) := by
  simp only [List.cons_subset, List.nil_subset, and_true] at hL
  unfold expireProof
  (repeat' split) <;> simp (maxDischargeDepth := 40) [*]

@[simp] theorem silenceBarrier_touches {L : List Block} {s t : State} (b : Nat)
    (hL : [.barrier, .fault] ⊆ L)
    (h : Touches L s t) : Touches L s (silenceBarrier b t) := by
  simp only [List.cons_subset, List.nil_subset, and_true] at hL
  unfold silenceBarrier
  (repeat' split) <;> simp (maxDischargeDepth := 40) [*]

@[simp] theorem barrierModuleSilence_touches {L : List Block} {s t : State} (j : Nat)
    (hL : [.barrier, .fault] ⊆ L)
    (h : Touches L s t) : Touches L s (barrierModuleSilence j t) := by
  simp only [List.cons_subset, List.nil_subset, and_true] at hL
  unfold barrierModuleSilence
  dsimp only
  (repeat' split) <;> simp (maxDischargeDepth := 40) [*]

@[simp] theorem holdBarrier_touches {L : List Block} {s t : State} (b : Nat)
    (hL : [.barrier] ⊆ L)
    (h : Touches L s t) : Touches L s (holdBarrier b t) := by
  simp only [List.cons_subset, List.nil_subset, and_true] at hL
  unfold holdBarrier
  (repeat' split) <;> simp (maxDischargeDepth := 40) [*]

@[simp] theorem holdBarriers_touches {L : List Block} {s t : State} (l : List Nat)
    (hL : [.barrier] ⊆ L)
    (h : Touches L s t) : Touches L s (holdBarriers l t) := by
  simp only [List.cons_subset, List.nil_subset, and_true] at hL
  induction l generalizing t with
  | nil => exact h
  | cons x xs ih => exact ih (by simp (maxDischargeDepth := 40) [*])

@[simp] theorem startExitHold_touches {L : List Block} {s t : State}
    (hL : [.portA, .portB, .barrier, .cmd, .fault, .queue .command] ⊆ L)
    (h : Touches L s t) : Touches L s (startExitHold t) := by
  simp only [List.cons_subset, List.nil_subset, and_true] at hL
  unfold startExitHold
  (repeat' split) <;> simp (maxDischargeDepth := 40) [*]

@[simp] theorem endObstructed_touches {L : List Block} {s t : State}
    (hL : [.fault] ⊆ L)
    (h : Touches L s t) : Touches L s (endObstructed t) := by
  simp only [List.cons_subset, List.nil_subset, and_true] at hL
  unfold endObstructed
  simp (maxDischargeDepth := 40) [*]

@[simp] theorem releaseBarrier_touches {L : List Block} {s t : State} (b : Nat)
    (hL : [.portA, .portB, .barrier, .cmd, .fault, .queue .command] ⊆ L)
    (h : Touches L s t) : Touches L s (releaseBarrier b t) := by
  simp only [List.cons_subset, List.nil_subset, and_true] at hL
  unfold releaseBarrier
  (repeat' split) <;> simp (maxDischargeDepth := 40) [*]

@[simp] theorem releaseBarriers_touches {L : List Block} {s t : State} (l : List Nat)
    (hL : [.portA, .portB, .barrier, .cmd, .fault, .queue .command] ⊆ L)
    (h : Touches L s t) : Touches L s (releaseBarriers l t) := by
  simp only [List.cons_subset, List.nil_subset, and_true] at hL
  induction l generalizing t with
  | nil => exact h
  | cons x xs ih => exact ih (by simp (maxDischargeDepth := 40) [*])

@[simp] theorem takeBackBarrier_touches {L : List Block} {s t : State} (b : Nat)
    (hL : [.portA, .portB, .barrier, .cmd, .fault, .queue .command] ⊆ L)
    (h : Touches L s t) : Touches L s (takeBackBarrier b t) := by
  simp only [List.cons_subset, List.nil_subset, and_true] at hL
  unfold takeBackBarrier
  (repeat' split) <;> simp (maxDischargeDepth := 40) [*]

@[simp] theorem takeBackBarriers_touches {L : List Block} {s t : State} (l : List Nat)
    (hL : [.portA, .portB, .barrier, .cmd, .fault, .queue .command] ⊆ L)
    (h : Touches L s t) : Touches L s (takeBackBarriers l t) := by
  simp only [List.cons_subset, List.nil_subset, and_true] at hL
  induction l generalizing t with
  | nil => exact h
  | cons x xs ih => exact ih (by simp (maxDischargeDepth := 40) [*])

@[simp] theorem occupancyChanged_touches {L : List Block} {s t : State} (was : Bool)
    (hL : [.portA, .portB, .barrier, .cmd, .fault, .queue .command] ⊆ L)
    (h : Touches L s t) : Touches L s (occupancyChanged was t) := by
  simp only [List.cons_subset, List.nil_subset, and_true] at hL
  unfold occupancyChanged
  (repeat' split) <;> simp (maxDischargeDepth := 40) [*]

@[simp] theorem presenceModuleHeard_touches {L : List Block} {s t : State} (j timeout : Nat) (v : Presence)
    (hL : [.barrier, .fault] ⊆ L)
    (h : Touches L s t) : Touches L s (presenceModuleHeard j timeout v t) := by
  simp only [List.cons_subset, List.nil_subset, and_true] at hL
  unfold presenceModuleHeard
  dsimp only
  simp (maxDischargeDepth := 40) [*]

@[simp] theorem takePresenceReport_touches {L : List Block} {s t : State} (j m : Nat) (v : Presence)
    (hL : [.portA, .portB, .barrier, .cmd, .fault, .queue .command] ⊆ L)
    (h : Touches L s t) : Touches L s (takePresenceReport j m v t) := by
  simp only [List.cons_subset, List.nil_subset, and_true] at hL
  unfold takePresenceReport
  simp (maxDischargeDepth := 40) [*]

@[simp] theorem presenceModuleSilence_touches {L : List Block} {s t : State} (j : Nat)
    (hL : [.portA, .portB, .barrier, .cmd, .fault, .queue .command] ⊆ L)
    (h : Touches L s t) : Touches L s (presenceModuleSilence j t) := by
  simp only [List.cons_subset, List.nil_subset, and_true] at hL
  unfold presenceModuleSilence
  dsimp only
  simp (maxDischargeDepth := 40) [*]

@[simp] theorem expireExitWait_touches {L : List Block} {s t : State} (b : Nat)
    (hL : [.barrier, .fault] ⊆ L)
    (h : Touches L s t) : Touches L s (expireExitWait b t) := by
  simp only [List.cons_subset, List.nil_subset, and_true] at hL
  unfold expireExitWait
  (repeat' split) <;> simp (maxDischargeDepth := 40) [*]

@[simp] theorem clearOverflow_touches {L : List Block} {s t : State}
    (hL : [.tracker] ⊆ L)
    (h : Touches L s t) : Touches L s (clearOverflow t) := by
  simp only [List.cons_subset, List.nil_subset, and_true] at hL
  unfold clearOverflow
  simp (maxDischargeDepth := 40) [*]

@[simp] theorem warnUnsupervised_touches {L : List Block} {s t : State}
    (hL : [.tracker] ⊆ L)
    (h : Touches L s t) : Touches L s (warnUnsupervised t) := by
  simp only [List.cons_subset, List.nil_subset, and_true] at hL
  unfold warnUnsupervised
  simp (maxDischargeDepth := 40) [*]

@[simp] theorem enterState_touches {L : List Block} {s t : State} (st : SeqState)
    (hL : [.portA, .portB, .seq, .cmd, .fault, .queue .command] ⊆ L)
    (h : Touches L s t) : Touches L s (enterState st t) := by
  simp only [List.cons_subset, List.nil_subset, and_true] at hL
  unfold enterState
  simp (maxDischargeDepth := 40) [*]

@[simp] theorem setOnset_touches {L : List Block} {s t : State}
    (hL : [.seq, .lamp, .fault] ⊆ L)
    (h : Touches L s t) : Touches L s (setOnset t) := by
  simp only [List.cons_subset, List.nil_subset, and_true] at hL
  unfold setOnset
  simp (maxDischargeDepth := 40) [*]

@[simp] theorem enterAmber_touches {L : List Block} {s t : State}
    (hL : [.portA, .portB, .seq, .lamp, .cmd, .fault, .queue .command] ⊆ L)
    (h : Touches L s t) : Touches L s (enterAmber t) := by
  simp only [List.cons_subset, List.nil_subset, and_true] at hL
  unfold enterAmber
  dsimp only
  simp (maxDischargeDepth := 40) [*]

@[simp] theorem enterRedFlash_touches {L : List Block} {s t : State}
    (hL : [.portA, .portB, .seq, .lamp, .cmd, .fault, .queue .command] ⊆ L)
    (h : Touches L s t) : Touches L s (enterRedFlash t) := by
  simp only [List.cons_subset, List.nil_subset, and_true] at hL
  unfold enterRedFlash
  dsimp only
  simp (maxDischargeDepth := 40) [*]

@[simp] theorem enterOpen_touches {L : List Block} {s t : State}
    (hL : [.portA, .portB, .seq, .cmd, .fault, .queue .command] ⊆ L)
    (h : Touches L s t) : Touches L s (enterOpen t) := by
  simp only [List.cons_subset, List.nil_subset, and_true] at hL
  unfold enterOpen
  simp (maxDischargeDepth := 40) [*]

@[simp] theorem checkRaised_touches {L : List Block} {s t : State}
    (hL : [.portA, .portB, .seq, .cmd, .fault, .queue .command] ⊆ L)
    (h : Touches L s t) : Touches L s (checkRaised t) := by
  simp only [List.cons_subset, List.nil_subset, and_true] at hL
  unfold checkRaised
  (repeat' split) <;> simp (maxDischargeDepth := 40) [*]

@[simp] theorem clearProlonged_touches {L : List Block} {s t : State}
    (hL : [.seq, .fault] ⊆ L)
    (h : Touches L s t) : Touches L s (clearProlonged t) := by
  simp only [List.cons_subset, List.nil_subset, and_true] at hL
  unfold clearProlonged
  simp (maxDischargeDepth := 40) [*]

@[simp] theorem enterRaising_touches {L : List Block} {s t : State}
    (hL : [.portA, .portB, .seq, .barrier, .cmd, .fault, .queue .command] ⊆ L)
    (h : Touches L s t) : Touches L s (enterRaising t) := by
  simp only [List.cons_subset, List.nil_subset, and_true] at hL
  unfold enterRaising
  dsimp only
  simp (maxDischargeDepth := 40) [*]

@[simp] theorem reopenDecision_touches {L : List Block} {s t : State}
    (hL : [.portA, .portB, .seq, .barrier, .cmd, .fault, .queue .command] ⊆ L)
    (h : Touches L s t) : Touches L s (reopenDecision t) := by
  simp only [List.cons_subset, List.nil_subset, and_true] at hL
  unfold reopenDecision
  (repeat' split) <;> simp (maxDischargeDepth := 40) [*]

@[simp] theorem enterClosed_touches {L : List Block} {s t : State}
    (hL : [.portA, .portB, .seq, .barrier, .cmd, .fault, .queue .command] ⊆ L)
    (h : Touches L s t) : Touches L s (enterClosed t) := by
  simp only [List.cons_subset, List.nil_subset, and_true] at hL
  unfold enterClosed
  dsimp only
  (repeat' split) <;> simp (maxDischargeDepth := 40) [*]

@[simp] theorem checkExitLowered_touches {L : List Block} {s t : State}
    (hL : [.portA, .portB, .seq, .barrier, .cmd, .fault, .queue .command] ⊆ L)
    (h : Touches L s t) : Touches L s (checkExitLowered t) := by
  simp only [List.cons_subset, List.nil_subset, and_true] at hL
  unfold checkExitLowered
  (repeat' split) <;> simp (maxDischargeDepth := 40) [*]

@[simp] theorem startExitLowering_touches {L : List Block} {s t : State}
    (hL : [.portA, .portB, .seq, .barrier, .cmd, .fault, .queue .command] ⊆ L)
    (h : Touches L s t) : Touches L s (startExitLowering t) := by
  simp only [List.cons_subset, List.nil_subset, and_true] at hL
  unfold startExitLowering
  simp (maxDischargeDepth := 40) [*]

@[simp] theorem enterExitLowering_touches {L : List Block} {s t : State}
    (hL : [.portA, .portB, .seq, .barrier, .cmd, .fault, .queue .command] ⊆ L)
    (h : Touches L s t) : Touches L s (enterExitLowering t) := by
  simp only [List.cons_subset, List.nil_subset, and_true] at hL
  unfold enterExitLowering
  dsimp only
  (repeat' split) <;> simp (maxDischargeDepth := 40) [*]

@[simp] theorem checkEntryLowered_touches {L : List Block} {s t : State}
    (hL : [.portA, .portB, .seq, .barrier, .cmd, .fault, .queue .command] ⊆ L)
    (h : Touches L s t) : Touches L s (checkEntryLowered t) := by
  simp only [List.cons_subset, List.nil_subset, and_true] at hL
  unfold checkEntryLowered
  (repeat' split) <;> simp (maxDischargeDepth := 40) [*]

@[simp] theorem enterEntryLowering_touches {L : List Block} {s t : State}
    (hL : [.portA, .portB, .seq, .barrier, .cmd, .fault, .queue .command] ⊆ L)
    (h : Touches L s t) : Touches L s (enterEntryLowering t) := by
  simp only [List.cons_subset, List.nil_subset, and_true] at hL
  unfold enterEntryLowering
  simp (maxDischargeDepth := 40) [*]

@[simp] theorem leaveRedFlash_touches {L : List Block} {s t : State}
    (hL : [.portA, .portB, .seq, .barrier, .cmd, .fault, .queue .command] ⊆ L)
    (h : Touches L s t) : Touches L s (leaveRedFlash t) := by
  simp only [List.cons_subset, List.nil_subset, and_true] at hL
  unfold leaveRedFlash
  simp (maxDischargeDepth := 40) [*]

@[simp] theorem relower_touches {L : List Block} {s t : State}
    (hL : [.portA, .portB, .seq, .lamp, .barrier, .cmd, .fault, .queue .command] ⊆ L)
    (h : Touches L s t) : Touches L s (relower t) := by
  simp only [List.cons_subset, List.nil_subset, and_true] at hL
  unfold relower
  simp (maxDischargeDepth := 40) [*]

@[simp] theorem checkProlonged_touches {L : List Block} {s t : State}
    (hL : [.seq, .fault] ⊆ L)
    (h : Touches L s t) : Touches L s (checkProlonged t) := by
  simp only [List.cons_subset, List.nil_subset, and_true] at hL
  unfold checkProlonged
  (repeat' split) <;> simp (maxDischargeDepth := 40) [*]

@[simp] theorem actOnDemand_touches {L : List Block} {s t : State}
    (hL : [.portA, .portB, .seq, .lamp, .barrier, .cmd, .fault, .queue .command] ⊆ L)
    (h : Touches L s t) : Touches L s (actOnDemand t) := by
  simp only [List.cons_subset, List.nil_subset, and_true] at hL
  unfold actOnDemand
  (repeat' split) <;> simp (maxDischargeDepth := 40) [*]

@[simp] theorem react_touches {L : List Block} {s t : State}
    (hL : [.portA, .portB, .tracker, .seq, .lamp, .barrier, .cmd, .fault,
      .queue .command] ⊆ L)
    (h : Touches L s t) : Touches L s (react t) := by
  simp only [List.cons_subset, List.nil_subset, and_true] at hL
  unfold react
  simp (maxDischargeDepth := 40) [*]

@[simp] theorem barrierResolved_touches {L : List Block} {s t : State}
    (hL : [.portA, .portB, .seq, .barrier, .cmd, .fault, .queue .command] ⊆ L)
    (h : Touches L s t) : Touches L s (barrierResolved t) := by
  simp only [List.cons_subset, List.nil_subset, and_true] at hL
  unfold barrierResolved
  (repeat' split) <;> simp (maxDischargeDepth := 40) [*]

@[simp] theorem tellEndedProofs_touches {L : List Block} {s t : State} (before : State)
    (hL : [.portA, .portB, .seq, .barrier, .cmd, .fault, .queue .command] ⊆ L)
    (h : Touches L s t) : Touches L s (tellEndedProofs before t) := by
  simp only [List.cons_subset, List.nil_subset, and_true] at hL
  unfold tellEndedProofs
  (repeat' split) <;> simp (maxDischargeDepth := 40) [*]

@[simp] theorem leaveInitSafe_touches {L : List Block} {s t : State}
    (hL : [.portA, .portB, .seq, .lamp, .barrier, .cmd, .fault, .queue .command] ⊆ L)
    (h : Touches L s t) : Touches L s (leaveInitSafe t) := by
  simp only [List.cons_subset, List.nil_subset, and_true] at hL
  unfold leaveInitSafe
  dsimp only
  simp (maxDischargeDepth := 40) [*]

@[simp] theorem longClosureReached_touches {L : List Block} {s t : State}
    (hL : [.seq, .fault] ⊆ L)
    (h : Touches L s t) : Touches L s (longClosureReached t) := by
  simp only [List.cons_subset, List.nil_subset, and_true] at hL
  unfold longClosureReached
  dsimp only
  (repeat' split) <;> simp (maxDischargeDepth := 40) [*]

@[simp] theorem statusDue_touches {L : List Block} {s t : State}
    (hL : [.portA, .portB, .queue .status] ⊆ L)
    (h : Touches L s t) : Touches L s (statusDue t) := by
  unfold statusDue
  dsimp only
  split
  · exact h
  · split
    · exact State.setPort_setQueue_touches t.signallerPort .status _ hL h
    · exact joinQueue_touches _ _ _ _ hL h

@[simp] theorem finish_touches {L : List Block} {s t : State} (before : State) (due : Bool)
    (hL : [.portA, .portB, .queue .status] ⊆ L)
    (h : Touches L s t) : Touches L s (finish before due t) := by
  simp only [List.cons_subset, List.nil_subset, and_true] at hL
  unfold finish
  (repeat' split) <;> simp (maxDischargeDepth := 40) [*]

@[simp] theorem handPassageReport_touches {L : List Block} {s t : State} (o : PassageOutcome)
    (r : TrainRecord)
    (hL : [.portA, .portB, .fault, .queue .status] ⊆ L)
    (h : Touches L s t) : Touches L s (handPassageReport o r t) := by
  simp only [List.cons_subset, List.nil_subset, and_true] at hL
  unfold handPassageReport
  dsimp only
  (repeat' split) <;> simp (maxDischargeDepth := 40) [*]

@[simp] theorem speedStages_touches {L : List Block} {s t : State} (w : WheelPassage) (creation : Bool)
    (r : TrainRecord)
    (hL : [.fault] ⊆ L)
    (h : Touches L s t) : Touches L s (speedStages w creation r t).2 := by
  simp only [List.cons_subset, List.nil_subset, and_true] at hL
  unfold speedStages
  dsimp only
  (repeat' split) <;> simp (maxDischargeDepth := 40) [*]

@[simp] theorem judgePredicted_touches {L : List Block} {s t : State} (tPass : Time) (tWorst : Nat)
    (r : TrainRecord)
    (hL : [.fault] ⊆ L)
    (h : Touches L s t) : Touches L s (judgePredicted tPass tWorst r t).2 := by
  simp only [List.cons_subset, List.nil_subset, and_true] at hL
  unfold judgePredicted
  dsimp only
  (repeat' split) <;> simp (maxDischargeDepth := 40) [*]

@[simp] theorem scheduleCall_touches {L : List Block} {s t : State} (w : WheelPassage) (creation : Bool)
    (r : TrainRecord)
    (hL : [.fault] ⊆ L)
    (h : Touches L s t) : Touches L s (scheduleCall w creation r t).2 := by
  simp only [List.cons_subset, List.nil_subset, and_true] at hL
  unfold scheduleCall
  dsimp only
  simp (maxDischargeDepth := 40) [*]

@[simp] theorem checkCall_touches {L : List Block} {s t : State} (w : WheelPassage) (r : TrainRecord)
    (hL : [.fault] ⊆ L)
    (h : Touches L s t) : Touches L s (checkCall w r t).2 := by
  simp only [List.cons_subset, List.nil_subset, and_true] at hL
  unfold checkCall
  simp (maxDischargeDepth := 40) [*]

@[simp] theorem judgeAchieved_touches {L : List Block} {s t : State} (achieved : Nat) (r : TrainRecord)
    (hL : [.fault] ⊆ L)
    (h : Touches L s t) : Touches L s (judgeAchieved achieved r t).2 := by
  simp only [List.cons_subset, List.nil_subset, and_true] at hL
  unfold judgeAchieved
  dsimp only
  (repeat' split) <;> simp (maxDischargeDepth := 40) [*]

@[simp] theorem islandCall_touches {L : List Block} {s t : State} (w : WheelPassage) (creation : Bool)
    (r : TrainRecord)
    (hL : [.fault] ⊆ L)
    (h : Touches L s t) : Touches L s (islandCall w creation r t).2 := by
  simp only [List.cons_subset, List.nil_subset, and_true] at hL
  unfold islandCall
  dsimp only
  (repeat' split) <;> simp (maxDischargeDepth := 40) [*]

@[simp] theorem putRecord_touches {L : List Block} {s t : State} (i : Nat) (r : TrainRecord)
    (hL : [.tracker] ⊆ L)
    (h : Touches L s t) : Touches L s (putRecord i r t) := by
  simp only [List.cons_subset, List.nil_subset, and_true] at hL
  unfold putRecord
  simp (maxDischargeDepth := 40) [*]

@[simp] theorem checkRetirement_touches {L : List Block} {s t : State} (i : Nat)
    (hL : [.portA, .portB, .tracker, .fault, .queue .status] ⊆ L)
    (h : Touches L s t) : Touches L s (checkRetirement i t) := by
  simp only [List.cons_subset, List.nil_subset, and_true] at hL
  unfold checkRetirement
  dsimp only
  (repeat' split) <;> simp (maxDischargeDepth := 40) [*]

@[simp] theorem setOverflow_touches {L : List Block} {s t : State} (a detail : Nat)
    (hL : [.tracker, .fault] ⊆ L)
    (h : Touches L s t) : Touches L s (setOverflow a detail t) := by
  simp only [List.cons_subset, List.nil_subset, and_true] at hL
  unfold setOverflow
  (repeat' split) <;> simp (maxDischargeDepth := 40) [*]

@[simp] theorem creationCall_touches {L : List Block} {s t : State} (w : WheelPassage) (r : TrainRecord)
    (hL : [.fault] ⊆ L)
    (h : Touches L s t) : Touches L s (creationCall w r t).2 := by
  simp only [List.cons_subset, List.nil_subset, and_true] at hL
  unfold creationCall
  (repeat' split) <;> simp (maxDischargeDepth := 40) [*]

@[simp] theorem createRecord_touches {L : List Block} {s t : State} (a : Nat) (w : WheelPassage)
    (hL : [.tracker, .fault] ⊆ L)
    (h : Touches L s t) : Touches L s (createRecord a w t) := by
  simp only [List.cons_subset, List.nil_subset, and_true] at hL
  unfold createRecord
  dsimp only
  simp (maxDischargeDepth := 40) [*]

@[simp] theorem joinRecord_touches {L : List Block} {s t : State} (i : Nat) (r : TrainRecord)
    (w : WheelPassage)
    (hL : [.tracker] ⊆ L)
    (h : Touches L s t) : Touches L s (joinRecord i r w t) := by
  simp only [List.cons_subset, List.nil_subset, and_true] at hL
  unfold joinRecord
  simp (maxDischargeDepth := 40) [*]

@[simp] theorem mergeRecord_touches {L : List Block} {s t : State} (i : Nat) (r : TrainRecord)
    (w : WheelPassage)
    (hL : [.tracker, .fault] ⊆ L)
    (h : Touches L s t) : Touches L s (mergeRecord i r w t) := by
  simp only [List.cons_subset, List.nil_subset, and_true] at hL
  unfold mergeRecord
  dsimp only
  (repeat' split) <;> simp (maxDischargeDepth := 40) [*]

@[simp] theorem strikeIn_touches {L : List Block} {s t : State} (a : Nat) (w : WheelPassage)
    (hL : [.tracker, .fault] ⊆ L)
    (h : Touches L s t) : Touches L s (strikeIn a w t).1 := by
  simp only [List.cons_subset, List.nil_subset, and_true] at hL
  unfold strikeIn
  (repeat' split) <;> simp (maxDischargeDepth := 40) [*]

@[simp] theorem headCall_touches {L : List Block} {s t : State} (w : WheelPassage) (k ke : Nat)
    (r : TrainRecord)
    (hL : [.fault] ⊆ L)
    (h : Touches L s t) : Touches L s (headCall w k ke r t).2 := by
  simp only [List.cons_subset, List.nil_subset, and_true] at hL
  unfold headCall
  (repeat' split) <;> simp (maxDischargeDepth := 40) [*]

@[simp] theorem headPassage_touches {L : List Block} {s t : State} (w : WheelPassage) (k ke : Nat)
    (r : TrainRecord)
    (hL : [.fault] ⊆ L)
    (h : Touches L s t) : Touches L s (headPassage w k ke r t).2 := by
  simp only [List.cons_subset, List.nil_subset, and_true] at hL
  unfold headPassage
  dsimp only
  simp (maxDischargeDepth := 40) [*]

@[simp] theorem takeInward_touches {L : List Block} {s t : State} (i k : Nat) (w : WheelPassage)
    (hL : [.portA, .portB, .tracker, .fault, .queue .status] ⊆ L)
    (h : Touches L s t) : Touches L s (takeInward i k w t) := by
  simp only [List.cons_subset, List.nil_subset, and_true] at hL
  unfold takeInward
  dsimp only
  (repeat' split) <;> simp (maxDischargeDepth := 40) [*]

@[simp] theorem innerWheel_touches {L : List Block} {s t : State} (a k : Nat) (w : WheelPassage)
    (hL : [.portA, .portB, .tracker, .fault, .queue .status] ⊆ L)
    (h : Touches L s t) : Touches L s (innerWheel a k w t).1 := by
  simp only [List.cons_subset, List.nil_subset, and_true] at hL
  unfold innerWheel
  (repeat' split) <;> simp (maxDischargeDepth := 40) [*]

@[simp] theorem takeOutward_touches {L : List Block} {s t : State} (i k : Nat)
    (hL : [.portA, .portB, .tracker, .fault, .queue .status] ⊆ L)
    (h : Touches L s t) : Touches L s (takeOutward i k t) := by
  simp only [List.cons_subset, List.nil_subset, and_true] at hL
  unfold takeOutward
  (repeat' split) <;> simp (maxDischargeDepth := 40) [*]

@[simp] theorem outwardWheel_touches {L : List Block} {s t : State} (a k : Nat)
    (hL : [.portA, .portB, .tracker, .fault, .queue .status] ⊆ L)
    (h : Touches L s t) : Touches L s (outwardWheel a k t).1 := by
  simp only [List.cons_subset, List.nil_subset, and_true] at hL
  unfold outwardWheel
  (repeat' split) <;> simp (maxDischargeDepth := 40) [*]

@[simp] theorem unattributed_touches {L : List Block} {s t : State} (w : WheelPassage)
    (hL : [.fault] ⊆ L)
    (h : Touches L s t) : Touches L s (unattributed w t) := by
  simp only [List.cons_subset, List.nil_subset, and_true] at hL
  unfold unattributed
  (repeat' split) <;> simp (maxDischargeDepth := 40) [*]

@[simp] theorem offerOutward_touches {L : List Block} {s t : State} (w : WheelPassage)
    (hL : [.portA, .portB, .tracker, .fault, .queue .status] ⊆ L)
    (h : Touches L s t) : Touches L s (offerOutward w t) := by
  simp only [List.cons_subset, List.nil_subset, and_true] at hL
  unfold offerOutward
  dsimp only
  (repeat' split) <;> simp (maxDischargeDepth := 40) [*]

@[simp] theorem attributeWheel_touches {L : List Block} {s t : State} (w : WheelPassage)
    (hL : [.portA, .portB, .tracker, .fault, .queue .status] ⊆ L)
    (h : Touches L s t) : Touches L s (attributeWheel w t) := by
  simp only [List.cons_subset, List.nil_subset, and_true] at hL
  unfold attributeWheel
  dsimp only
  (repeat' split) <;> simp (maxDischargeDepth := 40) [*]

@[simp] theorem trackWheel_touches {L : List Block} {s t : State} (w : WheelPassage)
    (hL : [.portA, .portB, .tracker, .seq, .lamp, .barrier, .cmd, .fault,
      .queue .command, .queue .status] ⊆ L)
    (h : Touches L s t) : Touches L s (trackWheel w t) := by
  simp only [List.cons_subset, List.nil_subset, and_true] at hL
  unfold trackWheel
  simp (maxDischargeDepth := 40) [*]

@[simp] theorem closeEntry_touches {L : List Block} {s t : State} (i : Nat)
    (hL : [.portA, .portB, .tracker, .seq, .lamp, .barrier, .cmd, .fault,
      .queue .command, .queue .status] ⊆ L)
    (h : Touches L s t) : Touches L s (closeEntry i t) := by
  simp only [List.cons_subset, List.nil_subset, and_true] at hL
  unfold closeEntry
  (repeat' split) <;> simp (maxDischargeDepth := 40) [*]

@[simp] theorem startReached_touches {L : List Block} {s t : State} (i : Nat)
    (hL : [.portA, .portB, .tracker, .seq, .lamp, .barrier, .cmd, .fault,
      .queue .command] ⊆ L)
    (h : Touches L s t) : Touches L s (startReached i t) := by
  simp only [List.cons_subset, List.nil_subset, and_true] at hL
  unfold startReached
  (repeat' split) <;> simp (maxDischargeDepth := 40) [*]

@[simp] theorem changeSection_touches {L : List Block} {s t : State} (trk n : Nat)
    (f : TrackSection → TrackSection)
    (hL : [.axle] ⊆ L)
    (h : Touches L s t) : Touches L s (changeSection trk n f t) := by
  simp only [List.cons_subset, List.nil_subset, and_true] at hL
  unfold changeSection
  simp (maxDischargeDepth := 40) [*]

@[simp] theorem disturbSections_touches {L : List Block} {s t : State} (trk : Nat) (l : List Nat)
    (hL : [.axle] ⊆ L)
    (h : Touches L s t) : Touches L s (disturbSections trk l t) := by
  simp only [List.cons_subset, List.nil_subset, and_true] at hL
  induction l generalizing t with
  | nil => exact h
  | cons x xs ih => exact ih (by simp (maxDischargeDepth := 40) [*])

@[simp] theorem disturbAdjacent_touches {L : List Block} {s t : State} (d : Nat)
    (hL : [.axle] ⊆ L)
    (h : Touches L s t) : Touches L s (disturbAdjacent d t) := by
  simp only [List.cons_subset, List.nil_subset, and_true] at hL
  unfold disturbAdjacent
  simp (maxDischargeDepth := 40) [*]

@[simp] theorem countOut_touches {L : List Block} {s t : State} (d : Nat) (n : Option Nat)
    (hL : [.axle, .fault] ⊆ L)
    (h : Touches L s t) : Touches L s (countOut d n t) := by
  simp only [List.cons_subset, List.nil_subset, and_true] at hL
  unfold countOut
  dsimp only
  (repeat' split) <;> simp (maxDischargeDepth := 40) [*]

@[simp] theorem countIn_touches {L : List Block} {s t : State} (d : Nat) (n : Option Nat)
    (hL : [.axle, .fault] ⊆ L)
    (h : Touches L s t) : Touches L s (countIn d n t) := by
  simp only [List.cons_subset, List.nil_subset, and_true] at hL
  unfold countIn
  dsimp only
  (repeat' split) <;> simp (maxDischargeDepth := 40) [*]

@[simp] theorem moveAxle_touches {L : List Block} {s t : State} (d : Nat) (dir : Direction)
    (hL : [.axle, .fault] ⊆ L)
    (h : Touches L s t) : Touches L s (moveAxle d dir t) := by
  simp only [List.cons_subset, List.nil_subset, and_true] at hL
  unfold moveAxle
  simp (maxDischargeDepth := 40) [*]

@[simp] theorem putDetector_touches {L : List Block} {s t : State} (d : Nat) (r : DetectorRecord)
    (hL : [.axle] ⊆ L)
    (h : Touches L s t) : Touches L s (putDetector d r t) := by
  simp only [List.cons_subset, List.nil_subset, and_true] at hL
  unfold putDetector
  simp (maxDischargeDepth := 40) [*]

@[simp] theorem endDetectorFaults_touches {L : List Block} {s t : State}
    (hL : [.fault, .queue .command] ⊆ L)
    (h : Touches L s t) : Touches L s (endDetectorFaults t) := by
  simp only [List.cons_subset, List.nil_subset, and_true] at hL
  unfold endDetectorFaults
  simp (maxDischargeDepth := 40) [*]

@[simp] theorem enterDetectorFault_touches {L : List Block} {s t : State} (d : Nat) (c : DetectorCause)
    (hL : [.fault] ⊆ L)
    (h : Touches L s t) : Touches L s (enterDetectorFault d c t) := by
  simp only [List.cons_subset, List.nil_subset, and_true] at hL
  unfold enterDetectorFault
  (repeat' split) <;> simp (maxDischargeDepth := 40) [*]

@[simp] theorem failDetector_touches {L : List Block} {s t : State} (d : Nat) (c : DetectorCause)
    (r : DetectorRecord)
    (hL : [.portA, .portB, .axle, .tracker, .seq, .lamp, .barrier, .cmd, .fault,
      .queue .command] ⊆ L)
    (h : Touches L s t) : Touches L s (failDetector d c r t) := by
  simp only [List.cons_subset, List.nil_subset, and_true] at hL
  unfold failDetector
  dsimp only
  (repeat' split) <;> simp (maxDischargeDepth := 40) [*]

@[simp] theorem passDetector_touches {L : List Block} {s t : State} (d : Nat) (r : DetectorRecord)
    (hL : [.portA, .portB, .axle, .tracker, .seq, .lamp, .barrier, .cmd, .fault,
      .queue .command] ⊆ L)
    (h : Touches L s t) : Touches L s (passDetector d r t) := by
  simp only [List.cons_subset, List.nil_subset, and_true] at hL
  unfold passDetector
  simp (maxDischargeDepth := 40) [*]

@[simp] theorem sequenceGap_touches {L : List Block} {s t : State} (d : Nat) (x y : Byte)
    (hL : [.portA, .portB, .axle, .tracker, .seq, .lamp, .barrier, .cmd, .fault,
      .queue .command] ⊆ L)
    (h : Touches L s t) : Touches L s (sequenceGap d x y t) := by
  simp only [List.cons_subset, List.nil_subset, and_true] at hL
  unfold sequenceGap
  simp (maxDischargeDepth := 40) [*]

@[simp] theorem gapEffect_touches {L : List Block} {s t : State} (d : Nat) (gap : Option Byte) (y : Byte)
    (hL : [.portA, .portB, .axle, .tracker, .seq, .lamp, .barrier, .cmd, .fault,
      .queue .command] ⊆ L)
    (h : Touches L s t) : Touches L s (gapEffect d gap y t) := by
  simp only [List.cons_subset, List.nil_subset, and_true] at hL
  unfold gapEffect
  (repeat' split) <;> simp (maxDischargeDepth := 40) [*]

@[simp] theorem moveWheel_touches {L : List Block} {s t : State} (d : Nat) (dir : Direction)
    (hL : [.portA, .portB, .axle, .tracker, .seq, .lamp, .barrier, .cmd, .fault,
      .queue .command] ⊆ L)
    (h : Touches L s t) : Touches L s (moveWheel d dir t) := by
  simp only [List.cons_subset, List.nil_subset, and_true] at hL
  unfold moveWheel
  simp (maxDischargeDepth := 40) [*]

/-- What the axle counter changes before it hands a wheel to the train tracker. -/
@[simp] theorem countWheel_touches {L : List Block} {s t : State} (d : Nat) (r : DetectorRecord)
    (o i : Nat) (q : Byte)
    (hL : [.portA, .portB, .axle, .tracker, .seq, .lamp, .barrier, .cmd, .fault,
      .queue .command] ⊆ L)
    (h : Touches L s t) : Touches L s (countWheel d r o i q t).2 := by
  simp only [List.cons_subset, List.nil_subset, and_true] at hL
  unfold countWheel
  dsimp only
  simp (maxDischargeDepth := 40) [*]

@[simp] theorem takeWheel_touches {L : List Block} {s t : State} (d : Nat) (r : DetectorRecord)
    (o i : Nat) (q : Byte)
    (hL : [.portA, .portB, .axle, .tracker, .seq, .lamp, .barrier, .cmd, .fault,
      .queue .command, .queue .status] ⊆ L)
    (h : Touches L s t) : Touches L s (takeWheel d r o i q t) := by
  simp only [List.cons_subset, List.nil_subset, and_true] at hL
  unfold takeWheel
  dsimp only
  simp (maxDischargeDepth := 40) [*]

@[simp] theorem takeHeartbeat_touches {L : List Block} {s t : State} (d : Nat) (r : DetectorRecord)
    (q : Byte) (good : Bool)
    (hL : [.portA, .portB, .axle, .tracker, .seq, .lamp, .barrier, .cmd, .fault,
      .queue .command] ⊆ L)
    (h : Touches L s t) : Touches L s (takeHeartbeat d r q good t) := by
  simp only [List.cons_subset, List.nil_subset, and_true] at hL
  unfold takeHeartbeat
  dsimp only
  (repeat' split) <;> simp (maxDischargeDepth := 40) [*]

@[simp] theorem detectorSilent_touches {L : List Block} {s t : State} (d : Nat) (r : DetectorRecord)
    (hL : [.portA, .portB, .axle, .tracker, .seq, .lamp, .barrier, .cmd, .fault,
      .queue .command] ⊆ L)
    (h : Touches L s t) : Touches L s (detectorSilent d r t) := by
  simp only [List.cons_subset, List.nil_subset, and_true] at hL
  unfold detectorSilent
  simp (maxDischargeDepth := 40) [*]

@[simp] theorem wheelReport_touches {L : List Block} {s t : State} (d : Nat) (payload : List Byte)
    (hL : [.portA, .portB, .axle, .tracker, .seq, .lamp, .barrier, .cmd, .fault,
      .queue .command, .queue .status] ⊆ L)
    (h : Touches L s t) : Touches L s (wheelReport d payload t) := by
  simp only [List.cons_subset, List.nil_subset, and_true] at hL
  unfold wheelReport
  (repeat' split) <;> simp (maxDischargeDepth := 40) [*]

@[simp] theorem heartbeatReport_touches {L : List Block} {s t : State} (d : Nat) (payload : List Byte)
    (hL : [.portA, .portB, .axle, .tracker, .seq, .lamp, .barrier, .cmd, .fault,
      .queue .command] ⊆ L)
    (h : Touches L s t) : Touches L s (heartbeatReport d payload t) := by
  simp only [List.cons_subset, List.nil_subset, and_true] at hL
  unfold heartbeatReport
  (repeat' split) <;> simp (maxDischargeDepth := 40) [*]

@[simp] theorem restoreSection_touches {L : List Block} {s t : State} (trk n : Nat) (st : SectionState)
    (hL : [.axle] ⊆ L)
    (h : Touches L s t) : Touches L s (restoreSection trk n st t) := by
  simp only [List.cons_subset, List.nil_subset, and_true] at hL
  unfold restoreSection
  simp (maxDischargeDepth := 40) [*]

@[simp] theorem restoreSweepAccepted_touches {L : List Block} {s t : State} (trk n : Nat)
    (hL : [.portA, .portB, .axle, .tracker, .seq, .lamp, .barrier, .cmd, .fault,
      .queue .command] ⊆ L)
    (h : Touches L s t) : Touches L s (restoreSweepAccepted trk n t) := by
  simp only [List.cons_subset, List.nil_subset, and_true] at hL
  unfold restoreSweepAccepted
  simp (maxDischargeDepth := 40) [*]

@[simp] theorem restoreDirectAccepted_touches {L : List Block} {s t : State} (trk n : Nat)
    (hL : [.portA, .portB, .axle, .tracker, .seq, .lamp, .barrier, .cmd, .fault,
      .queue .command] ⊆ L)
    (h : Touches L s t) : Touches L s (restoreDirectAccepted trk n t) := by
  simp only [List.cons_subset, List.nil_subset, and_true] at hL
  unfold restoreDirectAccepted
  simp (maxDischargeDepth := 40) [*]

@[simp] theorem restoreAccepted_touches {L : List Block} {s t : State} (m : RestoreMode) (trk n : Nat)
    (hL : [.portA, .portB, .axle, .tracker, .seq, .lamp, .barrier, .cmd, .fault,
      .queue .command] ⊆ L)
    (h : Touches L s t) : Touches L s (restoreAccepted m trk n t) := by
  simp only [List.cons_subset, List.nil_subset, and_true] at hL
  unfold restoreAccepted
  (repeat' split) <;> simp (maxDischargeDepth := 40) [*]

@[simp] theorem formSlots_touches {L : List Block} {s t : State}
    (hL : [.portA, .portB, .cmd, .queue .command] ⊆ L)
    (h : Touches L s t) : Touches L s (formSlots t) := by
  simp only [List.cons_subset, List.nil_subset, and_true] at hL
  unfold formSlots
  simp (maxDischargeDepth := 40) [*]

@[simp] theorem endFaults_touches {L : List Block} {s t : State} (l : List FaultClass)
    (hL : [.fault] ⊆ L)
    (h : Touches L s t) : Touches L s (endFaults l t) := by
  simp only [List.cons_subset, List.nil_subset, and_true] at hL
  induction l generalizing t with
  | nil => exact h
  | cons x xs ih => exact ih (by simp (maxDischargeDepth := 40) [*])

@[simp] theorem discardRecords_touches {L : List Block} {s t : State}
    (hL : [.tracker] ⊆ L)
    (h : Touches L s t) : Touches L s (discardRecords t) := by
  simp only [List.cons_subset, List.nil_subset, and_true] at hL
  unfold discardRecords
  simp (maxDischargeDepth := 40) [*]

@[simp] theorem stopBlock_touches {L : List Block} {s t : State}
    (hL : [.portA, .portB, .cmd, .queue .command] ⊆ L)
    (h : Touches L s t) : Touches L s (stopBlock t) := by
  simp only [List.cons_subset, List.nil_subset, and_true] at hL
  unfold stopBlock
  simp (maxDischargeDepth := 40) [*]

@[simp] theorem reinitialise_touches {L : List Block} {s t : State} (st : SeqState) (l : List TrackSection)
    (hL : [.portA, .portB, .axle, .tracker, .seq, .lamp, .barrier, .cmd, .fault,
      .queue .command, .statusPeriod] ⊆ L)
    (h : Touches L s t) : Touches L s (reinitialise st l t) := by
  simp only [List.cons_subset, List.nil_subset, and_true] at hL
  unfold reinitialise
  dsimp only
  simp (maxDischargeDepth := 40) [*, State.setFault_touches_all]

@[simp] theorem reinitialiseEmpty_touches {L : List Block} {s t : State}
    (hL : [.portA, .portB, .axle, .tracker, .seq, .lamp, .barrier, .cmd, .fault,
      .queue .command, .statusPeriod] ⊆ L)
    (h : Touches L s t) : Touches L s (reinitialiseEmpty t) := by
  simp only [List.cons_subset, List.nil_subset, and_true] at hL
  unfold reinitialiseEmpty
  dsimp only
  simp (maxDischargeDepth := 40) [*, State.setFault_touches_all]

@[simp] theorem cancelActivation_touches {L : List Block} {s t : State}
    (hL : [.config] ⊆ L)
    (h : Touches L s t) : Touches L s (cancelActivation t) := by
  simp only [List.cons_subset, List.nil_subset, and_true] at hL
  unfold cancelActivation
  simp (maxDischargeDepth := 40) [*]

@[simp] theorem sequenceAfterActivation_touches {L : List Block} {s t : State}
    (hL : [.portA, .portB, .seq, .lamp, .barrier, .cmd, .fault, .queue .command] ⊆ L)
    (h : Touches L s t) : Touches L s (sequenceAfterActivation t) := by
  simp only [List.cons_subset, List.nil_subset, and_true] at hL
  unfold sequenceAfterActivation
  (repeat' split) <;> simp (maxDischargeDepth := 40) [*]

@[simp] theorem takeEffect_touches {L : List Block} {s t : State} (identity crc : Word)
    (hL : [.portA, .portB, .axle, .tracker, .seq, .lamp, .barrier, .cmd, .fault,
      .config, .queue .command, .statusPeriod] ⊆ L)
    (h : Touches L s t) : Touches L s (takeEffect identity crc t) := by
  simp only [List.cons_subset, List.nil_subset, and_true] at hL
  unfold takeEffect
  dsimp only
  simp (maxDischargeDepth := 40) [*]

@[simp] theorem activateIfQuiescent_touches {L : List Block} {s t : State}
    (hL : [.portA, .portB, .axle, .tracker, .seq, .lamp, .barrier, .cmd, .fault,
      .config, .queue .command, .statusPeriod] ⊆ L)
    (h : Touches L s t) : Touches L s (activateIfQuiescent t) := by
  simp only [List.cons_subset, List.nil_subset, and_true] at hL
  unfold activateIfQuiescent
  (repeat' split) <;> simp (maxDischargeDepth := 40) [*]

@[simp] theorem finishProof_touches {L : List Block} {s t : State} (before : State) (due : Bool)
    (hL : [.portA, .portB, .barrier, .queue .status] ⊆ L)
    (h : Touches L s t) : Touches L s (finishProof before due t) := by
  simp only [List.cons_subset, List.nil_subset, and_true] at hL
  unfold finishProof
  simp (maxDischargeDepth := 40) [*]

@[simp] theorem settleDue_touches {L : List Block} {s t : State} (before : State) (due : Bool)
    (hL : [.portA, .portB, .axle, .tracker, .seq, .lamp, .barrier, .cmd, .fault,
      .config, .queue .command, .queue .status, .statusPeriod] ⊆ L)
    (h : Touches L s t) : Touches L s (settleDue before due t) := by
  simp only [List.cons_subset, List.nil_subset, and_true] at hL
  unfold settleDue
  simp (maxDischargeDepth := 40) [*]

@[simp] theorem settle_touches {L : List Block} {s t : State} (before : State)
    (hL : [.portA, .portB, .axle, .tracker, .seq, .lamp, .barrier, .cmd, .fault,
      .config, .queue .command, .queue .status, .statusPeriod] ⊆ L)
    (h : Touches L s t) : Touches L s (settle before t) :=
  settleDue_touches before false hL h

@[simp] theorem restartKept_touches {L : List Block} {s t : State}
    (hL : [.portA, .portB, .axle, .tracker, .seq, .lamp, .barrier, .cmd, .fault,
      .queue .command, .statusPeriod] ⊆ L)
    (h : Touches L s t) : Touches L s (restartKept t) := by
  simp only [List.cons_subset, List.nil_subset, and_true] at hL
  unfold restartKept
  dsimp only
  simp (maxDischargeDepth := 40) [*]

@[simp] theorem removeStatus_touches {L : List Block} {s t : State}
    (hL : [.portA, .portB, .queue .status] ⊆ L)
    (h : Touches L s t) : Touches L s (removeStatus t) := by
  unfold removeStatus
  have h1 := State.setPort_setQueue_touches .a .status (t.portA.status.filter fun e => !entryIsStatus e) hL h
  exact State.setPort_setQueue_touches .b .status (t.portB.status.filter fun e => !entryIsStatus e) hL h1

@[simp] theorem emptySafety_touches {L : List Block} {s t : State}
    (hL : [.config] ⊆ L)
    (h : Touches L s t) : Touches L s (emptySafety t) := by
  simp only [List.cons_subset, List.nil_subset, and_true] at hL
  unfold emptySafety
  simp (maxDischargeDepth := 40) [*]

@[simp] theorem restartEmptied_touches {L : List Block} {s t : State} (code : Nat)
    (hL : [.portA, .portB, .axle, .tracker, .seq, .lamp, .barrier, .cmd, .fault,
      .config, .queue .command, .queue .status, .statusPeriod] ⊆ L)
    (h : Touches L s t) : Touches L s (restartEmptied code t) := by
  simp only [List.cons_subset, List.nil_subset, and_true] at hL
  unfold restartEmptied
  simp (maxDischargeDepth := 40) [*]

@[simp] theorem restartKeepAccepted_touches {L : List Block} {s t : State}
    (hL : [.portA, .portB, .axle, .tracker, .seq, .lamp, .barrier, .cmd, .fault,
      .config, .queue .command, .queue .status, .statusPeriod] ⊆ L)
    (h : Touches L s t) : Touches L s (restartKeepAccepted t) := by
  simp only [List.cons_subset, List.nil_subset, and_true] at hL
  unfold restartKeepAccepted
  (repeat' split) <;> simp (maxDischargeDepth := 40) [*]

@[simp] theorem restartDiscardAccepted_touches {L : List Block} {s t : State}
    (hL : [.portA, .portB, .axle, .tracker, .seq, .lamp, .barrier, .cmd, .fault,
      .config, .queue .command, .queue .status, .statusPeriod] ⊆ L)
    (h : Touches L s t) : Touches L s (restartDiscardAccepted t) := by
  simp only [List.cons_subset, List.nil_subset, and_true] at hL
  unfold restartDiscardAccepted
  simp (maxDischargeDepth := 40) [*]

@[simp] theorem forgetStrangers_touches {L : List Block} {s t : State} (x : BitVec 24)
    (hL : [.window] ⊆ L)
    (h : Touches L s t) : Touches L s (forgetStrangers x t) := by
  simp only [List.cons_subset, List.nil_subset, and_true] at hL
  unfold forgetStrangers
  (repeat' split) <;> simp (maxDischargeDepth := 40) [*]

@[simp] theorem acknowledgeFlags_touches {L : List Block} {s t : State} (x : BitVec 24)
    (hL : [.window, .fault] ⊆ L)
    (h : Touches L s t) : Touches L s (acknowledgeFlags x t) := by
  simp only [List.cons_subset, List.nil_subset, and_true] at hL
  unfold acknowledgeFlags
  dsimp only
  simp (maxDischargeDepth := 40) [*]

@[simp] theorem answerAcknowledge_touches {L : List Block} {s t : State} (a : Arrival) (payload : List Byte)
    (hL : [.portA, .portB, .window, .fault, .queue .reply] ⊆ L)
    (h : Touches L s t) : Touches L s (answerAcknowledge a payload t) := by
  simp only [List.cons_subset, List.nil_subset, and_true] at hL
  unfold answerAcknowledge
  dsimp only
  (repeat' split) <;> simp (maxDischargeDepth := 40) [*]

@[simp] theorem restoreEffect_touches {L : List Block} {s t : State} (reason : Option Reason)
    (mode : Option RestoreMode) (trk n : Nat)
    (hL : [.portA, .portB, .axle, .tracker, .seq, .lamp, .barrier, .cmd, .fault,
      .queue .command] ⊆ L)
    (h : Touches L s t) : Touches L s (restoreEffect reason mode trk n t) := by
  simp only [List.cons_subset, List.nil_subset, and_true] at hL
  unfold restoreEffect
  (repeat' split) <;> simp (maxDischargeDepth := 40) [*]

@[simp] theorem answerRestore_touches {L : List Block} {s t : State} (a : Arrival) (payload : List Byte)
    (hL : [.portA, .portB, .axle, .tracker, .seq, .lamp, .barrier, .cmd, .fault,
      .queue .command, .queue .reply] ⊆ L)
    (h : Touches L s t) : Touches L s (answerRestore a payload t) := by
  simp only [List.cons_subset, List.nil_subset, and_true] at hL
  unfold answerRestore
  dsimp only
  (repeat' split) <;> simp (maxDischargeDepth := 40) [*]

@[simp] theorem answerHistoryRead_touches {L : List Block} {s t : State} (a : Arrival) (payload : List Byte)
    (hL : [.portA, .portB, .queue .reply] ⊆ L)
    (h : Touches L s t) : Touches L s (answerHistoryRead a payload t) := by
  simp only [List.cons_subset, List.nil_subset, and_true] at hL
  unfold answerHistoryRead
  (repeat' split) <;> simp (maxDischargeDepth := 40) [*]

@[simp] theorem answerIdentify_touches {L : List Block} {s t : State} (a : Arrival) (payload : List Byte)
    (hL : [.portA, .portB, .queue .reply] ⊆ L)
    (h : Touches L s t) : Touches L s (answerIdentify a payload t) := by
  simp only [List.cons_subset, List.nil_subset, and_true] at hL
  unfold answerIdentify
  (repeat' split) <;> simp (maxDischargeDepth := 40) [*]

@[simp] theorem confirmEffect_touches {L : List Block} {s t : State} (reason : Option Reason)
    (hL : [.portA, .portB, .axle, .tracker, .seq, .lamp, .barrier, .cmd, .fault,
      .config, .queue .command, .statusPeriod] ⊆ L)
    (h : Touches L s t) : Touches L s (confirmEffect reason t) := by
  simp only [List.cons_subset, List.nil_subset, and_true] at hL
  unfold confirmEffect
  (repeat' split) <;> simp (maxDischargeDepth := 40) [*]

@[simp] theorem answerConfirm_touches {L : List Block} {s t : State} (a : Arrival) (payload : List Byte)
    (hL : [.portA, .portB, .axle, .tracker, .seq, .lamp, .barrier, .cmd, .fault,
      .config, .queue .command, .queue .reply, .statusPeriod] ⊆ L)
    (h : Touches L s t) : Touches L s (answerConfirm a payload t) := by
  simp only [List.cons_subset, List.nil_subset, and_true] at hL
  unfold answerConfirm
  dsimp only
  (repeat' split) <;> simp (maxDischargeDepth := 40) [*]

@[simp] theorem restartEffect_touches {L : List Block} {s t : State} (m : Option RestartMode)
    (hL : [.portA, .portB, .axle, .tracker, .seq, .lamp, .barrier, .cmd, .fault,
      .config, .queue .command, .queue .status, .statusPeriod] ⊆ L)
    (h : Touches L s t) : Touches L s (restartEffect m t) := by
  simp only [List.cons_subset, List.nil_subset, and_true] at hL
  unfold restartEffect
  (repeat' split) <;> simp (maxDischargeDepth := 40) [*]

@[simp] theorem answerRestart_touches {L : List Block} {s t : State} (a : Arrival) (payload : List Byte)
    (hL : [.portA, .portB, .axle, .tracker, .seq, .lamp, .barrier, .cmd, .fault,
      .config, .queue .command, .queue .status, .queue .reply, .statusPeriod] ⊆ L)
    (h : Touches L s t) : Touches L s (answerRestart a payload t) := by
  simp only [List.cons_subset, List.nil_subset, and_true] at hL
  unfold answerRestart
  dsimp only
  (repeat' split) <;> simp (maxDischargeDepth := 40) [*]

@[simp] theorem putStaged_touches {L : List Block} {s t : State} (i : TableId) (x : StagedTable)
    (hL : [.config] ⊆ L)
    (h : Touches L s t) : Touches L s (putStaged i x t) := by
  simp only [List.cons_subset, List.nil_subset, and_true] at hL
  unfold putStaged
  simp (maxDischargeDepth := 40) [*]

@[simp] theorem useFree_touches {L : List Block} {s t : State} (n : Nat)
    (hL : [.freeCounter] ⊆ L)
    (h : Touches L s t) : Touches L s (useFree n t) := by
  simp only [List.cons_subset, List.nil_subset, and_true] at hL
  unfold useFree
  simp (maxDischargeDepth := 40) [*]

@[simp] theorem stageWords_touches {L : List Block} {s t : State} (i : TableId) (start : Nat)
    (ws : List Word)
    (hL : [.config] ⊆ L)
    (h : Touches L s t) : Touches L s (stageWords i start ws t) := by
  simp only [List.cons_subset, List.nil_subset, and_true] at hL
  unfold stageWords
  simp (maxDischargeDepth := 40) [*]

@[simp] theorem stageWriteEffect_touches {L : List Block} {s t : State} (table : Option TableId)
    (start : Nat) (ws : List Word) (reason : Option Reason)
    (hL : [.config] ⊆ L)
    (h : Touches L s t) : Touches L s (stageWriteEffect table start ws reason t) := by
  simp only [List.cons_subset, List.nil_subset, and_true] at hL
  unfold stageWriteEffect
  dsimp only
  (repeat' split) <;> simp (maxDischargeDepth := 40) [*]

@[simp] theorem answerStageWrite_touches {L : List Block} {s t : State} (a : Arrival) (payload : List Byte)
    (hL : [.portA, .portB, .config, .freeCounter, .queue .reply] ⊆ L)
    (h : Touches L s t) : Touches L s (answerStageWrite a payload t) := by
  simp only [List.cons_subset, List.nil_subset, and_true] at hL
  unfold answerStageWrite
  dsimp only
  (repeat' split) <;> simp (maxDischargeDepth := 40) [*]

@[simp] theorem stageReadEffect_touches {L : List Block} {s t : State} (table : Option TableId)
    (start count : Nat) (reason : Option Reason)
    (hL : [.config] ⊆ L)
    (h : Touches L s t) : Touches L s (stageReadEffect table start count reason t) := by
  simp only [List.cons_subset, List.nil_subset, and_true] at hL
  unfold stageReadEffect
  (repeat' split) <;> simp (maxDischargeDepth := 40) [*]

@[simp] theorem answerStageRead_touches {L : List Block} {s t : State} (a : Arrival) (payload : List Byte)
    (hL : [.portA, .portB, .config, .freeCounter, .queue .reply] ⊆ L)
    (h : Touches L s t) : Touches L s (answerStageRead a payload t) := by
  simp only [List.cons_subset, List.nil_subset, and_true] at hL
  unfold answerStageRead
  dsimp only
  (repeat' split) <;> simp (maxDischargeDepth := 40) [*]

@[simp] theorem activateEffect_touches {L : List Block} {s t : State} (identity crc : Word)
    (reason : Option Reason)
    (hL : [.config] ⊆ L)
    (h : Touches L s t) : Touches L s (activateEffect identity crc reason t) := by
  simp only [List.cons_subset, List.nil_subset, and_true] at hL
  unfold activateEffect
  (repeat' split) <;> simp (maxDischargeDepth := 40) [*]

@[simp] theorem answerActivate_touches {L : List Block} {s t : State} (a : Arrival) (payload : List Byte)
    (hL : [.portA, .portB, .config, .queue .reply] ⊆ L)
    (h : Touches L s t) : Touches L s (answerActivate a payload t) := by
  simp only [List.cons_subset, List.nil_subset, and_true] at hL
  unfold answerActivate
  dsimp only
  (repeat' split) <;> simp (maxDischargeDepth := 40) [*]

@[simp] theorem activateLoopEffect_touches {L : List Block} {s t : State} (reason : Option Reason)
    (hL : [.window, .config] ⊆ L)
    (h : Touches L s t) : Touches L s (activateLoopEffect reason t) := by
  simp only [List.cons_subset, List.nil_subset, and_true] at hL
  unfold activateLoopEffect
  (repeat' split) <;> simp (maxDischargeDepth := 40) [*]

@[simp] theorem answerActivateLoop_touches {L : List Block} {s t : State} (a : Arrival)
    (payload : List Byte)
    (hL : [.portA, .portB, .window, .config, .queue .reply] ⊆ L)
    (h : Touches L s t) : Touches L s (answerActivateLoop a payload t) := by
  simp only [List.cons_subset, List.nil_subset, and_true] at hL
  unfold answerActivateLoop
  dsimp only
  (repeat' split) <;> simp (maxDischargeDepth := 40) [*]

@[simp] theorem hearLink_touches {L : List Block} {s t : State} (p : Port)
    (hL : [.portA, .portB, .links] ⊆ L)
    (h : Touches L s t) : Touches L s (hearLink p t) := by
  simp only [List.cons_subset, List.nil_subset, and_true] at hL
  exact State.setPort_touches p _ hL.1 hL.2.1 (fun hl => absurd hL.2.2 hl) (fun c _ => ⟨fun _ => by cases c <;> exact ⟨rfl, rfl⟩, fun hc => by cases c <;> exact hc⟩) h

@[simp] theorem portGoesUp_touches {L : List Block} {s t : State} (p : Port) (before : State)
    (hL : [.portA, .portB, .fault, .queue .status] ⊆ L)
    (h : Touches L s t) : Touches L s (portGoesUp p before t) := by
  simp only [List.cons_subset, List.nil_subset, and_true] at hL
  unfold portGoesUp
  simp (maxDischargeDepth := 40) [*]

@[simp] theorem portHeard_touches {L : List Block} {s t : State} (p : Port)
    (hL : [.portA, .portB, .fault, .links, .queue .status] ⊆ L)
    (h : Touches L s t) : Touches L s (portHeard p t) := by
  simp only [List.cons_subset, List.nil_subset, and_true] at hL
  unfold portHeard
  (repeat' split) <;> simp (maxDischargeDepth := 40) [*]

@[simp] theorem passCopy_touches {L : List Block} {s t : State} (p : Port) (tel : Telegram)
    (hL : [.portA, .portB, .queue .forward] ⊆ L)
    (h : Touches L s t) : Touches L s (passCopy p tel t) := by
  simp only [List.cons_subset, List.nil_subset, and_true] at hL
  unfold passCopy
  (repeat' split) <;> simp (maxDischargeDepth := 40) [*]

@[simp] theorem mismatch_touches {L : List Block} {s t : State} (p : Port) (src : Addr)
    (hL : [.portA, .portB, .fault, .queue .status] ⊆ L)
    (h : Touches L s t) : Touches L s (mismatch p src t) := by
  simp only [List.cons_subset, List.nil_subset, and_true] at hL
  unfold mismatch
  simp (maxDischargeDepth := 40) [*]

@[simp] theorem strangerHeard_touches {L : List Block} {s t : State} (p : Port) (src : Addr)
    (hL : [.portA, .portB, .window, .fault, .queue .status] ⊆ L)
    (h : Touches L s t) : Touches L s (strangerHeard p src t) := by
  simp only [List.cons_subset, List.nil_subset, and_true] at hL
  unfold strangerHeard
  (repeat' split) <;> simp (maxDischargeDepth := 40) [*]

@[simp] theorem takeWheelTelegram_touches {L : List Block} {s t : State} (p : Port) (src : Addr)
    (payload : List Byte)
    (hL : [.portA, .portB, .axle, .tracker, .seq, .lamp, .barrier, .cmd, .fault,
      .config, .queue .command, .queue .status, .statusPeriod] ⊆ L)
    (h : Touches L s t) : Touches L s (takeWheelTelegram p src payload t) := by
  simp only [List.cons_subset, List.nil_subset, and_true] at hL
  unfold takeWheelTelegram
  (repeat' split) <;> simp (maxDischargeDepth := 40) [*]

@[simp] theorem takeHeartbeatTelegram_touches {L : List Block} {s t : State} (p : Port) (src : Addr)
    (payload : List Byte)
    (hL : [.portA, .portB, .axle, .tracker, .seq, .lamp, .barrier, .cmd, .fault,
      .config, .queue .command, .queue .status, .statusPeriod] ⊆ L)
    (h : Touches L s t) : Touches L s (takeHeartbeatTelegram p src payload t) := by
  simp only [List.cons_subset, List.nil_subset, and_true] at hL
  unfold takeHeartbeatTelegram
  (repeat' split) <;> simp (maxDischargeDepth := 40) [*]

@[simp] theorem takeLampTelegram_touches {L : List Block} {s t : State} (p : Port) (src : Addr)
    (payload : List Byte)
    (hL : [.portA, .portB, .lamp, .barrier, .fault, .queue .status] ⊆ L)
    (h : Touches L s t) : Touches L s (takeLampTelegram p src payload t) := by
  simp only [List.cons_subset, List.nil_subset, and_true] at hL
  unfold takeLampTelegram
  (repeat' split) <;> simp (maxDischargeDepth := 40) [*]

@[simp] theorem takeBarrierTelegram_touches {L : List Block} {s t : State} (p : Port) (src : Addr)
    (payload : List Byte)
    (hL : [.portA, .portB, .axle, .tracker, .seq, .lamp, .barrier, .cmd, .fault,
      .config, .queue .command, .queue .status, .statusPeriod] ⊆ L)
    (h : Touches L s t) : Touches L s (takeBarrierTelegram p src payload t) := by
  simp only [List.cons_subset, List.nil_subset, and_true] at hL
  unfold takeBarrierTelegram
  (repeat' split) <;> simp (maxDischargeDepth := 40) [*]

@[simp] theorem takePresenceTelegram_touches {L : List Block} {s t : State} (p : Port) (src : Addr)
    (payload : List Byte)
    (hL : [.portA, .portB, .barrier, .cmd, .fault, .queue .command,
      .queue .status] ⊆ L)
    (h : Touches L s t) : Touches L s (takePresenceTelegram p src payload t) := by
  simp only [List.cons_subset, List.nil_subset, and_true] at hL
  unfold takePresenceTelegram
  (repeat' split) <;> simp (maxDischargeDepth := 40) [*]

@[simp] theorem takeField_touches {L : List Block} {s t : State} (k : FieldKind) (p : Port) (src : Addr)
    (payload : List Byte)
    (hL : [.portA, .portB, .axle, .tracker, .seq, .lamp, .barrier, .cmd, .fault,
      .config, .queue .command, .queue .status, .statusPeriod] ⊆ L)
    (h : Touches L s t) : Touches L s (takeField k p src payload t) := by
  simp only [List.cons_subset, List.nil_subset, and_true] at hL
  unfold takeField
  (repeat' split) <;> simp (maxDischargeDepth := 40) [*]

@[simp] theorem takeRequest_touches {L : List Block} {s t : State} (k : RequestKind) (a : Arrival)
    (payload : List Byte)
    (hL : [.portA, .portB, .window, .axle, .tracker, .seq, .lamp, .barrier, .cmd,
      .fault, .config, .freeCounter, .queue .command, .queue .status, .queue .reply, .statusPeriod] ⊆ L)
    (h : Touches L s t) : Touches L s (takeRequest k a payload t) := by
  simp only [List.cons_subset, List.nil_subset, and_true] at hL
  unfold takeRequest
  (repeat' split) <;> simp (maxDischargeDepth := 40) [*]

@[simp] theorem requestWithRoom_touches {L : List Block} {s t : State} (k : RequestKind) (a : Arrival)
    (payload : List Byte)
    (hL : [.portA, .portB, .window, .axle, .tracker, .seq, .lamp, .barrier, .cmd,
      .fault, .config, .freeCounter, .queue .command, .queue .status, .queue .reply, .statusPeriod] ⊆ L)
    (h : Touches L s t) : Touches L s (requestWithRoom k a payload t) := by
  simp only [List.cons_subset, List.nil_subset, and_true] at hL
  unfold requestWithRoom
  (repeat' split) <;> simp (maxDischargeDepth := 40) [*]

@[simp] theorem consumeField_touches {L : List Block} {s t : State} (p : Port) (tel : Telegram)
    (hL : [.portA, .portB, .window, .axle, .tracker, .seq, .lamp, .barrier, .cmd,
      .fault, .config, .queue .command, .queue .status, .statusPeriod] ⊆ L)
    (h : Touches L s t) : Touches L s (consumeField p tel t) := by
  simp only [List.cons_subset, List.nil_subset, and_true] at hL
  unfold consumeField
  (repeat' split) <;> simp (maxDischargeDepth := 40) [*]

@[simp] theorem consumeRequest_touches {L : List Block} {s t : State} (r : Role) (p : Port) (tel : Telegram)
    (hL : [.portA, .portB, .window, .axle, .tracker, .seq, .lamp, .barrier, .cmd,
      .fault, .config, .freeCounter, .queue .command, .queue .status, .queue .reply, .statusPeriod] ⊆ L)
    (h : Touches L s t) : Touches L s (consumeRequest r p tel t) := by
  simp only [List.cons_subset, List.nil_subset, and_true] at hL
  unfold consumeRequest
  (repeat' split) <;> simp (maxDischargeDepth := 40) [*]

@[simp] theorem consume_touches {L : List Block} {s t : State} (p : Port) (tel : Telegram)
    (role : Option Role)
    (hL : [.portA, .portB, .window, .axle, .tracker, .seq, .lamp, .barrier, .cmd,
      .fault, .config, .freeCounter, .queue .command, .queue .status, .queue .reply, .statusPeriod] ⊆ L)
    (h : Touches L s t) : Touches L s (consume p tel role t) := by
  simp only [List.cons_subset, List.nil_subset, and_true] at hL
  unfold consume
  (repeat' split) <;> simp (maxDischargeDepth := 40) [*]

@[simp] theorem route_touches {L : List Block} {s t : State} (p : Port) (tel : Telegram) (w : Option Window)
    (hL : [.portA, .portB, .window, .axle, .tracker, .seq, .lamp, .barrier, .cmd,
      .fault, .config, .freeCounter, .queue .command, .queue .status, .queue .reply, .queue .forward, .statusPeriod] ⊆ L)
    (h : Touches L s t) : Touches L s (route p tel w t) := by
  simp only [List.cons_subset, List.nil_subset, and_true] at hL
  unfold route
  (repeat' split) <;> simp (maxDischargeDepth := 40) [*]

@[simp] theorem handleGood_touches {L : List Block} {s t : State} (p : Port) (tel : Telegram)
    (hL : [.portA, .portB, .window, .axle, .tracker, .seq, .lamp, .barrier, .cmd,
      .fault, .config, .freeCounter, .queue .command, .queue .status, .queue .reply, .queue .forward, .statusPeriod] ⊆ L)
    (h : Touches L s t) : Touches L s (handleGood p tel t) := by
  simp only [List.cons_subset, List.nil_subset, and_true] at hL
  unfold handleGood
  (repeat' split) <;> simp (maxDischargeDepth := 40) [*]

@[simp] theorem receiveGood_touches {L : List Block} {s t : State} (p : Port) (tel : Telegram)
    (hL : [.portA, .portB, .window, .axle, .tracker, .seq, .lamp, .barrier, .cmd,
      .fault, .config, .freeCounter, .links, .queue .command, .queue .status, .queue .reply, .queue .forward, .statusPeriod] ⊆ L)
    (h : Touches L s t) : Touches L s (receiveGood p tel t) := by
  simp only [List.cons_subset, List.nil_subset, and_true] at hL
  unfold receiveGood
  (repeat' split) <;> simp (maxDischargeDepth := 40) [*]

@[simp] theorem receiveFrame_touches {L : List Block} {s t : State} (p : Port) (frame : List Byte)
    (hL : [.portA, .portB, .window, .axle, .tracker, .seq, .lamp, .barrier, .cmd,
      .fault, .config, .freeCounter, .links, .queue .command, .queue .status, .queue .reply, .queue .forward, .statusPeriod] ⊆ L)
    (h : Touches L s t) : Touches L s (receiveFrame p frame t) := by
  simp only [List.cons_subset, List.nil_subset, and_true] at hL
  unfold receiveFrame
  (repeat' split) <;> simp (maxDischargeDepth := 40) [*]

@[simp] theorem nextStatusPeriod_touches {L : List Block} {s t : State}
    (hL : [.fault, .statusPeriod] ⊆ L)
    (h : Touches L s t) : Touches L s (nextStatusPeriod t) := by
  simp only [List.cons_subset, List.nil_subset, and_true] at hL
  exact State.setFault_touches_all _ hL.1 hL.2 h

@[simp] theorem portGoesDown_touches {L : List Block} {s t : State} (p : Port)
    (hL : [.portA, .portB, .fault, .links, .queue .command, .queue .status,
      .queue .reply, .queue .forward] ⊆ L)
    (h : Touches L s t) : Touches L s (portGoesDown p t) := by
  simp only [List.cons_subset, List.nil_subset, and_true] at hL
  unfold portGoesDown
  have h1 := State.setPort_touches p (portDownState (t.port p)) hL.1 hL.2.1
    (fun hl => absurd hL.2.2.2.1 hl) (fun c hc => by cases c <;> simp_all) h
  exact enterFault_touches _ _ _ (by simp [*]) h1

@[simp] theorem idleReached_touches {L : List Block} {s t : State} (p : Port)
    (hL : [.portA, .portB, .links] ⊆ L)
    (h : Touches L s t) : Touches L s (idleReached p t) := by
  simp only [List.cons_subset, List.nil_subset, and_true] at hL
  refine State.setPort_touches p _ hL.1 hL.2.1 (fun hl => absurd hL.2.2 hl)
    (fun c _ => ⟨fun hb => ?_, fun hc => by cases c <;> exact hc⟩) h
  cases hx : (t.port p).transmitter with
  | none => rw [hx] at hb; cases hb
  | some x => cases c <;> exact ⟨rfl, rfl⟩

@[simp] theorem transmissionDone_touches {L : List Block} {s t : State} (p : Port)
    (hL : [.portA, .portB, .links, .queue .command, .queue .status, .queue .reply,
      .queue .forward] ⊆ L)
    (h : Touches L s t) : Touches L s (transmissionDone p t) := by
  simp only [List.cons_subset, List.nil_subset, and_true] at hL
  exact State.setPort_touches p _ hL.1 hL.2.1 (fun hl => absurd hL.2.2.1 hl) (fun c hc => by cases c <;> simp_all) h

end Sys2Proof.Machine
end

