-- ==== Sys2Proof/Laws/Flags.lean ====
section
/-! SUPPORT. What a fault report does to the flags and the history (R134, R135, R138, R141, R142). -/

namespace Sys2Proof.Machine

/-! ## Classes and sets of classes -/

/-- The classes by number. -/
def classesByNumber : List FaultClass :=
  [.detectorSilent, .detectorHeadFault, .wheelLoss, .countUnderflow, .countOverflow, .unexpectedWheel,
   .trainTableFull, .shortWarning, .longWarning, .overspeed, .prolongedClosure, .redLampFailed,
   .roadLightsFailed, .amberLampFailed, .lampStuckOn, .lampModuleSilent, .barrierNotDown, .barrierNotUp,
   .barrierModuleSilent, .crossingObstructed, .presenceModuleSilent, .portDown, .commandOverrun, .notice]

/-- Each class stands at its number. -/
theorem classesByNumber_number (c : FaultClass) : classesByNumber[c.number]? = some c := by cases c <;> rfl

/-- The number tells the classes apart. -/
theorem FaultClass.number_inj {c d : FaultClass} (h : c.number = d.number) : c = d := by
  have h1 := classesByNumber_number c
  rw [h, classesByNumber_number d] at h1
  exact (Option.some.inj h1).symm

/-- A class number is below 24. -/
theorem FaultClass.number_lt (c : FaultClass) : c.number < 24 := by cases c <;> decide

/-- The set of one class holds that class alone. -/
@[simp] theorem FaultClass.bit_getLsbD (c d : FaultClass) : c.bit.getLsbD d.number = decide (c = d) := by
  have hd := d.number_lt
  unfold FaultClass.bit
  rw [BitVec.getLsbD_shiftLeft]
  by_cases h : c = d
  · subst h; simp [hd]
  · have hn : c.number ≠ d.number := fun hn => h (FaultClass.number_inj hn)
    simp only [hd, decide_true, Bool.true_and, h, decide_false]
    by_cases hlt : d.number < c.number
    · simp [hlt]
    · have h2 : d.number - c.number ≠ 0 := by omega
      simp [hlt, BitVec.getLsbD_one, h2]

/-- A bit of the set of one class. -/
theorem FaultClass.bit_getLsbD_nat (c : FaultClass) (n : Nat) : c.bit.getLsbD n = decide (c.number = n) := by
  have hc := c.number_lt
  unfold FaultClass.bit
  rw [BitVec.getLsbD_shiftLeft]
  by_cases h : c.number = n
  · subst h; simp [hc]
  · by_cases hlt : n < c.number
    · simp [hlt, h]
    · have h2 : n - c.number ≠ 0 := by omega
      simp [hlt, h, BitVec.getLsbD_one, h2]

/-- A class put into a set that holds it. -/
theorem or_bit_of_mem {x : BitVec 24} {c : FaultClass} (h : x.getLsbD c.number = true) : x ||| c.bit = x := by
  apply BitVec.eq_of_getLsbD_eq
  intro i hi
  rw [BitVec.getLsbD_or, c.bit_getLsbD_nat]
  by_cases hc : c.number = i
  · subst hc; simp [h]
  · simp [hc]

/-- A class taken from a set that does not hold it. -/
theorem and_not_bit_of_not_mem {x : BitVec 24} {c : FaultClass} (h : x.getLsbD c.number = false) :
    x &&& ~~~c.bit = x := by
  apply BitVec.eq_of_getLsbD_eq
  intro i hi
  rw [BitVec.getLsbD_and, BitVec.getLsbD_not, c.bit_getLsbD_nat]
  by_cases hc : c.number = i
  · subst hc; simp [h]
  · simp [hc, hi]

/-! ## Operations on the fault unit -/

@[simp] theorem evaluateGroups_active (s : State) : (evaluateGroups s).fault.active = s.fault.active := rfl
@[simp] theorem evaluateGroups_latched (s : State) : (evaluateGroups s).fault.latched = s.fault.latched := rfl
@[simp] theorem evaluateGroups_history (s : State) : (evaluateGroups s).fault.history = s.fault.history := rfl
@[simp] theorem evaluateGroups_nextRecord (s : State) : (evaluateGroups s).fault.nextRecord = s.fault.nextRecord := rfl
@[simp] theorem evaluateGroups_statusExpiry (s : State) :
    (evaluateGroups s).fault.statusExpiry = s.fault.statusExpiry := rfl

@[simp] theorem setFlags_active (x y : BitVec 24) (s : State) : (setFlags x y s).fault.active = x := rfl
@[simp] theorem setFlags_latched (x y : BitVec 24) (s : State) : (setFlags x y s).fault.latched = y := rfl
@[simp] theorem setFlags_history (x y : BitVec 24) (s : State) : (setFlags x y s).fault.history = s.fault.history := rfl
@[simp] theorem setFlags_nextRecord (x y : BitVec 24) (s : State) :
    (setFlags x y s).fault.nextRecord = s.fault.nextRecord := rfl
@[simp] theorem setFlags_statusExpiry (x y : BitVec 24) (s : State) :
    (setFlags x y s).fault.statusExpiry = s.fault.statusExpiry := rfl
@[simp] theorem setFlags_groups (x y : BitVec 24) (s : State) :
    (setFlags x y s).fault.groups = groupsOf s.safetyActive s.crTab x y := rfl

@[simp] theorem capture_active (c : FaultClass) (x y : Nat) (s : State) :
    (capture c x y s).fault.active = s.fault.active := rfl
@[simp] theorem capture_latched (c : FaultClass) (x y : Nat) (s : State) :
    (capture c x y s).fault.latched = s.fault.latched := rfl

/-- A capture puts one record at the end of the history. -/
theorem capture_captured (c : FaultClass) (x y : Nat) (s : State) :
    Captured c (BitVec.ofNat 8 x) (BitVec.ofNat 16 y) s (capture c x y s) :=
  ⟨by simp [capture, pushHistory], rfl⟩

/-- RAISED of an event class: the active set stays, the class is latched. -/
@[simp] theorem raiseFault_active (c : FaultClass) (x y : Nat) (s : State) :
    (raiseFault c x y s).fault.active = s.fault.active := by
  unfold raiseFault; split <;> rfl

@[simp] theorem raiseFault_latched (c : FaultClass) (x y : Nat) (s : State) :
    (raiseFault c x y s).fault.latched = s.fault.latched ||| c.bit := by
  unfold raiseFault
  split
  · rename_i h; exact (or_bit_of_mem h).symm
  · rfl

@[simp] theorem raiseFault_statusExpiry (c : FaultClass) (x y : Nat) (s : State) :
    (raiseFault c x y s).fault.statusExpiry = s.fault.statusExpiry := by
  unfold raiseFault; split <;> rfl

/-- RAISED of a class not latched captures one record. -/
theorem raiseFault_captured {c : FaultClass} {s : State} (x y : Nat) (h : s.fault.isLatched c = false) :
    Captured c (BitVec.ofNat 8 x) (BitVec.ofNat 16 y) s (raiseFault c x y s) := by
  unfold raiseFault; simp only [h]; exact capture_captured c x y s

@[simp] theorem raiseNotice_active (x y : Nat) (s : State) :
    (raiseNotice x y s).fault.active = s.fault.active := rfl
@[simp] theorem raiseNotice_latched (x y : Nat) (s : State) :
    (raiseNotice x y s).fault.latched = s.fault.latched ||| FaultClass.notice.bit := rfl
@[simp] theorem raiseNotice_statusExpiry (x y : Nat) (s : State) :
    (raiseNotice x y s).fault.statusExpiry = s.fault.statusExpiry := rfl

/-- Every NOTICE captures one record. -/
theorem raiseNotice_captured (x y : Nat) (s : State) :
    Captured .notice (BitVec.ofNat 8 x) (BitVec.ofNat 16 y) s (raiseNotice x y s) :=
  capture_captured .notice x y s

/-- ENTERED of a condition class: the class is active. -/
@[simp] theorem enterFault_active (c : FaultClass) (x y : Nat) (s : State) :
    (enterFault c x y s).fault.active = s.fault.active ||| c.bit := by
  unfold enterFault
  split
  · rename_i h; exact (or_bit_of_mem h).symm
  · split <;> rfl

/-- ENTERED of a class not active latches it. -/
theorem enterFault_latched {c : FaultClass} {s : State} (x y : Nat) (h : s.fault.isActive c = false) :
    (enterFault c x y s).fault.latched = s.fault.latched ||| c.bit := by
  unfold enterFault
  simp only [h]
  by_cases hl : s.fault.isLatched c = true
  · simp only [hl, if_true]; exact (or_bit_of_mem hl).symm
  · simp [hl]

@[simp] theorem enterFault_statusExpiry (c : FaultClass) (x y : Nat) (s : State) :
    (enterFault c x y s).fault.statusExpiry = s.fault.statusExpiry := by
  unfold enterFault; (repeat' split) <;> rfl

/-- ENTERED of a class neither active nor latched captures one record. -/
theorem enterFault_captured {c : FaultClass} {s : State} (x y : Nat) (h : s.fault.isActive c = false)
    (hl : s.fault.isLatched c = false) :
    Captured c (BitVec.ofNat 8 x) (BitVec.ofNat 16 y) s (enterFault c x y s) := by
  unfold enterFault; simp only [h, hl]; exact capture_captured c x y s

/-- ENDED: the class is not active. -/
@[simp] theorem endFault_active (c : FaultClass) (s : State) :
    (endFault c s).fault.active = s.fault.active &&& ~~~c.bit := by
  unfold endFault
  split
  · rfl
  · rename_i h; exact (and_not_bit_of_not_mem ((Bool.not_eq_true _).mp h)).symm

@[simp] theorem endFault_latched (c : FaultClass) (s : State) :
    (endFault c s).fault.latched = s.fault.latched := by
  unfold endFault; split <;> rfl
@[simp] theorem endFault_history (c : FaultClass) (s : State) :
    (endFault c s).fault.history = s.fault.history := by
  unfold endFault; split <;> rfl
@[simp] theorem endFault_nextRecord (c : FaultClass) (s : State) :
    (endFault c s).fault.nextRecord = s.fault.nextRecord := by
  unfold endFault; split <;> rfl

@[simp] theorem endFaultUnless_latched (c : FaultClass) (b : Bool) (s : State) :
    (endFaultUnless c b s).fault.latched = s.fault.latched := by
  unfold endFaultUnless; split <;> simp
@[simp] theorem endFaultUnless_history (c : FaultClass) (b : Bool) (s : State) :
    (endFaultUnless c b s).fault.history = s.fault.history := by
  unfold endFaultUnless; split <;> simp
@[simp] theorem endFaultUnless_nextRecord (c : FaultClass) (b : Bool) (s : State) :
    (endFaultUnless c b s).fault.nextRecord = s.fault.nextRecord := by
  unfold endFaultUnless; split <;> simp

/-! ## Flags, class by class -/

@[simp] theorem evaluateGroups_isActive (s : State) (c : FaultClass) :
    (evaluateGroups s).fault.isActive c = s.fault.isActive c := rfl

@[simp] theorem raiseFault_isActive (c d : FaultClass) (x y : Nat) (s : State) :
    (raiseFault c x y s).fault.isActive d = s.fault.isActive d := by simp [FaultUnit.isActive]
@[simp] theorem raiseFault_isLatched (c d : FaultClass) (x y : Nat) (s : State) :
    (raiseFault c x y s).fault.isLatched d = (s.fault.isLatched d || decide (c = d)) := by
  simp [FaultUnit.isLatched]
@[simp] theorem raiseNotice_isActive (d : FaultClass) (x y : Nat) (s : State) :
    (raiseNotice x y s).fault.isActive d = s.fault.isActive d := by simp [FaultUnit.isActive]
@[simp] theorem raiseNotice_isLatched (d : FaultClass) (x y : Nat) (s : State) :
    (raiseNotice x y s).fault.isLatched d = (s.fault.isLatched d || decide (.notice = d)) := by
  simp [FaultUnit.isLatched]
@[simp] theorem enterFault_isActive (c d : FaultClass) (x y : Nat) (s : State) :
    (enterFault c x y s).fault.isActive d = (s.fault.isActive d || decide (c = d)) := by
  simp [FaultUnit.isActive]
@[simp] theorem endFault_isActive (c d : FaultClass) (s : State) :
    (endFault c s).fault.isActive d = (s.fault.isActive d && !decide (c = d)) := by
  simp only [FaultUnit.isActive, endFault_active, BitVec.getLsbD_and, BitVec.getLsbD_not,
    FaultClass.bit_getLsbD, d.number_lt, decide_true, Bool.true_and]
@[simp] theorem endFaultUnless_isActive (c d : FaultClass) (b : Bool) (s : State) :
    (endFaultUnless c b s).fault.isActive d = (s.fault.isActive d && (b || !decide (c = d))) := by
  unfold endFaultUnless; cases b <;> simp

/-- A latched class stays latched through an ENTERED. -/
theorem enterFault_isLatched_mono {c d : FaultClass} {s : State} (x y : Nat) (h : s.fault.isLatched d = true) :
    (enterFault c x y s).fault.isLatched d = true := by
  by_cases ha : s.fault.isActive c = true
  · unfold enterFault; simpa [ha] using h
  · unfold FaultUnit.isLatched at *
    rw [enterFault_latched x y (by simpa using ha), BitVec.getLsbD_or, h]; rfl

@[simp] theorem endFault_isLatched (c d : FaultClass) (s : State) :
    (endFault c s).fault.isLatched d = s.fault.isLatched d := by simp [FaultUnit.isLatched]
@[simp] theorem endFaultUnless_isLatched (c d : FaultClass) (b : Bool) (s : State) :
    (endFaultUnless c b s).fault.isLatched d = s.fault.isLatched d := by simp [FaultUnit.isLatched]

end Sys2Proof.Machine
end

