-- ==== Sys2Proof/Laws/PerInstr.lean ====
section
/-! SUPPORT. The family `Shape`, about every command as syntax: the telegram a well-formed command is the
reception of fits a frame. -/

namespace Sys2Proof.Laws.Shape

open Sys2Proof.Machine

/-- The telegram a well-formed command is the reception of has at most 48 payload bytes, and its port is one of
the two the part has (R154, R180). -/
def Statement (i : Instr) : Prop :=
  ∀ (own : Addr) (p : Port) (t : Telegram), wellFormed i = true → carried own i = some (p, t) →
    t.payload.length ≤ 48 ∧ (p = .a ∨ p = .b)

/-- A command that carries no telegram meets the statement. -/
theorem of_none {i : Instr} (h : ∀ own, carried own i = none) : Statement i := by
  intro own p t _ hc
  simp [h own] at hc

/-- A command that carries one telegram whose payload its well-formedness checks meets the statement. -/
theorem of_some {i : Instr} (f : Addr → Port × Telegram) (h : ∀ own, carried own i = some (f own))
    (hw : wellFormed i = true → ∀ own, (f own).2.payload.length ≤ 48) : Statement i := by
  intro own p t wf hc
  rw [h own, Option.some.injEq] at hc
  have := hw wf own
  rw [hc] at this
  exact ⟨this, by cases p <;> simp⟩

/-- What the payload check says. -/
theorem fits {pl : List Byte} (h : payloadFits pl = true) : pl.length ≤ 48 := of_decide_eq_true h

/-- The first of two checks. -/
theorem and_left {a b : Bool} (h : (a && b) = true) : a = true := (Bool.and_eq_true a b ▸ h).1

theorem hardwareReset (strap : BitVec 12) : Statement (.hardwareReset strap) := of_none fun _ => rfl

theorem discardedTelegram (port : Port) (frame : List Byte) : Statement (.discardedTelegram port frame) := by
  intro own p t wf hc
  simp_all [wellFormed, carried]

theorem fill (at_ : Arrival) (payload : List Byte) : Statement (.fill at_ payload) :=
  of_some _ (fun _ => rfl) fun h _ => fits h

theorem ownTelegramReturned (port : Port) (dst : Addr) (kind : Byte) (payload : List Byte) : Statement (.ownTelegramReturned port dst kind payload) :=
  of_some _ (fun _ => rfl) fun h _ => fits (and_left h)

theorem passedCopy (port : Port) (t : Telegram) : Statement (.passedCopy port t) :=
  of_some _ (fun _ => rfl) fun h _ => fits (and_left h)

theorem roleMismatch (port : Port) (t : Telegram) : Statement (.roleMismatch port t) :=
  of_some _ (fun _ => rfl) fun h _ => fits (and_left h)

theorem wheel (at_ : Arrival) (payload : List Byte) : Statement (.wheel at_ payload) :=
  of_some _ (fun _ => rfl) fun h _ => fits h

theorem heartbeat (at_ : Arrival) (payload : List Byte) : Statement (.heartbeat at_ payload) :=
  of_some _ (fun _ => rfl) fun h _ => fits h

theorem detectorSilenceExpiry (detector : Fin 32) : Statement (.detectorSilenceExpiry detector) := of_none fun _ => rfl

theorem entryGapExpiry (tag : Byte) : Statement (.entryGapExpiry tag) := of_none fun _ => rfl

theorem scheduledStartExpiry (tag : Byte) : Statement (.scheduledStartExpiry tag) := of_none fun _ => rfl

theorem amberExpiry : Statement .amberExpiry := of_none fun _ => rfl

theorem redExpiry : Statement .redExpiry := of_none fun _ => rfl

theorem exitDelayExpiry : Statement .exitDelayExpiry := of_none fun _ => rfl

theorem longClosureExpiry : Statement .longClosureExpiry := of_none fun _ => rfl

theorem lampReport (at_ : Arrival) (payload : List Byte) : Statement (.lampReport at_ payload) :=
  of_some _ (fun _ => rfl) fun h _ => fits h

theorem lampModuleSilenceExpiry (module_ : Fin 4) : Statement (.lampModuleSilenceExpiry module_) := of_none fun _ => rfl

theorem barrierReport (at_ : Arrival) (payload : List Byte) : Statement (.barrierReport at_ payload) :=
  of_some _ (fun _ => rfl) fun h _ => fits h

theorem provingExpiry (barrier : Fin 4) : Statement (.provingExpiry barrier) := of_none fun _ => rfl

theorem barrierModuleSilenceExpiry (module_ : Fin 4) : Statement (.barrierModuleSilenceExpiry module_) := of_none fun _ => rfl

theorem presenceModuleSilenceExpiry (module_ : Fin 2) : Statement (.presenceModuleSilenceExpiry module_) := of_none fun _ => rfl

theorem presenceReport (at_ : Arrival) (payload : List Byte) : Statement (.presenceReport at_ payload) :=
  of_some _ (fun _ => rfl) fun h _ => fits h

theorem exitWaitExpiry (barrier : Fin 4) : Statement (.exitWaitExpiry barrier) := of_none fun _ => rfl

theorem statusPeriodExpiry : Statement .statusPeriodExpiry := of_none fun _ => rfl

theorem acknowledge (at_ : Arrival) (payload : List Byte) : Statement (.acknowledge at_ payload) :=
  of_some _ (fun _ => rfl) fun h _ => fits h

theorem restoreSweep (at_ : Arrival) (payload : List Byte) : Statement (.restoreSweep at_ payload) :=
  of_some _ (fun _ => rfl) fun h _ => fits (and_left h)

theorem restoreDirect (at_ : Arrival) (track section_ : Byte) : Statement (.restoreDirect at_ track section_) :=
  of_some _ (fun _ => rfl) fun _ _ => by simp

theorem historyRead (at_ : Arrival) (payload : List Byte) : Statement (.historyRead at_ payload) :=
  of_some _ (fun _ => rfl) fun h _ => fits h

theorem identify (at_ : Arrival) (payload : List Byte) : Statement (.identify at_ payload) :=
  of_some _ (fun _ => rfl) fun h _ => fits h

theorem restartKeep (at_ : Arrival) (payload : List Byte) : Statement (.restartKeep at_ payload) :=
  of_some _ (fun _ => rfl) fun h _ => fits (and_left h)

theorem restartDiscard (at_ : Arrival) : Statement (.restartDiscard at_) :=
  of_some _ (fun _ => rfl) fun _ _ => by simp

theorem stageWrite (at_ : Arrival) (payload : List Byte) : Statement (.stageWrite at_ payload) :=
  of_some _ (fun _ => rfl) fun h _ => fits h

theorem stageRead (at_ : Arrival) (payload : List Byte) : Statement (.stageRead at_ payload) :=
  of_some _ (fun _ => rfl) fun h _ => fits h

theorem activate (at_ : Arrival) (payload : List Byte) : Statement (.activate at_ payload) :=
  of_some _ (fun _ => rfl) fun h _ => fits h

theorem activateLoop (at_ : Arrival) (payload : List Byte) : Statement (.activateLoop at_ payload) :=
  of_some _ (fun _ => rfl) fun h _ => fits h

theorem confirm (at_ : Arrival) (payload : List Byte) : Statement (.confirm at_ payload) :=
  of_some _ (fun _ => rfl) fun h _ => fits h

theorem activationTakesEffect : Statement .activationTakesEffect := of_none fun _ => rfl

theorem portSilenceExpiry (port : Port) : Statement (.portSilenceExpiry port) := of_none fun _ => rfl

theorem idleExpiry (port : Port) : Statement (.idleExpiry port) := of_none fun _ => rfl

theorem transmissionComplete (port : Port) : Statement (.transmissionComplete port) := of_none fun _ => rfl

theorem refreshExpiry : Statement .refreshExpiry := of_none fun _ => rfl

end Sys2Proof.Laws.Shape
end

