-- ==== Sys2Proof/Laws/Reception.lean ====
section
/-! SUPPORT. What the reception of a good telegram on an UP port comes to (R154 to R161): the port hears, the
telegram is consumed, and a copy may be passed on; and when a wheel replaces a scheduled start (R145). -/

namespace Sys2Proof.Machine

/-! ## The link -/

/-- On an UP port a good telegram sets the silence expiry and nothing else. -/
theorem portHeard_up {p : Port} {s : State} (h : (s.port p).link = .up) : portHeard p s = hearLink p s := by
  unfold portHeard; rw [h]

/-- On a DOWN port a good telegram takes the link UP, with the reports of that. -/
theorem portHeard_down {p : Port} {s : State} (h : (s.port p).link = .down) :
    portHeard p s = portGoesUp p s (hearLink p s) := by
  unfold portHeard; rw [h]

@[simp] theorem hearLink_timebase (p : Port) (s : State) : (hearLink p s).timebase = s.timebase := by cases p <;> rfl
@[simp] theorem hearLink_window (p : Port) (s : State) : (hearLink p s).window = s.window := by cases p <;> rfl
@[simp] theorem hearLink_axle (p : Port) (s : State) : (hearLink p s).axle = s.axle := by cases p <;> rfl
@[simp] theorem hearLink_tracker (p : Port) (s : State) : (hearLink p s).tracker = s.tracker := by cases p <;> rfl
@[simp] theorem hearLink_seq (p : Port) (s : State) : (hearLink p s).seq = s.seq := by cases p <;> rfl
@[simp] theorem hearLink_lamp (p : Port) (s : State) : (hearLink p s).lamp = s.lamp := by cases p <;> rfl
@[simp] theorem hearLink_barrier (p : Port) (s : State) : (hearLink p s).barrier = s.barrier := by cases p <;> rfl
@[simp] theorem hearLink_cmd (p : Port) (s : State) : (hearLink p s).cmd = s.cmd := by cases p <;> rfl
@[simp] theorem hearLink_fault (p : Port) (s : State) : (hearLink p s).fault = s.fault := by cases p <;> rfl
@[simp] theorem hearLink_config (p : Port) (s : State) : (hearLink p s).config = s.config := by cases p <;> rfl
@[simp] theorem hearLink_freeCounter (p : Port) (s : State) : (hearLink p s).freeCounter = s.freeCounter := by cases p <;> rfl
@[simp] theorem hearLink_pending (p : Port) (s : State) : (hearLink p s).pending = s.pending := by cases p <;> rfl

/-- The port heard, after it has heard. -/
@[simp] theorem hearLink_port (p : Port) (s : State) : (hearLink p s).port p =
    { s.port p with
      link := .up
      silence := some (timePlus s.now (tSilenceOf s.loopTab).toNat)
      silenceWith := tSilenceOf s.loopTab } := by cases p <;> rfl

/-- The other port does not hear. -/
@[simp] theorem hearLink_port_other (p : Port) (s : State) : (hearLink p s).port p.other = s.port p.other := by
  cases p <;> rfl

/-- Hearing sets neither queues nor transmitter. -/
theorem hearLink_sending (p q : Port) (s : State) : ((hearLink p s).port q).transmitter = (s.port q).transmitter
    ∧ ∀ c, ((hearLink p s).port q).queue c = (s.port q).queue c := by
  cases p <;> cases q <;> exact ⟨rfl, fun c => by cases c <;> rfl⟩

/-! ## What is read of the tables does not depend on the ports -/

@[simp] theorem hearLink_now (p : Port) (s : State) : (hearLink p s).now = s.now := hearLink_timebase p s
@[simp] theorem hearLink_loopTab (p : Port) (s : State) : (hearLink p s).loopTab = s.loopTab := by cases p <;> rfl
@[simp] theorem hearLink_detTab (p : Port) (s : State) : (hearLink p s).detTab = s.detTab := by cases p <;> rfl
@[simp] theorem hearLink_appTab (p : Port) (s : State) : (hearLink p s).appTab = s.appTab := by cases p <;> rfl
@[simp] theorem hearLink_eqTab (p : Port) (s : State) : (hearLink p s).eqTab = s.eqTab := by cases p <;> rfl
@[simp] theorem hearLink_crTab (p : Port) (s : State) : (hearLink p s).crTab = s.crTab := by cases p <;> rfl
@[simp] theorem hearLink_ownAddress (p : Port) (s : State) : (hearLink p s).ownAddress = s.ownAddress := by cases p <;> rfl

/-! ## Reception -/

/-- A telegram that has been dealt with, and a copy of it passed on where there is one. -/
def withCopy (p : Port) (copy : Option Telegram) (u : State) : State :=
  match copy with
  | none => u
  | some t => passCopy p t u

/-- A copy passed on touches the ports alone. -/
@[simp] theorem withCopy_touches {L : List Block} {s t : State} (p : Port) (copy : Option Telegram)
    (hL : [.portA, .portB, .queue .forward] ⊆ L) (h : Touches L s t) :
    Touches L s (withCopy p copy t) := by
  cases copy with
  | none => exact h
  | some c => exact passCopy_touches p c hL h

/-- A copy goes out of the other port: the port a telegram came in on keeps what it holds. -/
theorem withCopy_port (p : Port) (copy : Option Telegram) (u : State) :
    (withCopy p copy u).port p = u.port p := by
  cases copy with
  | none => rfl
  | some c =>
    unfold withCopy passCopy
    dsimp only
    split
    · rfl
    · cases p <;> rfl

/-- The reception of a good telegram that arrives on an UP port and is consumed with a role. -/
theorem receiveGood_consumed {r : Role} {s : State} {a : Arrival} (kind : Byte) (payload : List Byte)
    (h : Consumed r s a) (hk : kind ≠ kindFill) (hp : payload.length ≤ 48) :
    ∃ copy, receiveGood a.port (telegramOf a kind payload) s
      = withCopy a.port copy (consume a.port (telegramOf a kind payload) (some r) (hearLink a.port s)) := by
  obtain ⟨w, hw, hact, hrole⟩ := h.window
  have h1 : ¬ maxPayload < payload.length := by unfold maxPayload; omega
  have h3 : ¬ a.src = s.ownAddress := h.notOwn
  rcases hact with hact | hact
  · exact ⟨none, by
      simp [receiveGood, handleGood, route, telegramOf, withCopy, h1, hw, h3, hk, hact, hrole,
        portHeard_up h.up]⟩
  · exact ⟨some (translated w (telegramOf a kind payload)), by
      simp [receiveGood, handleGood, route, telegramOf, withCopy, h1, hw, h3, hk, hact, hrole,
        portHeard_up h.up]⟩

/-- The reception of a field report taken with the FIELD role from a source of the tables. -/
theorem receiveField_known {s : State} {a : Arrival} (k : FieldKind) (payload : List Byte)
    (h : Consumed .field s a) (hs : s.knownSource a.src = true) (hp : payload.length ≤ 48) :
    ∃ copy, receiveField k a payload s
      = withCopy a.port copy (takeField k a.port a.src payload (hearLink a.port s)) := by
  obtain ⟨copy, hc⟩ := receiveGood_consumed k.code payload h (by cases k <;> decide) hp
  refine ⟨copy, ?_⟩
  unfold receiveField
  rw [hc]
  have hf : fieldKindOf k.code = some k := by cases k <;> decide
  have hs' : (hearLink a.port s).knownSource a.src = true := by
    simpa [State.knownSource] using hs
  simp [consume, consumeField, telegramOf, hf, hs']

/-- The reception of a request that a role may send. -/
theorem receiveRequest_consumed {s : State} {a : Arrival} {r : Role} (k : RequestKind) (payload : List Byte)
    (h : Consumed r s a) (hr : requestAllowed r k = true) (hp : payload.length ≤ 48) :
    ∃ copy, receiveRequest k a payload s
      = withCopy a.port copy (requestWithRoom k a payload (hearLink a.port s)) := by
  obtain ⟨copy, hc⟩ := receiveGood_consumed k.code payload h (by cases k <;> decide) hp
  refine ⟨copy, ?_⟩
  unfold receiveRequest
  rw [hc]
  have hf : requestKindOf k.code = some k := by cases k <;> decide
  have hr' : r ≠ .field := by rintro rfl; cases hr
  cases r with
  | field => exact absurd rfl hr'
  | signaller => simp [consume, consumeRequest, telegramOf, hf, hr]
  | config => simp [consume, consumeRequest, telegramOf, hf, hr]

/-- The reception of a request with room for its reply. -/
theorem receiveRequest_taken {s : State} {a : Arrival} (k : RequestKind) (payload : List Byte)
    (h : Requested k s a) (hp : payload.length ≤ 48) :
    ∃ copy, receiveRequest k a payload s
      = withCopy a.port copy (takeRequest k a payload (hearLink a.port s)) := by
  obtain ⟨r, hc, hr⟩ := h.taken
  obtain ⟨copy, he⟩ := receiveRequest_consumed k payload hc hr hp
  refine ⟨copy, ?_⟩
  rw [he]
  have hroom : replyRoom a.port (hearLink a.port s) = true := by
    simpa [replyRoom, replyCapacity] using h.room
  simp [requestWithRoom, hroom]

/-- A source that is the loop address of a detector is known. -/
theorem knownSource_of_detector {s : State} {x : Addr} {d : Nat} (h : detectorAt s.detTab x = some d) :
    s.knownSource x = true := by simp [State.knownSource, h]

/-- A source that is the loop address of a module of a type is known. -/
theorem knownSource_of_module {s : State} {x : Addr} {ty : ModuleType} {m : Nat}
    (h : moduleOfTypeAt s.eqTab ty x = some m) : s.knownSource x = true := by
  unfold moduleOfTypeAt at h
  have h' : moduleAt s.eqTab x = some m := (Option.filter_eq_some_iff.mp h).1
  simp [State.knownSource, h']

/-! ## A replaced start -/

/-- The record an inner wheel is an ADVANCE call for: the oldest with an axle to give, APPROACHING, at its head
passage, short of the island-entry (R37, R38). -/
theorem State.advancing_eq_some {s : State} {w : WheelPassage} {r : TrainRecord} (h : s.advancing w = some r) :
    ∃ k, pathIndex s.detTab (approachIndex w.track w.direction) w.detector = some (k + 1)
      ∧ k + 1 < islandEntryIndex s.detTab (approachIndex w.track w.direction)
      ∧ s.tracker.records.find? (canTakeInward (approachIndex w.track w.direction) (k + 1)) = some r
      ∧ passedAt r (k + 1) = 0 ∧ r.state = .approaching := by
  unfold State.advancing at h
  dsimp only at h
  split at h
  · cases h
  · rename_i k hk
    split at h
    · cases h
    · rename_i hi
      obtain ⟨n, rfl⟩ : ∃ n, k = n + 1 := ⟨k - 1, by omega⟩
      rw [Option.filter_eq_some_iff] at h
      simp only [Bool.and_eq_true, decide_eq_true_eq] at h
      exact ⟨n, hk, by omega, h.1, h.2⟩

/-- A wheel that replaces the earliest start of its approach is an ADVANCE call of a record that holds it and is
not MERGED (R63, R145). -/
theorem State.replacesEarliest_iff {s : State} {w : WheelPassage} :
    s.replacesEarliest w = true ↔ ∃ r, s.advancing w = some r ∧ r.merged = false
      ∧ r.scheduledStart = s.earliestStart r.approach := by
  unfold State.replacesEarliest
  split <;> simp_all

end Sys2Proof.Machine
end

