-- ==== Sys2Proof/Laws/Sending.lean ====
section
/-! SUPPORT. What sending comes to: the arbiter's choice (R163), joining a queue (R156, R162), replies (R161),
the status telegram (R145, R147), and the ends of events. -/

namespace Sys2Proof.Machine

/-! ## The arbiter -/

/-- A head is at least as urgent as another, ties going by the order of the classes (R163). -/
def MoreUrgent (lt : List Word) (now : Time) (c d : QueueClass) (e x : QueueEntry) : Prop :=
  effectivePriority lt now c e < effectivePriority lt now d x
    ∨ (effectivePriority lt now c e = effectivePriority lt now d x
        ∧ arbiterOrder.idxOf c ≤ arbiterOrder.idxOf d)

/-- The choice so far is right for the classes looked at. -/
def ChosenAmong (lt : List Word) (now : Time) (ps : PortState) (seen : List QueueClass) :
    Option (QueueClass × Nat) → Prop
  | none => ∀ d ∈ seen, ps.queue d = []
  | some (c, p) => ∃ e rest, ps.queue c = e :: rest ∧ p = effectivePriority lt now c e ∧ c ∈ seen
      ∧ ∀ d ∈ seen, ∀ x l, ps.queue d = x :: l → MoreUrgent lt now c d e x

/-- One more class looked at, which comes later in the order. -/
theorem arbiterBetter_chosen {lt : List Word} {now : Time} {ps : PortState} {seen : List QueueClass}
    {best : Option (QueueClass × Nat)} (c : QueueClass) (h : ChosenAmong lt now ps seen best)
    (hr : ∀ d ∈ seen, arbiterOrder.idxOf d < arbiterOrder.idxOf c) :
    ChosenAmong lt now ps (seen ++ [c]) (arbiterBetter lt now ps best c) := by
  unfold arbiterBetter
  cases hq : ps.queue c with
  | nil =>
    cases best with
    | none =>
      intro d hd
      rcases List.mem_append.mp hd with hd | hd
      · exact h d hd
      · rw [List.mem_singleton.mp hd]; exact hq
    | some b =>
      obtain ⟨e, rest, h1, h2, h3, h4⟩ := h
      refine ⟨e, rest, h1, h2, List.mem_append_left _ h3, fun d hd x l hx => ?_⟩
      rcases List.mem_append.mp hd with hd | hd
      · exact h4 d hd x l hx
      · rw [List.mem_singleton.mp hd, hq] at hx; cases hx
  | cons e l =>
    cases best with
    | none =>
      refine ⟨e, l, hq, rfl, by simp, fun d hd x r hx => ?_⟩
      rcases List.mem_append.mp hd with hd | hd
      · rw [h d hd] at hx; cases hx
      · obtain rfl := List.mem_singleton.mp hd
        rw [hq] at hx; cases hx
        exact .inr ⟨rfl, Nat.le_refl _⟩
    | some b =>
      obtain ⟨b, p⟩ := b
      obtain ⟨e', rest, h1, h2, h3, h4⟩ := h
      dsimp only
      split
      · rename_i hlt
        refine ⟨e, l, hq, rfl, by simp, fun d hd x r hx => ?_⟩
        rcases List.mem_append.mp hd with hd | hd
        · rcases h4 d hd x r hx with h5 | h5 <;> unfold MoreUrgent <;> omega
        · obtain rfl := List.mem_singleton.mp hd
          rw [hq] at hx; cases hx
          exact .inr ⟨rfl, Nat.le_refl _⟩
      · rename_i hlt
        refine ⟨e', rest, h1, h2, List.mem_append_left _ h3, fun d hd x r hx => ?_⟩
        rcases List.mem_append.mp hd with hd | hd
        · exact h4 d hd x r hx
        · obtain rfl := List.mem_singleton.mp hd
          rw [hq] at hx; cases hx
          have := hr b h3
          unfold MoreUrgent
          omega

/-- The arbiter's choice: none where every queue is empty, else a class whose head no other head precedes. -/
theorem arbiterChoice_spec (lt : List Word) (now : Time) (ps : PortState) :
    match arbiterChoice lt now ps with
    | none => ∀ d, ps.queue d = []
    | some c => ∃ e rest, ps.queue c = e :: rest
        ∧ ∀ d x l, ps.queue d = x :: l → MoreUrgent lt now c d e x := by
  have h0 : ChosenAmong lt now ps [] none := fun d hd => by cases hd
  have h1 := arbiterBetter_chosen .command h0 (by decide)
  have h2 := arbiterBetter_chosen .status h1 (by decide)
  have h3 := arbiterBetter_chosen .reply h2 (by decide)
  have h4 := arbiterBetter_chosen .forward h3 (by decide)
  have hall : ∀ d, d ∈ ([] ++ [QueueClass.command] ++ [.status] ++ [.reply] ++ [.forward] : List QueueClass) := by
    intro d; cases d <;> decide
  unfold arbiterChoice
  change match Option.map (·.1) (arbiterBetter lt now ps (arbiterBetter lt now ps (arbiterBetter lt now ps
    (arbiterBetter lt now ps none .command) .status) .reply) .forward) with
    | none => _
    | some c => _
  revert h4
  generalize arbiterBetter lt now ps (arbiterBetter lt now ps (arbiterBetter lt now ps
    (arbiterBetter lt now ps none .command) .status) .reply) .forward = best
  intro h4
  cases best with
  | none => exact fun d => h4 d (hall d)
  | some b =>
    obtain ⟨e, rest, k1, _, _, k4⟩ := h4
    exact ⟨e, rest, k1, fun d x l hx => k4 d (hall d) x l hx⟩

/-- The order of the classes tells them apart. -/
theorem arbiterOrder_idxOf_inj {c d : QueueClass} (h : arbiterOrder.idxOf c = arbiterOrder.idxOf d) : c = d := by
  revert h; cases c <;> cases d <;> decide

/-- A head that every other head yields to is the arbiter's choice. -/
theorem arbiterChoice_eq {lt : List Word} {now : Time} {ps : PortState} {c : QueueClass} {e : QueueEntry}
    {rest : List QueueEntry} (hq : ps.queue c = e :: rest)
    (h : ∀ d x l, ps.queue d = x :: l → MoreUrgent lt now c d e x) : arbiterChoice lt now ps = some c := by
  have hs := arbiterChoice_spec lt now ps
  cases hc : arbiterChoice lt now ps with
  | none => rw [hc] at hs; rw [hs c] at hq; cases hq
  | some d =>
    rw [hc] at hs
    obtain ⟨x, l, hx, hd⟩ := hs
    have h1 := h d x l hx
    have h2 := hd c e rest hq
    rw [arbiterOrder_idxOf_inj (c := c) (d := d) (by unfold MoreUrgent at h1 h2; omega)]

/-! ## Serving the transmitter -/

/-- A free transmitter with nothing waiting stays free. -/
theorem serveTransmitter_idle {lt : List Word} {now : Time} {ps : PortState} (h : ps.transmitter = none)
    (hq : ∀ d, ps.queue d = []) : serveTransmitter lt now ps = ps := by
  have hs := arbiterChoice_spec lt now ps
  unfold serveTransmitter
  rw [h]
  cases hc : arbiterChoice lt now ps with
  | none => rfl
  | some c => rw [hc] at hs; obtain ⟨e, rest, h1, _⟩ := hs; rw [hq c] at h1; cases h1

/-- A free transmitter is handed the head that every other head yields to. -/
theorem serveTransmitter_free {lt : List Word} {now : Time} {ps : PortState} {c : QueueClass} {e : QueueEntry}
    {rest : List QueueEntry} (h : ps.transmitter = none) (hq : ps.queue c = e :: rest)
    (hb : ∀ d x l, ps.queue d = x :: l → MoreUrgent lt now c d e x) :
    serveTransmitter lt now ps = { ps.setQueue c rest with transmitter := some e.tel } := by
  unfold serveTransmitter
  rw [h, arbiterChoice_eq hq hb]
  simp only [hq]

/-- The one telegram that waits is handed to a free transmitter. -/
theorem serveTransmitter_single {lt : List Word} {now : Time} {ps : PortState} {c : QueueClass}
    {e : QueueEntry} (h : ps.transmitter = none) (hq : ps.queue c = [e])
    (ho : ∀ d, d ≠ c → ps.queue d = []) :
    serveTransmitter lt now ps = { ps.setQueue c [] with transmitter := some e.tel } := by
  refine serveTransmitter_free h hq fun d x l hd => ?_
  by_cases hdc : d = c
  · subst hdc
    rw [hq] at hd; cases hd
    exact .inr ⟨rfl, Nat.le_refl _⟩
  · rw [ho d hdc] at hd; cases hd

/-- After serving, the transmitter is busy if anything waited or was under way. -/
theorem serveTransmitter_isSome {lt : List Word} {now : Time} {ps : PortState} {c : QueueClass}
    (h : ps.queue c ≠ []) : (serveTransmitter lt now ps).transmitter.isSome = true := by
  have hs := arbiterChoice_spec lt now ps
  unfold serveTransmitter
  cases ht : ps.transmitter with
  | some x => simp [ht]
  | none =>
    cases hc : arbiterChoice lt now ps with
    | none => rw [hc] at hs; exact absurd (hs c) h
    | some d => rw [hc] at hs; obtain ⟨e, rest, h1, _⟩ := hs; simp [h1]

/-- Serving takes the head of one queue or nothing: each queue is the same or has lost its head. -/
theorem serveTransmitter_queue_cases (lt : List Word) (now : Time) (c : QueueClass) (ps : PortState) :
    (serveTransmitter lt now ps).queue c = ps.queue c
      ∨ ∃ e, ps.queue c = e :: (serveTransmitter lt now ps).queue c
          ∧ (serveTransmitter lt now ps).transmitter = some e.tel := by
  unfold serveTransmitter
  split
  · exact .inl rfl
  · split
    · exact .inl rfl
    · split
      · exact .inl rfl
      · rename_i d _ _ e rest hq
        by_cases hcd : c = d
        · subst hcd
          refine .inr ⟨e, ?_, rfl⟩
          rw [hq]
          cases c <;> rfl
        · left
          have := setQueue_queue_ne hcd rest ps
          rw [← this]
          cases c <;> rfl

/-! ## Joining a queue -/

/-- The port a telegram has joined a queue of. -/
theorem joinQueue_port (p : Port) (c : QueueClass) (tel : Telegram) (slot : Option Nat) (s : State) :
    (joinQueue p c tel slot s).port p = serveTransmitter s.loopTab s.now
      ((s.port p).setQueue c ((s.port p).queue c ++ [⟨tel, s.now, slot⟩])) := by
  unfold joinQueue; simp

/-- The other port does not change. -/
theorem joinQueue_port_other (p : Port) (c : QueueClass) (tel : Telegram) (slot : Option Nat) (s : State) :
    (joinQueue p c tel slot s).port p.other = s.port p.other := by
  unfold joinQueue; simp

/-- A port one of whose queues a telegram has joined is busy. -/
theorem joinQueue_isSome (p : Port) (c : QueueClass) (tel : Telegram) (slot : Option Nat) (s : State) :
    ((joinQueue p c tel slot s).port p).transmitter.isSome = true := by
  rw [joinQueue_port]
  exact serveTransmitter_isSome (c := c) (by simp)

/-- Beside a busy transmitter a telegram waits last in its queue. -/
theorem joinQueue_busy {p : Port} {s : State} (c : QueueClass) (tel : Telegram) (slot : Option Nat)
    (h : (s.port p).transmitter.isSome) :
    (joinQueue p c tel slot s).port p
      = (s.port p).setQueue c ((s.port p).queue c ++ [⟨tel, s.now, slot⟩]) := by
  rw [joinQueue_port, serveTransmitter_busy (by simpa using h)]

/-- With the transmitter free and nothing waiting, a telegram is under way at once. -/
theorem joinQueue_free {p : Port} {s : State} (c : QueueClass) (tel : Telegram) (slot : Option Nat)
    (h : (s.port p).transmitter = none) (hq : ∀ d, (s.port p).queue d = []) :
    (joinQueue p c tel slot s).port p = { s.port p with transmitter := some tel } := by
  rw [joinQueue_port, serveTransmitter_single (c := c) (by simpa using h)
    (by simp [hq c]; rfl) (fun d hd => by rw [setQueue_queue_ne hd, hq d])]
  have := hq c
  cases c <;> simp_all [PortState.setQueue, PortState.queue]

/-- A telegram that joins a queue is in it, or is under way. -/
theorem joinQueue_sent (p : Port) (c : QueueClass) (tel : Telegram) (slot : Option Nat) (s : State) :
    ((joinQueue p c tel slot s).port p).transmitter = some tel
      ∨ ∃ e ∈ ((joinQueue p c tel slot s).port p).queue c, e.tel = tel := by
  rw [joinQueue_port]
  rcases serveTransmitter_queue_cases s.loopTab s.now c
    ((s.port p).setQueue c ((s.port p).queue c ++ [⟨tel, s.now, slot⟩])) with h | ⟨e, h, ht⟩
  · right
    exact ⟨⟨tel, s.now, slot⟩, by rw [h]; simp, rfl⟩
  · rw [setQueue_queue] at h
    by_cases hm : (⟨tel, s.now, slot⟩ : QueueEntry) ∈ (serveTransmitter s.loopTab s.now
        ((s.port p).setQueue c ((s.port p).queue c ++ [⟨tel, s.now, slot⟩]))).queue c
    · exact .inr ⟨_, hm, rfl⟩
    · left
      have h2 : (⟨tel, s.now, slot⟩ : QueueEntry) ∈ e :: (serveTransmitter s.loopTab s.now
        ((s.port p).setQueue c ((s.port p).queue c ++ [⟨tel, s.now, slot⟩]))).queue c := by
        rw [← h]; simp
      rcases List.mem_cons.mp h2 with h3 | h3
      · rw [ht, ← h3]
      · exact absurd h3 hm

/-- A telegram has joined a queue. -/
theorem joinQueue_joined (p : Port) (c : QueueClass) (tel : Telegram) (s : State) :
    JoinedQueue p c tel s (joinQueue p c tel none s) := by
  refine ⟨fun h => ?_, fun h hq => ?_⟩
  · rw [joinQueue_busy c tel none h]
    exact ⟨setQueue_queue _ _ _, setQueue_transmitter _ _ _⟩
  · rw [joinQueue_free c tel none h hq]
    exact ⟨by have := hq c; cases c <;> exact this, rfl⟩

/-! ## Ports under a frame -/

/-- What a frame says of one port's queue. -/
theorem Touches.queue {L : List Block} {s t : State} (h : Touches L s t) {c : QueueClass}
    (hc : Block.queue c ∉ L) (p : Port) : SameQueue c (s.port p) (t.port p) := by
  have := h (.queue c) hc
  cases p
  · exact this.1
  · exact this.2

/-- What a frame says of one port's link. -/
theorem Touches.link {L : List Block} {s t : State} (h : Touches L s t) (hc : Block.links ∉ L) (p : Port) :
    SameLink (s.port p) (t.port p) := by
  have := h .links hc
  cases p
  · exact this.1
  · exact this.2

/-! ## Replies -/

/-- A reply sent stands as it is to stand. -/
theorem sendReply_replied (a : Arrival) (kind : Byte) (payload : List Byte) (s : State) :
    Replied a s.ownAddress kind payload s (sendReply a kind payload s)
      ∧ ((sendReply a kind payload s).port a.port).transmitter.isSome = true := by
  refine ⟨⟨fun h => ?_, fun h hr => ?_⟩, joinQueue_isSome _ _ _ _ _⟩
  · unfold sendReply
    rw [joinQueue_busy _ _ _ h]
    rfl
  · unfold sendReply
    rw [joinQueue_port]
    rcases serveTransmitter_queue_cases s.loopTab s.now .reply ((s.port a.port).setQueue .reply
      ((s.port a.port).queue .reply ++ [⟨⟨a.src, s.ownAddress, kind, payload⟩, s.now, none⟩])) with h1 | ⟨e, h1, h2⟩
    · left
      have : (s.port a.port).queue .reply = [] := hr
      rw [this] at h1 ⊢
      exact h1
    · right
      have h3 : (s.port a.port).queue .reply = [] := hr
      rw [h3] at h1 h2 ⊢
      rw [setQueue_queue] at h1
      injection h1 with h4 h5
      exact ⟨h5.symm, by rw [h2, ← h4]⟩

/-- A reply stands as it does through what follows and leaves the REPLY queues alone. -/
theorem Replied.after {a : Arrival} {own : Addr} {kind : Byte} {payload : List Byte} {L : List Block}
    {s t u : State} (h : Replied a own kind payload s t)
    (hb : (t.port a.port).transmitter.isSome = true) (hL : Block.queue .reply ∉ L) (hu : Touches L t u) :
    Replied a own kind payload s u := by
  obtain ⟨h1, h2⟩ := (hu.queue hL a.port).1 hb
  have h3 : (u.port a.port).reply = (t.port a.port).reply := h1
  unfold Replied at *
  rw [h3, h2]
  exact h

/-- A reply stands as it does whatever came before and left the REPLY queues alone. -/
theorem Replied.before {a : Arrival} {own : Addr} {kind : Byte} {payload : List Byte} {L : List Block}
    {r s t : State} (h : Replied a own kind payload s t) (hL : Block.queue .reply ∉ L)
    (hT : Block.timebase ∉ L) (hr : Touches L r s) : Replied a own kind payload r t := by
  have hq := hr.queue hL a.port
  have hn : s.now = r.now := hr .timebase hT
  refine ⟨fun hb => ?_, fun hf he => ?_⟩
  · obtain ⟨h1, h2⟩ := hq.1 hb
    have h3 : (s.port a.port).reply = (r.port a.port).reply := h1
    have := h.1 (by rw [h2]; exact hb)
    rw [h3, hn] at this
    exact this
  · have h3 : (s.port a.port).reply = [] := hq.2 he
    cases hs : (s.port a.port).transmitter with
    | some x =>
      left
      have := h.1 (by rw [hs]; rfl)
      rw [h3, hn] at this
      exact this
    | none =>
      have := h.2 hs h3
      rw [hn] at this
      exact this

/-- A reply reads the same after a telegram heard. -/
theorem Replied.heard {a : Arrival} {own : Addr} {kind : Byte} {payload : List Byte} {p : Port} {s t : State}
    (h : Replied a own kind payload (hearLink p s) t) : Replied a own kind payload s t :=
  h.before (L := [.portA, .portB, .links]) (by decide) (by decide)
    (hearLink_touches p (by simp) (Touches.refl _ _))

/-! ## The status telegram and the ends of events -/

/-- The reported content is read of six blocks. -/
theorem reported_congr {s t : State} (h1 : t.config = s.config) (h2 : t.tracker = s.tracker)
    (h3 : t.axle = s.axle) (h4 : t.fault = s.fault) (h5 : t.seq = s.seq) (h6 : t.barrier = s.barrier) :
    t.reported = s.reported := by
  have h9 : t.approachReport = s.approachReport := by
    funext a
    simp only [State.approachReport, State.earliestStart, State.recordsOf, h2]
  simp only [State.reported, State.nonClearSections, h1, h3, h4, h5, h6, h9]

/-- The status telegram is read of those six blocks, the loop table and the time. -/
theorem statusTelegram_congr {s t : State} (h1 : t.config = s.config) (h2 : t.tracker = s.tracker)
    (h3 : t.axle = s.axle) (h4 : t.fault = s.fault) (h5 : t.seq = s.seq) (h6 : t.barrier = s.barrier)
    (h7 : t.window = s.window) (h8 : t.timebase = s.timebase) : t.statusTelegram = s.statusTelegram := by
  simp only [State.statusTelegram, State.crTab, State.ownAddress, State.loopTab, State.now,
    reported_congr h1 h2 h3 h4 h5 h6, h1, h7, h8]

/-- A status telegram due is on its way, with a safety set active and the signaller port UP. -/
theorem statusDue_sent {s : State} (ha : s.safetyActive = true)
    (hl : (s.port s.signallerPort).link = .up) : StatusSent (statusDue s) := by
  have hT : Touches [.portA, .portB, .queue .status] s (statusDue s) :=
    statusDue_touches (by simp) (Touches.refl _ _)
  have hp : (statusDue s).signallerPort = s.signallerPort := by
    have := hT .window (by decide)
    unfold State.signallerPort State.loopTab; rw [this]
  have ht : (statusDue s).statusTelegram = s.statusTelegram :=
    statusTelegram_congr (hT .config (by decide)) (hT .tracker (by decide)) (hT .axle (by decide))
      (hT .fault (by decide)) (hT .seq (by decide)) (hT .barrier (by decide)) (hT .window (by decide))
      (hT .timebase (by decide))
  unfold StatusSent
  rw [hp, ht]
  unfold statusDue
  simp only [ha, hl, reduceCtorEq, or_self, if_false]
  split
  · rename_i hany
    right
    obtain ⟨e, he, hes⟩ := List.any_eq_true.mp hany
    refine ⟨refreshEntry s.statusTelegram e, ?_, ?_⟩
    · simp only [State.setPort_port_self]
      exact List.mem_map.mpr ⟨e, he, rfl⟩
    · unfold refreshEntry; rw [hes]; rfl
  · exact joinQueue_sent s.signallerPort .status s.statusTelegram none s

/-- The end of an event that does not make a status telegram due and has changed no reported content. -/
theorem finish_same {before s : State} (h : s.reported = before.reported) : finish before false s = s := by
  simp [finish, h]

/-- The end of an event: nothing, or a status telegram due. -/
theorem finish_cases (before : State) (due : Bool) (s : State) :
    finish before due s = s ∨ finish before due s = statusDue s := by
  unfold finish; split <;> simp

/-- Where no activation waits for quiescence, none takes effect. -/
theorem activateIfQuiescent_notAwaiting {s : State} (h : NotAwaiting s) : activateIfQuiescent s = s := by
  unfold activateIfQuiescent
  unfold NotAwaiting at h
  split
  · rename_i h1 _; exact absurd h1 h
  · rfl

/-- Where no activation waits for quiescence, the end of an event is the crossing proof and the status. -/
theorem settleDue_notAwaiting {before s : State} {due : Bool} (h : NotAwaiting s) :
    settleDue before due s = finishProof before due s := by
  unfold settleDue; rw [activateIfQuiescent_notAwaiting h]

/-- The same of the end of an event that does not itself make a status telegram due. -/
theorem settle_notAwaiting {before s : State} (h : NotAwaiting s) :
    settle before s = finishProof before false s := settleDue_notAwaiting h

/-- Whether an activation waits does not change where the configuration unit does not. -/
theorem NotAwaiting.of_touches {L : List Block} {s t : State} (h : NotAwaiting s) (hL : Block.config ∉ L)
    (hT : Touches L s t) : NotAwaiting t := by
  have := hT .config hL
  unfold NotAwaiting
  rw [this]
  exact h

end Sys2Proof.Machine
end

