-- ==== Sys2Proof/Tests/Demo.lean ====
section
/-! SUPPORT. A small installation for the tests: the tables of the worked sequences of chapters 1, 3, 4, 5, 6 and
8, and states built from them. -/

namespace Sys2Proof.Demo

open Sys2Proof.Machine

/-- Words placed at a word index of a table. -/
def put (start : Nat) (ws : List Word) (t : List Word) : List Word := placeWords t start ws

/-- One detector entry, spacing 150 mm, UP order AB, silence timeout 2000 ms. -/
def detector (d : Nat) (track : Word) (position : Int) (latency : Word) (t : List Word) : List Word :=
  put (6 * d) [BitVec.ofNat 16 (256 + d), 256 + track, BitVec.ofInt 16 position, 150, latency, 2000] t

/-- Detector table: track 1 of section 1.2, track 2 of section 3.9. -/
def detectorTable : List Word :=
  (detector 4 1 9000 0 ∘ detector 5 1 (-400) 0 ∘ detector 6 1 (-15000) 0 ∘ detector 7 1 400 0 ∘
    detector 8 1 (-6000) 0 ∘ detector 12 2 (-20000) 40 ∘ detector 13 2 (-500) 40 ∘
    detector 14 2 500 40 ∘ detector 15 2 19000 40 ∘ detector 16 2 24000 40) (List.replicate 192 0)

/-- One approach entry: V_line 2778, V_floor 300, a_max 20, Tw_min 27000, Tw_target 30000, Tw_tol 10000. -/
def approachWords : List Word := [2778, 300, 20, 27000, 30000, 10000]

/-- Approach table. -/
def approachTable : List Word := (List.replicate 8 approachWords).flatten

/-- One module entry with silence timeout 2000 ms. -/
def moduleWords (ty addr port : Word) : List Word := [ty, addr, port, 2000]

/-- One lamp entry: on_low 80, on_high 200, off_max 20. -/
def lampWords (module_ channel colour side phase : Nat) : List Word :=
  [BitVec.ofNat 16 (module_ + 256 * channel), BitVec.ofNat 16 (colour + 16 * side + 256 * phase),
   BitVec.ofNat 16 (80 + 256 * 200), 20]

/-- Equipment table: modules of section 8.8, lamps of section 5.9 on each side, barriers of section 4.12. -/
def equipmentTable : List Word :=
  (put 0 (moduleWords 1 0x200 1 ++ moduleWords 1 0x201 2 ++ moduleWords 2 0x202 1 ++ moduleWords 2 0x203 1
      ++ moduleWords 2 0x204 2 ++ moduleWords 2 0x205 2 ++ moduleWords 3 0x206 1 ++ moduleWords 3 0x207 2) ∘
    put 40 (lampWords 0 0 1 0 1 ++ lampWords 0 1 1 0 2 ++ lampWords 0 2 2 0 1
      ++ lampWords 1 0 1 1 1 ++ lampWords 1 1 1 1 2) ∘
    put 104 [0, 1, 1, 257, 2, 2, 3, 258]) (List.replicate 112 0)

/-- Crossing table: the timings of section 4.12, min_red 2, N_lamp 2, T_gap 5000, T_refresh 500, T_status
2000, signaller address 0x300; the fault map of section 7.10. -/
def crossingTable : List Word :=
  [120, 3000, 5000, 8000, 4000, 0, 30000, 10000, 20000, 4, 37856, 0x0202, 2, 5000, 500, 2000, 0x300,
   0x8001, 0, 0x8001] ++ List.replicate 5 0 ++ [3] ++ List.replicate 14 0 ++ [0x8003]

/-- The four safety tables. -/
def tables : SafetyTables :=
  { detector := detectorTable, approach := approachTable, equipment := equipmentTable,
    crossing := crossingTable }

/-- The staged tables that hold the four safety tables. -/
def staged : StagedTables :=
  { stagedReset with
    detector := { words := detectorTable, writeIndex := 0, readIndex := 0 }
    approach := { words := approachTable, writeIndex := 0, readIndex := 0 }
    equipment := { words := equipmentTable, writeIndex := 0, readIndex := 0 }
    crossing := { words := crossingTable, writeIndex := 0, readIndex := 0 } }

/-! ## States -/

/-- A port that is UP, its silence expiry at 1000, its transmitter free. -/
def portUp : PortState := { portReset with link := .up, silence := some 1000, silenceWith := 1000 }

/-- A telegram of no importance. -/
def someTelegram : Telegram := ⟨0x777, 0x555, 0x30, [1]⟩

/-- A port that is UP with a transmission under way. -/
def portBusy : PortState := { portUp with transmitter := some someTelegram }

/-- Both ports UP, no safety set active. -/
def live : State := { State.reset with portA := portUp, portB := portUp }

/-- A section table entry for each section of the demo tracks. -/
def sectionsAll (st : SectionState) (b : Nat) : List TrackSection :=
  (allSections detectorTable).map fun x => ⟨x.1, x.2, b, st⟩

/-- A detector that is OK, last seen with number 9. -/
def detectorOk : DetectorRecord := ⟨.ok, some 9, some 2000⟩

/-- A barrier proved up. -/
def barrierUp : BarrierRecord := ⟨.provedUp, .raise, false, none, none, some .up, false, none⟩

/-- A barrier lowering. -/
def barrierLowering : BarrierRecord := ⟨.unproved, .lower, true, some 10000, none, some .moving, false, none⟩

/-- A barrier proved down. -/
def barrierDown : BarrierRecord := ⟨.provedDown, .lower, false, none, none, some .down, false, none⟩

/-- A barrier raising. -/
def barrierRaising : BarrierRecord := ⟨.unproved, .raise, true, some 10000, none, some .moving, false, none⟩

/-- A fault unit with no flag set and no history. -/
def faultsQuiet : FaultUnit :=
  { active := 0, latched := 0, history := [], nextRecord := 0,
    groups := groupsOf true crossingTable 0 0, statusExpiry := some 2000 }

/-- The part in OPEN with the demo tables active, before its command slots are filled. -/
def readyBase : State :=
  { live with
    axle :=
      { detectors := (List.range 32).map fun d =>
          if detectorInUse detectorTable d then some detectorOk else none
        sections := sectionsAll .clear 0 }
    seq := { seqInitSafe with state := .opened }
    lamp :=
      { lamps := (List.range 16).map fun l =>
          if lampInUse equipmentTable l then some ⟨.proved, 0, 0, false, 0, 0⟩ else none
        modules := List.replicate 2 ⟨.ok, some 2000, 0⟩ }
    barrier :=
      { barriers := List.replicate 4 (some barrierUp), modules := List.replicate 4 ⟨.ok, some 2000⟩
        presence := List.replicate 2 ⟨.ok, some 2000, .absent⟩, proved := false }
    fault := faultsQuiet
    config := { State.reset.config with
      staged := staged, tables := tables, activeIdentity := 7, activeCrc := 0x1234 } }

/-- The part in OPEN: no train, every section CLEAR, every barrier proved up. -/
def ready : State := { readyBase with cmd := { slots := slotsOf readyBase, refresh := some 500 } }

/-- A train record on an approach. -/
def train (approach : Nat) (st : RecordState) (passed : List Nat) : TrainRecord :=
  { tag := 40, approach := approach, state := st, entryOpen := true, lastEntry := 0, passed := passed, peak := 4,
    headDetector := 0, headTime := 0, entrySpeed := some 1000, lastSpeed := some 1000,
    scheduledStart := if st = .approaching then some 0 else none,
    warnedAt := if st = .approaching then none else some 0,
    islandEntry := none, achieved := none,
    merged := false, overspeed := false, short := false, receding := false }

/-- The part with train records in the pool. -/
def withTrains (rs : List TrainRecord) : State := { ready with tracker := { ready.tracker with records := rs } }

/-- The part in a phase of the sequence with every barrier as given. -/
def phase (q : Sequencer) (b : BarrierRecord) : State :=
  { ready with
    seq := q
    barrier := { ready.barrier with barriers := List.replicate 4 (some b) } }

/-- A sequencer record with the onset at 0. -/
def seqAt (st : SeqState) : Sequencer := { seqInitSafe with state := st, onset := some 0 }

/-- A section table with every section in one state and balance. -/
def withSections (st : SectionState) (b : Nat) (s : State) : State :=
  { s with axle := { s.axle with sections := sectionsAll st b } }

/-- The state the part is left in. -/
def after (c : Instr) (s : State) : State :=
  match exec c s with
  | .next t => t
  | _ => s

/-- An arrival on port A at the FIELD window. -/
def fieldA (src : Addr) : Arrival := ⟨.a, 2, src⟩

/-- An arrival on port A at the SIGNALLER window. -/
def sigA : Arrival := ⟨.a, 1, 0x300⟩

/-- An arrival on port A at the CONFIG window. -/
def cfgA : Arrival := ⟨.a, 0, 0x400⟩

end Sys2Proof.Demo
end

