-- ==== Sys2Proof/Tests/Slice0.lean ====
section
/-! SUPPORT. Tests: ill-formed commands the check refuses; worked figures of the spec; one step of commands on
small states; for every statement with hypotheses, states and operands that meet them (its witness). -/

namespace Sys2Proof.Tests

open Sys2Proof.Machine Sys2Proof.Demo

set_option Elab.async false

/-! ## Ill-formed commands -/

/-- A payload of 49 bytes. -/
def long : List Byte := List.replicate 49 0

/-- Commands that carry a payload no frame holds. -/
theorem test_illFormed_payloads :
    ([.fill sigA long, .ownTelegramReturned .a 0 1 long, .passedCopy .a ⟨0, 5, 1, long⟩,
      .roleMismatch .a ⟨0, 5, 1, long⟩, .wheel sigA long, .heartbeat sigA long, .lampReport sigA long,
      .barrierReport sigA long, .presenceReport sigA long, .acknowledge sigA long, .restoreSweep sigA long,
      .historyRead sigA long, .identify sigA long, .restartKeep sigA long, .stageWrite sigA long,
      .stageRead sigA long, .activate sigA long, .activateLoop sigA long, .confirm sigA long] : List Instr).all
      (fun c => !wellFormed c) = true := by decide

/-- A FILL in another row, a RESTORE and a RESTART of the other mode, tag 0. -/
theorem test_illFormed_rows :
    ([.ownTelegramReturned .a 0 0 [], .passedCopy .a ⟨0, 5, 0, []⟩, .roleMismatch .a ⟨0, 5, 0, []⟩,
      .restoreSweep sigA [1, 0, 2], .restartKeep sigA [2], .entryGapExpiry 0, .scheduledStartExpiry 0]
      : List Instr).all (fun c => !wellFormed c) = true := by decide +kernel

/-- A good frame is refused as a discarded one. -/
theorem test_illFormed_discarded : wellFormed (.discardedTelegram .a (frameBytes someTelegram)) = false := by
  decide +kernel

/-- Commands as their rows have them are well formed. -/
theorem test_wellFormed :
    ([.discardedTelegram .a [0, 1], .wheel (fieldA 0x106) [1, 0, 0, 10], .restoreSweep sigA [1, 0, 1],
      .restartKeep sigA [1], .entryGapExpiry 40, .amberExpiry] : List Instr).all wellFormed = true := by
  decide +kernel

/-! ## Figures of the spec -/

/-- The CRC of R181 gives the check value of its polynomial and start for the digits 1 to 9. -/
theorem test_crc : crc16 [0x31, 0x32, 0x33, 0x34, 0x35, 0x36, 0x37, 0x38, 0x39] = 0x29B1 := by decide +kernel

/-- A frame byte by byte (R180): destination, source, kind, length, payload. -/
theorem test_frame : (frameBytes ⟨0x1234, 0x0506, 0x30, [7, 8]⟩).take 8 = [0x12, 0x34, 5, 6, 0x30, 2, 7, 8] := by
  decide +kernel

/-- No row of the table gives bits. -/
theorem test_noBits : decodeTableWord 16 0 = none := by decide

/-- Spot speeds of sections 3.9: 15000 us and 18750 us over 150 mm. -/
theorem test_spotSpeed :
    spotSpeed (approachOf approachTable 5) 150 15000 = 1000
      ∧ spotSpeed (approachOf approachTable 5) 150 18750 = 800
      ∧ spotSpeed (approachOf approachTable 5) 150 6000 = 2500 := by decide +kernel

/-- Arrivals of section 3.9, events 1 and 2. -/
theorem test_arrivals :
    worstArrival (approachOf approachTable 5) 238800 1000 = 114410 ∧ nominalArrival 238800 1000 = 238800
      ∧ worstArrival (approachOf approachTable 5) 188800 800 = 103171
      ∧ nominalArrival 188800 800 = 236000
      ∧ worstArrival (approachOf approachTable 5) 188800 2500 = 68657 := by decide +kernel

/-- Candidate starts of section 3.9. -/
theorem test_candidate :
    candidateStart (approachOf approachTable 5) 300000 114410 238800 = 387410
      ∧ candidateStart (approachOf approachTable 5) 350000 103171 236000 = 426171 := by decide +kernel

/-- Section 3.9, event 4: the achieved warning, and LONG_WARNING. -/
theorem test_achieved :
    let s := { ready with timebase := 581290, seq := { seqAt .closed with onset := some 426171 } }
    let x := islandCall ⟨14, 2, .down, 581250, 18750, false⟩ false (train 5 .warned [4, 4, 0, 0]) s
    x.1.achieved = some 155079 ∧ x.2.fault.isLatched .longWarning = true := by decide +kernel

/-! ## One step -/

/-- R154: a frame with a length field of 49 is discarded. -/
theorem test_discarded : after (.discardedTelegram .a (List.replicate 5 0 ++ [49] ++ List.replicate 51 0)) live
    = live := by decide +kernel

/-- R155: a FILL takes a DOWN port UP, its silence expiry T_silence (1000 ms) later. -/
theorem test_fill :
    let t := after (.fill ⟨.a, 0, 0x999⟩ []) State.reset
    t.portA.link = .up ∧ t.portA.silence = some 1000 ∧ t.fault.isActive .portDown = true := by decide +kernel

/-- R155: with both ports UP, PORT_DOWN ends and stays latched. -/
theorem test_ownTelegram :
    let t := after (.ownTelegramReturned .b 0 1 []) { State.reset with portA := portUp }
    t.fault.isActive .portDown = false ∧ t.fault.isLatched .portDown = true := by decide +kernel

/-- R158: a telegram no window hits goes out of the other port. -/
theorem test_passedCopy : (after (.passedCopy .a someTelegram) live).portB.transmitter = some someTelegram := by
  decide +kernel

/-- R159: a WHEEL kind at the SIGNALLER window. -/
theorem test_roleMismatch :
    (after (.roleMismatch .a ⟨1, 0x106, 0x10, []⟩) live).fault.history.getLast?
      = some ⟨1, 0, .notice, 36, 0x106⟩ := by decide +kernel

/-- R20, R33: a wheel at the strike-in of track 1 UP occupies the section in front of it and creates a record. -/
theorem test_wheel :
    let t := after (.wheel (fieldA 0x106) [1, 0, 0, 10]) ready
    t.sectionAt 1 0 = some ⟨1, 0, 1, .occupied⟩ ∧ t.tracker.records.map (·.passed) = [[1, 0, 0, 0]] := by
  decide +kernel

/-- R16: a sequence gap disturbs the sections beside the detector. -/
theorem test_wheel_gap :
    (after (.wheel (fieldA 0x106) [1, 0, 0, 11]) ready).sectionAt 1 0 = some ⟨1, 0, 1, .disturbed⟩ := by
  decide +kernel

/-- R12: health FAULT makes the detector FAILED. -/
theorem test_heartbeat :
    (after (.heartbeat (fieldA 0x106) [9, 2]) ready).detectorRecord 6
      = some ⟨.failed .headFault, some 9, some 2000⟩ := by decide +kernel

/-- R13: a silent detector is FAILED and its sections DISTURBED. -/
theorem test_detectorSilence :
    let t := after (.detectorSilenceExpiry 6) { ready with timebase := 2000 }
    t.detectorRecord 6 = some ⟨.failed .silent, some 9, none⟩ ∧ t.fault.isActive .detectorSilent = true := by
  decide +kernel

/-- R42: the entry closes T_gap (5000 ms) after the last entry wheel. -/
theorem test_entryGap :
    let s := { withTrains [train 2 .warned [4, 2, 0, 0]] with timebase := 5000 }
    (after (.entryGapExpiry 40) s).tracker.records.map (·.entryOpen) = [false] := by decide +kernel

/-- R45, R78: a scheduled start closes the road. -/
theorem test_scheduledStart :
    let t := after (.scheduledStartExpiry 40) (withTrains [train 2 .approaching [4, 0, 0, 0]])
    t.seq.state = .amber ∧ t.seq.onset = some 0 ∧ t.seq.amber = some 3000 := by decide +kernel

/-- R79: AMBER ends in RED_FLASH, with T_red_pre 5000 ms. -/
theorem test_amber :
    let t := after .amberExpiry { ready with seq := { seqAt .amber with amber := some 0 } }
    t.seq.state = .redFlash ∧ t.seq.red = some 5000 := by decide +kernel

/-- R80: the entry barriers 0 and 1 lower, the exit barriers stay up. -/
theorem test_red :
    let t := after .redExpiry { ready with seq := { seqAt .redFlash with red := some 0 } }
    t.barrier.barriers.map (fun b => b.map (·.commanded)) = [some .lower, some .lower, some .raise, some .raise] := by
  decide +kernel

/-- R126: an occupied zone holds the exit barriers. -/
theorem test_exitDelay :
    let s := phase { seqAt .exitLowering with exitDelay := some 0 } barrierUp
    let t := after .exitDelayExpiry
      { s with barrier := { s.barrier with presence := [⟨.ok, none, .present⟩, ⟨.ok, none, .absent⟩] } }
    t.seq.exitStarted = true ∧ t.barrier.barriers.map (fun b => b.map (·.held))
      = [some false, some false, some true, some true] := by decide +kernel

/-- R92: a long closure with demand is prolonged. -/
theorem test_longClosure :
    let t := after .longClosureExpiry { phase { seqAt .closed with longClosure := some 0 } barrierDown with
      tracker := { ready.tracker with records := [train 2 .warned [4, 4, 0, 0]] } }
    t.seq.prolonged = true ∧ t.fault.isActive .prolongedClosure = true := by decide +kernel

/-- R104, R107: a bad LIT sample of a steady red lamp. -/
theorem test_lampReport :
    let s := { ready with seq := seqAt .amber }
    (after (.lampReport (fieldA 0x200) [0, 2, 0, 0, 2, 0, 1, 1, 30, 0, 2, 0]) s).lampRecord 2
      = some ⟨.proved, 1, 0, false, 0, 0⟩ := by decide +kernel

/-- R110: the lamps of a silent module are UNPROVED. -/
theorem test_lampSilence :
    ((after (.lampModuleSilenceExpiry 0) { ready with timebase := 2000 }).lampRecord 0).map (·.state)
      = some .unproved := by decide +kernel

/-- R123: a barrier proved up and reported moving is NOT_PROVED with cause LOST. -/
theorem test_barrierReport :
    ((after (.barrierReport (fieldA 0x202) [2, 1]) ready).barrierRecord 0).map (fun r => (r.state, r.cause))
      = some (.notProved, some .lost) := by decide +kernel

/-- R122: a proof not made in time. -/
theorem test_proving :
    let t := after (.provingExpiry 0) { phase (seqAt .closed) barrierLowering with timebase := 10000 }
    (t.barrierRecord 0).map (fun r => (r.state, r.cause)) = some (.notProved, some .expired)
      ∧ t.fault.isActive .barrierNotDown = true := by decide +kernel

/-- R89: the last barrier proved up opens the road. -/
theorem test_opens :
    let s := phase { seqInitSafe with state := .raising } barrierUp
    (after (.barrierReport (fieldA 0x202) [1, 1])
      { s with barrier := { s.barrier with barriers := s.barrier.barriers.set 0 (some barrierRaising) } }).seq.state
      = .opened := by decide +kernel

/-- R124: a silent barrier module. -/
theorem test_barrierSilence :
    ((after (.barrierModuleSilenceExpiry 0) { ready with timebase := 2000 }).barrierRecord 0).map
      (fun r => (r.state, r.cause)) = some (.notProved, some .silent) := by decide +kernel

/-- R125: a silent presence module is taken as PRESENT. -/
theorem test_presenceSilence :
    (after (.presenceModuleSilenceExpiry 1) { ready with timebase := 2000 }).barrier.presence
      = [⟨.ok, some 2000, .absent⟩, ⟨.silent, none, .present⟩] := by decide +kernel

/-- R125: a report PRESENT. -/
theorem test_presence :
    (after (.presenceReport (fieldA 0x206) [1]) ready).presenceTaken 0 = true := by decide +kernel

/-- R128: the exit wait expiry. -/
theorem test_exitWait :
    let t := after (.exitWaitExpiry 2) (phase { seqAt .exitLowering with exitStarted := true }
      { barrierUp with held := true, exitWait := some 0 })
    (t.barrierRecord 2).map (fun r => (r.held, r.exitWait)) = some (true, none)
      ∧ t.fault.isActive .crossingObstructed = true := by decide +kernel

/-- R146: the status period, T_status 2000 ms. -/
theorem test_statusPeriod :
    (after .statusPeriodExpiry { ready with timebase := 2000 }).fault.statusExpiry = some 4000 := by decide +kernel

/-- R139: a latched class that is not active is cleared; one that is active stays. -/
theorem test_acknowledge :
    (after (.acknowledge sigA [0xFF, 0xFF, 0xFF])
      { ready with fault := { faultsQuiet with active := 1, latched := 5 } }).fault.latched = 1 := by decide +kernel

/-- R23: a sweep leaves the section PREPARED. -/
theorem test_restoreSweep :
    (after (.restoreSweep sigA [1, 2, 1]) (withSections .disturbed 3 ready)).sectionAt 1 2
      = some ⟨1, 2, 0, .prepared⟩ := by decide +kernel

/-- R24: a direct restore leaves it CLEAR, with a NOTICE. -/
theorem test_restoreDirect :
    let t := after (.restoreDirect sigA 1 2) (withSections .disturbed 3 ready)
    t.sectionAt 1 2 = some ⟨1, 2, 0, .clear⟩ ∧ t.fault.isLatched .notice = true := by decide +kernel

/-- R143: HISTORY_DATA of the one record a reset leaves. -/
theorem test_historyRead :
    ((after (.historyRead sigA [0, 1]) { State.reset with portA := portUp }).portA.transmitter).map (·.payload)
      = some ([0, 0, 0, 1, 0, 1] ++ [0, 0, 0, 0, 0, 0, 21, 0, 0, 0]) := by decide +kernel

/-- R185: an IDENTIFY of wrong length is answered with BAD_LENGTH in the size of its reply. -/
theorem test_identify_length :
    ((after (.identify sigA [1]) live).portA.transmitter).map (·.payload)
      = some ([1, 1] ++ List.replicate 14 0) := by decide +kernel

/-- R178: RESTART KEEP closes the road. -/
theorem test_restartKeep :
    let t := after (.restartKeep sigA [1]) ready
    t.seq.state = .closed ∧ t.config.activeIdentity = 7 := by decide +kernel

/-- R178: RESTART DISCARD empties the set. -/
theorem test_restartDiscard :
    let t := after (.restartDiscard sigA) ready
    t.seq.state = .initSafe ∧ t.config.activeIdentity = 0 ∧ t.axle.sections = [] := by decide +kernel

/-- R171: two words at index 1 of the staged loop table. -/
theorem test_stageWrite :
    let t := (after (.stageWrite cfgA [1, 0, 1, 0x12, 0x34, 0x56, 0x78]) live).config.staged.loop
    t.words.take 4 = [0, 0x1234, 0x5678, 0] ∧ t.writeIndex = 3 := by decide +kernel

/-- R172: two words read back from the read index. -/
theorem test_stageRead :
    (after (.stageRead cfgA [3, 0xFF, 0xFF, 2]) ready).portA.transmitter.map (fun t => t.payload)
      = some [3, 0, 0, 0, 0, 0, 2, 0x0A, 0xDA, 0x01, 0x2C] := by decide +kernel

/-- R174: identity 0 is refused. -/
theorem test_activate :
    ((after (.activate cfgA [0, 0, 0, 0]) live).portA.transmitter).map (fun t => t.payload.take 3)
      = some [0, 0, 1] := by decide +kernel

/-- R179: an all-zero staged loop table is refused with NO_CONFIG_WINDOW. -/
theorem test_activateLoop_zero :
    checkLoop (tableCrc (List.replicate 42 0)) (List.replicate 42 0) safetyEmpty = some .noConfigWindow := by
  simp [checkLoop, firstReason]

/-- R175: nothing is pending. -/
theorem test_confirm :
    ((after (.confirm sigA [0, 7]) live).portA.transmitter).map (·.payload) = some [0, 7, 1, 23, 0] := by
  decide +kernel

/-- R176: from INIT_SAFE a set takes effect and the road is CLOSED. -/
theorem test_takesEffect :
    let t := after .activationTakesEffect { live with config := { live.config with
      staged := staged, activation := .awaitQuiescent, pendingSet := some (7, 9) } }
    t.seq.state = .closed ∧ t.config.activeIdentity = 7 ∧ t.axle.sections.length = 8 := by decide +kernel

/-- R155: a silent port is DOWN. -/
theorem test_portSilence :
    let t := after (.portSilenceExpiry .b) { ready with timebase := 1000 }
    t.portB.link = .down ∧ t.fault.isActive .portDown = true := by decide +kernel

/-- R156: a FILL is sent at the idle expiry. -/
theorem test_idle :
    (after (.idleExpiry .a) { State.reset with timebase := 250 }).portA.transmitter = some ⟨0, 0, 0, []⟩ := by
  decide +kernel

/-- R156: the idle expiry is set 250 ms after a completion. -/
theorem test_complete :
    let t := after (.transmissionComplete .a) { live with timebase := 10, portA := portBusy }
    t.portA.transmitter = none ∧ t.portA.idle = some 260 := by decide +kernel

/-- R165: one telegram for each slot of port A: two lie beside a free transmitter's first. -/
theorem test_refresh :
    let t := after .refreshExpiry { ready with timebase := 500 }
    t.portA.command.length = 2 ∧ t.portA.transmitter.isSome = true ∧ t.cmd.refresh = some 1000 := by
  decide +kernel

/-- R179: a reset with strap 5 has the own address 80. -/
theorem test_reset : (after (.hardwareReset 5) ready).ownAddress = 80 := by decide +kernel

/-! ## Witnesses: what the statements suppose is met by states and operands -/

/-- The loop set of a reset takes telegrams at window 2 in the FIELD role. -/
theorem consumed_field {s : State} {src : Addr} (h : s.window.loopTable = strapLoopTable 0)
    (hp : s.portA.link = .up) (hs : src ≠ 0) : Consumed .field s (fieldA src) := by
  refine ⟨hp, ?_, windowOf (strapLoopTable 0) 2, ?_, Or.inl ?_, ?_⟩
  · rw [State.ownAddress, State.loopTab, h]; exact hs
  · show decidingWindow s.window.loopTable 2 = _
    rw [h]; decide
  · decide
  · decide

/-- Nothing waits to take effect where the activation state is IDLE. -/
theorem idle {s : State} (h : s.config.activation = .idle) : NotAwaiting s := by
  rw [NotAwaiting, h]; decide

/-- A request at window 1, with room for its reply. -/
theorem requested_sig {s : State} {k : RequestKind} (h : s.window.loopTable = strapLoopTable 0)
    (hp : s.portA.link = .up) (hr : s.portA.reply.length < 4) (hk : requestAllowed .signaller k = true) :
    Requested k s sigA := by
  refine ⟨⟨.signaller, ⟨hp, ?_, windowOf (strapLoopTable 0) 1, ?_, Or.inl ?_, ?_⟩, hk⟩, hr⟩
  · rw [State.ownAddress, State.loopTab, h]; decide
  · rw [State.loopTab, h]; decide
  · decide
  · decide

/-- A request at window 0, with room for its reply. -/
theorem requested_cfg {s : State} {k : RequestKind} (h : s.window.loopTable = strapLoopTable 0)
    (hp : s.portA.link = .up) (hr : s.portA.reply.length < 4) (hk : requestAllowed .config k = true) :
    Requested k s cfgA := by
  refine ⟨⟨.config, ⟨hp, ?_, windowOf (strapLoopTable 0) 0, ?_, Or.inl ?_, ?_⟩, hk⟩, hr⟩
  · rw [State.ownAddress, State.loopTab, h]; decide
  · rw [State.loopTab, h]; decide
  · decide
  · decide

/-- O2: nothing due at reset; an idle expiry due 250 ms later. -/
theorem witness_EmptyQueueIsTime :
    (State.reset.pending = [] ∧ dueCommands State.reset = [])
      ∧ ({ State.reset with timebase := 250 }.pending = []
        ∧ (dueCommands { State.reset with timebase := 250 }).head? = some (.idleExpiry .a)) := by
  decide +kernel

/-- O5: a length field of 49, a byte too few, a wrong CRC. -/
theorem witness_BadFrameHasNoEffect :
    48 < (([0, 2, 1, 6, 0x10, 49] : List Byte).getD 5 0).toNat
      ∧ ([0, 2, 1, 6, 0x10, 0, 0] : List Byte).length ≠ (([0, 2, 1, 6, 0x10, 0, 0] : List Byte).getD 5 0).toNat + 8
      ∧ crc16 (([0, 2, 1, 6, 0x10, 0, 0, 0] : List Byte).take 6)
        ≠ wordOf (([0, 2, 1, 6, 0x10, 0, 0, 0] : List Byte).getD 6 0)
          (([0, 2, 1, 6, 0x10, 0, 0, 0] : List Byte).getD 7 0) := by decide +kernel

/-- O6: the longest payload, and a good frame. -/
theorem witness_FramesAndTelegrams :
    (List.replicate 48 (0 : Byte)).length ≤ 48
      ∧ parseFrame (frameBytes someTelegram) = some someTelegram := by decide +kernel

/-- O7: an UP port; a DOWN one, of a part with a safety set; the longest payload. -/
theorem witness_FillTelegrams :
    (live.port .a).link = .up ∧ (fieldA 5).port = .a ∧ (List.replicate 48 (0 : Byte)).length ≤ 48
      ∧ let s := { ready with portA := portReset }
        (s.port (fieldA 5).port).link = .down ∧ (fieldA 5).port = s.signallerPort ∧ s.safetyActive = true := by
  decide +kernel

/-- O8: a WHEEL on a DOWN port. -/
theorem witness_DownPortReceivesInTwoEvents :
    carried State.reset.ownAddress (.wheel (fieldA 0x106) [1, 0, 0, 10])
        = some (.a, ⟨2, 0x106, 0x10, [1, 0, 0, 10]⟩)
      ∧ ([1, 0, 0, 10] : List Byte).length ≤ 48 ∧ (State.reset.port .a).link = .down := by decide +kernel

/-- O9: a destination that window 2 hits, and one no window hits. -/
theorem witness_LowestHitDecides :
    decidingWindow (strapLoopTable 0) 2 = some (windowOf (strapLoopTable 0) 2)
      ∧ decidingWindow (strapLoopTable 0) 3 = none := by decide

/-- A loop set whose window 3 passes what it hits, translated. -/
def passing : State :=
  { live with window := { live.window with
      loopTable := (strapLoopTable 0).take 12 ++ [0x105, 0x777, 0xFFFF, 0x2000] ++ (strapLoopTable 0).drop 16 } }

/-- The loop set of `passing` with its window 3 a COPY window for the FIELD role. -/
def copying : State :=
  { live with window := { live.window with
      loopTable := (strapLoopTable 0).take 12 ++ [0x37, 0x777, 0xFFFF, 0x2000] ++ (strapLoopTable 0).drop 16 } }

/-- O10: no window hits, or a PASS window does, or a CONSUME or a COPY one; the other port UP with room, DOWN,
full. -/
theorem witness_PassedCopy :
    Arrived .a someTelegram live ∧ decidingWindow live.loopTab someTelegram.dst = none
      ∧ Arrived .a someTelegram passing
      ∧ (decidingWindow passing.loopTab someTelegram.dst).map (fun w => (w.action, w.translate))
        = some (some .pass, true)
      ∧ (live.port (Port.other .a)).link = .up ∧ (live.port (Port.other .a)).forward.length < 8
      ∧ ({ live with portB := portReset }.port (Port.other .a)).link = .down
      ∧ 8 ≤ ({ live with portB := { portBusy with
          forward := List.replicate 8 ⟨someTelegram, 0, none⟩ } }.port (Port.other .a)).forward.length
      ∧ carried live.ownAddress (.passedCopy .a someTelegram) = some (.a, someTelegram)
      ∧ (decidingWindow live.loopTab 2).map (·.action) = some (some .consume)
      ∧ Arrived .a someTelegram copying
      ∧ (decidingWindow copying.loopTab someTelegram.dst).map (fun w => (w.action, w.role))
        = some (some .copy, some .field)
      ∧ (let u := consume .a someTelegram (some .field) (hearLink .a copying)
         (u.port (Port.other .a)).link = .up ∧ (u.port (Port.other .a)).forward.length < 8)
      ∧ (let u := consume .a someTelegram (some .field) (hearLink .a { copying with portB := portReset })
         (u.port (Port.other .a)).link = .down) :=
  ⟨⟨rfl, by decide, by decide, by decide⟩, by decide +kernel, ⟨rfl, by decide, by decide, by decide⟩,
    by decide +kernel, rfl, by decide, rfl, by decide, rfl, by decide +kernel,
    ⟨rfl, by decide, by decide, by decide⟩, by decide +kernel, by decide +kernel, by decide +kernel⟩

/-- O11: a kind refused at each of the three windows; reports of each kind from a source of another type; reports of
each kind that do not fit, by length and by code. -/
theorem witness_RoleMismatch :
    (∀ x ∈ [((2 : Addr), (0x40 : Byte), Role.field), (1, 0x10, .signaller), (0, 0x40, .config)],
      Arrived .a ⟨x.1, 5, x.2.1, []⟩ live
      ∧ (decidingWindow live.loopTab x.1).map (fun w => (w.action, w.role)) = some (some .consume, some x.2.2))
    ∧ (∀ (kind : Byte) (src : Addr), kind ≠ 0 → src ≠ 0 → Arrived .a ⟨2, src, kind, []⟩ ready)
    ∧ [(0x200 : Addr), 0x202, 0x106, 0x206].all ready.knownSource = true
    ∧ detectorAt ready.detTab 0x200 = none ∧ detectorAt ready.detTab 0x202 = none
    ∧ moduleOfTypeAt ready.eqTab .lamp 0x106 = none ∧ moduleOfTypeAt ready.eqTab .barrier 0x206 = none
    ∧ moduleOfTypeAt ready.eqTab .presence 0x200 = none
    ∧ NotAwaiting ready ∧ ProofSound ready
    ∧ (detectorAt ready.detTab 0x106).isSome = true ∧ (moduleOfTypeAt ready.eqTab .lamp 0x200).isSome = true
    ∧ (moduleOfTypeAt ready.eqTab .barrier 0x202).isSome = true
    ∧ (moduleOfTypeAt ready.eqTab .presence 0x206).isSome = true
    ∧ byteAt [3, 0, 0, 0] 0 ≠ 1 ∧ byteAt [3, 0, 0, 0] 0 ≠ 2 ∧ byteAt [9, 0] 1 ≠ 1 ∧ byteAt [9, 0] 1 ≠ 2
    ∧ 2 < (byteAt [3, 1, 0] (3 * 0)).toNat ∧ byteAt [0, 0, 0] (3 * 0 + 1) ≠ 1
    ∧ 4 < (byteAt [5, 0] 0).toNat ∧ 2 < (byteAt [1, 3] 1).toNat ∧ byteAt [0] 0 ≠ 1
    ∧ carried ready.ownAddress (.wheel (fieldA 0x106) [3, 0, 0, 0]) = some (.a, ⟨2, 0x106, 0x10, [3, 0, 0, 0]⟩) := by
  refine ⟨?_, ?_, ?_⟩
  · intro x hx
    fin_cases hx <;> exact ⟨⟨rfl, by decide, by decide, by decide⟩, by decide +kernel⟩
  · intro kind src hk hs
    have ho : ready.ownAddress = 0 := by decide +kernel
    refine ⟨rfl, Nat.zero_le _, hk, ?_⟩
    rw [ho]
    exact hs
  · refine ⟨by decide +kernel, by decide +kernel, by decide +kernel, by decide +kernel, by decide +kernel,
      by decide +kernel, idle rfl, ?_, ?_⟩
    · show ready.barrier.proved = ready.crossingProof
      decide +kernel
    · decide +kernel

/-- O12: a source in no table, into a list with room and a full one, and one already listed. -/
theorem witness_Stranger :
    carried ready.ownAddress (.wheel (fieldA 0x999) []) = some (.a, ⟨2, 0x999, 0x10, []⟩)
      ∧ Arrived .a ⟨2, 0x999, 0x10, []⟩ ready
      ∧ (decidingWindow ready.loopTab 2).map (fun w => (w.action, w.role)) = some (some .consume, some .field)
      ∧ (∀ d < 32, (detectorOf ready.detTab d).addr ≠ 0x999)
      ∧ (∀ m < 10, (moduleOf ready.eqTab m).addr ≠ 0x999)
      ∧ (0x999 : Addr) ∉ ready.window.strangers ∧ ready.window.strangers.length < 16
      ∧ ((List.range 16).map (BitVec.ofNat 16)).length = 16
      ∧ (0x999 : Addr) ∉ (List.range 16).map (BitVec.ofNat 16) ∧ (0x999 : Addr) ∈ [(0x999 : Addr)] :=
  ⟨by decide +kernel, ⟨rfl, by decide, by decide, by decide⟩, by decide +kernel, by decide +kernel,
    by decide +kernel, by decide, by decide, by decide, by decide, by decide⟩

/-- O13: section 1 of track 1 in every state with every balance, counted at detector 5. -/
theorem witness_AxleCounting (st : SectionState) (b : Nat) :
    (withSections st b ready).sectionAt ((withSections st b ready).trackOf 5) 1 = some ⟨1, 1, b, st⟩ := by
  have h : (withSections st b ready).trackOf 5 = 1 := by
    show ready.trackOf 5 = 1
    decide +kernel
  rw [h]
  have : allSections detectorTable = [(1, 0), (1, 1), (1, 2), (1, 3), (2, 0), (2, 1), (2, 2), (2, 3)] := by
    decide +kernel
  simp [withSections, State.sectionAt, sectionsAll, this]

/-- O14: a wheel without and with a gap; a section out at 0 and one in at 1023. -/
theorem witness_WheelCounted :
    NotAwaiting ready ∧ Consumed .field ready (fieldA 0x108) ∧ detectorAt ready.detTab 0x108 = some 8
      ∧ ready.detectorRecord 8 = some detectorOk
      ∧ ([1, 0, 0, 10] : List Byte).length = 4 ∧ byteAt [1, 0, 0, 10] 0 = 1 ∧ byteAt [2, 0, 0, 11] 0 = 2
      ∧ detectorOk.lastSeq.any (fun q => byteAt [2, 0, 0, 11] 3 ≠ q + 1) = true
      ∧ sectionOut ready.detTab 8 .up = some 0 ∧ ready.sectionAt (ready.trackOf 8) 0 = some ⟨1, 0, 0, .clear⟩
      ∧ sectionIn ready.detTab 8 .up = some 1
      ∧ (withSections .occupied 1023 ready).sectionAt (ready.trackOf 8) 1 = some ⟨1, 1, 1023, .occupied⟩ :=
  ⟨idle rfl, consumed_field rfl rfl (by decide), by decide +kernel, by decide +kernel, rfl, by decide, by decide,
    by decide, by decide +kernel, by decide +kernel, by decide +kernel, by decide +kernel⟩

/-- O15: a new train with an empty pool, and after a train whose entry is closed; an entry that is open, at
its last count but one; a merge into the fourth train of the approach; a full pool without a train of the approach,
and an open entry at its last count. -/
theorem witness_StrikeInWheel :
    WheelAt ready (fieldA 0x106) [1, 0, 0, 10] 6 .up ∧ approachIndex (ready.trackOf 6) .up = 2
      ∧ pathIndex ready.detTab 2 6 = some 0 ∧ ready.newest 2 = none
      ∧ ready.tracker.records.length < 16 ∧ (ready.recordsOf 2).length < 4
      ∧ (let s := withTrains [{ train 2 .warned [4, 0, 0, 0] with entryOpen := false }]
         s.newest 2 = some 0 ∧ (s.tracker.records.map (·.entryOpen)) = [false])
      ∧ (let s := withTrains [train 2 .approaching [1022, 0, 0, 0]]
         WheelAt s (fieldA 0x106) [1, 0, 0, 10] 6 .up ∧ s.newest 2 = some 0
          ∧ s.tracker.records[0]? = some (train 2 .approaching [1022, 0, 0, 0])
          ∧ (train 2 .approaching [1022, 0, 0, 0]).entryOpen = true
          ∧ passedAt (train 2 .approaching [1022, 0, 0, 0]) 0 < 1023)
      ∧ (let x := { train 2 .approaching [4, 0, 0, 0] with entryOpen := false }
         let s := withTrains (List.replicate 4 x)
         s.newest 2 = some 3 ∧ s.tracker.records[3]? = some x ∧ passedAt x 0 < 1023 ∧ x.entryOpen = false
          ∧ 4 ≤ (s.recordsOf 2).length ∧ x.scheduledStart.isSome = true)
      ∧ (let s := withTrains (List.replicate 16 (train 5 .warned [4, 0, 0, 0]))
         s.newest 2 = none ∧ 16 ≤ s.tracker.records.length ∧ 2 < s.tracker.overflow.length
          ∧ trackSound s.detTab (s.trackOf 6) = true)
      ∧ (let s := withTrains [train 2 .warned [1023, 0, 0, 0]]
         s.newest 2 = some 0 ∧ 1023 ≤ passedAt (train 2 .warned [1023, 0, 0, 0]) 0) :=
  ⟨⟨idle rfl, consumed_field rfl rfl (by decide), by decide +kernel, by decide +kernel, rfl, Or.inl (by decide),
      by decide +kernel⟩, by decide +kernel, by decide +kernel, rfl, by decide, by decide, by decide +kernel,
    ⟨⟨idle rfl, consumed_field rfl rfl (by decide), by decide +kernel, by decide +kernel, rfl, Or.inl (by decide),
      by decide +kernel⟩, by decide +kernel, rfl, rfl, by decide⟩,
    by decide +kernel, by decide +kernel, by decide +kernel⟩

/-- O16: the second of two trains has an axle to give at detector 8. -/
theorem witness_InwardWheel :
    let s := withTrains [train 2 .warned [4, 4, 4, 0], train 2 .warned [4, 3, 0, 0]]
    WheelAt s (fieldA 0x108) [1, 0, 0, 10] 8 .up
      ∧ pathIndex s.detTab (approachIndex (s.trackOf 8) .up) 8 = some (0 + 1)
      ∧ s.tracker.records[1]? = some (train 2 .warned [4, 3, 0, 0])
      ∧ (train 2 .warned [4, 3, 0, 0]).approach = approachIndex (s.trackOf 8) .up
      ∧ passedAt (train 2 .warned [4, 3, 0, 0]) 1 < passedAt (train 2 .warned [4, 3, 0, 0]) 0
      ∧ passedAt (train 2 .warned [4, 4, 4, 0]) 0 ≤ passedAt (train 2 .warned [4, 4, 4, 0]) 1 :=
  ⟨⟨idle rfl, consumed_field rfl rfl (by decide), by decide +kernel, by decide +kernel, rfl, Or.inl (by decide),
    by decide +kernel⟩, by decide +kernel, rfl, by decide +kernel, by decide, by decide⟩

/-- O17: a train backing away at the detector behind the strike-in, at the strike-in itself, where its last axle
retires it, and at the island-entry, which stands on the inward path of approach 3 too. -/
theorem witness_OutwardWheel :
    (let s := withTrains [train 2 .warned [2, 1, 0, 0]]
     let w : WheelPassage := ⟨8, 1, .down, 0, 0, false⟩
     pathIndex s.detTab (approachIndex w.track w.direction) w.detector = none
      ∧ pathIndex s.detTab (approachIndex w.track w.direction.opposite) w.detector = some 1
      ∧ passedAt (train 2 .warned [2, 1, 0, 0]) 2 < passedAt (train 2 .warned [2, 1, 0, 0]) 1
      ∧ retirement s.detTab (train 2 .warned [2, 0, 0, 0]) = none)
    ∧ (let s := withTrains [train 2 .warned [1, 0, 0, 0]]
       let w : WheelPassage := ⟨6, 1, .down, 0, 0, false⟩
       pathIndex s.detTab (approachIndex w.track w.direction) w.detector = none
        ∧ pathIndex s.detTab (approachIndex w.track w.direction.opposite) w.detector = some 0
        ∧ (retirement s.detTab (train 2 .warned [0, 0, 0, 0])).isSome = true)
    ∧ (let s := withTrains [train 2 .warned [2, 2, 2, 0]]
       let w : WheelPassage := ⟨5, 1, .down, 0, 0, false⟩
       pathIndex s.detTab (approachIndex w.track w.direction) w.detector = some (1 + 1)
        ∧ (∀ r ∈ s.tracker.records, r.approach = approachIndex w.track w.direction →
            passedAt r 1 ≤ passedAt r (1 + 1))
        ∧ pathIndex s.detTab (approachIndex w.track w.direction.opposite) w.detector = some 2
        ∧ passedAt (train 2 .warned [2, 2, 2, 0]) 3 < passedAt (train 2 .warned [2, 2, 2, 0]) 2) := by
  decide +kernel

/-- O18: an achieved warning just below, at and above the bounds of approach 5 (27000 and 40000 ms). -/
theorem witness_IslandEntry :
    (approachOf ready.appTab 5).twMin = 27000
      ∧ (approachOf ready.appTab 5).twTarget + (approachOf ready.appTab 5).twTol = 40000
      ∧ (train 5 .approaching [1, 1, 0, 0]).state = .approaching ∧ (train 5 .warned [1, 1, 0, 0]).state ≠ .approaching
      ∧ ({ train 5 .warned [1, 1, 0, 0] with short := true }).short = true
      ∧ (let w : WheelPassage := ⟨14, 2, .down, 0, 15000, false⟩
         let r := train 5 .approaching [1, 1, 0, 0]
         (w.passage + BitVec.ofNat 32 (worstArrival (approachOf ready.appTab 5) (ready.distanceCm w.detector)
            (ready.callSpeed w r)) - ready.reference).toInt < (approachOf ready.appTab 5).twMin) := by
  decide +kernel

/-- O19: a heartbeat with a gap and a fault, and a good one, of a detector that is OK and one that is FAILED. -/
theorem witness_Heartbeat :
    NotAwaiting ready ∧ Consumed .field ready (fieldA 0x106) ∧ detectorAt ready.detTab 0x106 = some 6
      ∧ ready.detectorRecord 6 = some detectorOk ∧ ([9, 2] : List Byte).length = 2
      ∧ byteAt [10, 2] 1 = 2 ∧ byteAt [9, 1] 1 = 1 ∧ detectorOk.lastSeq.any (fun q => byteAt [10, 2] 0 ≠ q) = true
      ∧ detectorOk.state ≠ .failed .headFault :=
  ⟨idle rfl, consumed_field rfl rfl (by decide), by decide +kernel, by decide +kernel, rfl, by decide, by decide,
    by decide, by decide⟩

/-- O20: a detector's silence expiry now. -/
theorem witness_DetectorSilence :
    let s := { ready with timebase := 2000 }
    NotAwaiting s ∧ s.detectorRecord 6 = some detectorOk ∧ detectorOk.silence = some s.now
      ∧ detectorOk.state ≠ .failed .silent := by
  refine ⟨idle rfl, ?_, rfl, by decide⟩
  decide +kernel

/-- O21: an entry gap expiry now, of a train that stays and of one that has passed. -/
theorem witness_EntryGap :
    let s := { withTrains [train 2 .warned [4, 2, 0, 0]] with timebase := 5000 }
    NotAwaiting s ∧ s.recordWithTag 40 = some (0, train 2 .warned [4, 2, 0, 0])
      ∧ (train 2 .warned [4, 2, 0, 0]).entryOpen = true
      ∧ timePlus (train 2 .warned [4, 2, 0, 0]).lastEntry (tGapOf s.crTab) = s.now
      ∧ (retirement s.detTab { train 2 .warned [4, 2, 0, 0] with entryOpen := false }).isNone = true
      ∧ (retirement s.detTab { train 2 .inIsland [4, 4, 4, 4] with entryOpen := false }).isNone = false := by
  refine ⟨idle rfl, ?_⟩
  decide +kernel

/-- O22: a scheduled start now, in OPEN. -/
theorem witness_ScheduledStartCloses :
    let s := withTrains [train 2 .approaching [4, 0, 0, 0]]
    NotAwaiting s ∧ s.recordWithTag 40 = some (0, train 2 .approaching [4, 0, 0, 0])
      ∧ (train 2 .approaching [4, 0, 0, 0]).state = .approaching
      ∧ (train 2 .approaching [4, 0, 0, 0]).scheduledStart = some s.now ∧ s.seq.state = .opened := by
  refine ⟨idle rfl, ?_⟩
  decide +kernel

/-- O23: an approach of the demo tables; a head interval of 0 and one above it; calls at a near and at a far detector,
whose available warnings lie on either side of TW_min; a record that is MERGED with a start, and one that is not. -/
theorem witness_SpeedAndArrivals :
    (approachOf ready.appTab 5).vFloor ≤ 7000 ∧ (⟨16, 2, .down, 0, 0, false⟩ : WheelPassage).interval = 0
      ∧ 0 < (⟨16, 2, .down, 0, 15000, false⟩ : WheelPassage).interval
      ∧ 0 < (1000 : Nat) ∧ 0 < (approachOf ready.appTab 5).aMax
      ∧ (let available := fun d => ((0 : Time) + BitVec.ofNat 32 (worstArrival (approachOf ready.appTab 5)
            (ready.distanceCm d) (ready.callSpeed ⟨d, 2, .down, 0, 15000, false⟩
              (train 5 .approaching [1, 0, 0, 0]))) - ready.now).toInt
         available 14 < 27000 ∧ 27000 ≤ available 16)
      ∧ ready.callSpeed ⟨14, 2, .down, 0, 15000, false⟩ (train 5 .approaching [1, 0, 0, 0]) ≤ 2778
      ∧ ready.fault.isLatched .shortWarning = false
      ∧ (train 5 .approaching [1, 0, 0, 0]).merged = false
      ∧ (train 5 .approaching [1, 0, 0, 0]).scheduledStart = some 0 := by decide +kernel

/-- O24 and O25: the two expiries now, with an ENTRY barrier in use. -/
theorem witness_AmberExpiry_RedExpiry :
    { ready with seq := { seqAt .amber with amber := some 0 } }.seq.amber = some (0 : Time)
      ∧ { ready with seq := { seqAt .redFlash with red := some 0 } }.seq.red = some (0 : Time)
      ∧ ready.now = 0 ∧ 0 ∈ entryBarriers ready.eqTab ∧ (ready.barrierRecord 0).isSome = true := by
  decide +kernel

/-- The equipment table of `ready` with the barriers' words as given. -/
def withBarriers (ws : List Word) (s : State) : State :=
  { s with config := { s.config with tables := { s.config.tables with equipment := put 104 ws equipmentTable } } }

/-- The crossing table of `ready` with T_exit_delay 0. -/
def withoutExitDelay (s : State) : State :=
  { s with config := { s.config with tables := { s.config.tables with crossing := put 4 [0] crossingTable } } }

/-- No ENTRY barrier in use, barriers 2 and 3 EXIT barriers. -/
def exitOnly (s : State) : State := withBarriers [0, 0, 1, 0, 2, 2, 3, 258] s

/-- No EXIT barrier in use, barriers 0 and 1 ENTRY barriers. -/
def entryOnly (s : State) : State := withBarriers [0, 1, 1, 257, 2, 0, 3, 0] s

/-- An APPROACHING train due at a time. -/
def dueAt (t : Time) : TrainRecord := { train 2 .approaching [4, 0, 0, 0] with scheduledStart := some t }

/-- O25: the red expiry with no ENTRY barrier in use: with an exit delay and without, with an EXIT barrier raised
and with none, with demand, held, and neither. -/
theorem witness_RedExpiry_noEntry :
    (let s := exitOnly { ready with seq := { seqAt .redFlash with red := some 0 } }
     NotAwaiting s ∧ barriersInUse s.eqTab ≠ [] ∧ s.seq.red = some s.now ∧ entryBarriers s.eqTab = []
      ∧ tExitDelayOf s.crTab ≠ 0 ∧ tExitDelayOf (withoutExitDelay s).crTab = 0
      ∧ 2 ∈ exitBarriers (withoutExitDelay s).eqTab ∧ s.barrierRecord 2 = some barrierUp)
    ∧ (let s := withoutExitDelay (withBarriers [0, 0, 1, 0, 2, 0, 3, 0]
        { ready with seq := { seqAt .redFlash with red := some 0 } })
       NotAwaiting s ∧ entryBarriers s.eqTab = [] ∧ exitBarriers s.eqTab = [] ∧ barriersInUse s.eqTab = []
        ∧ tExitDelayOf s.crTab = 0 ∧ s.demand = false) := by
  refine ⟨⟨idle rfl, ?_⟩, idle rfl, ?_⟩ <;> decide +kernel

/-- What holds CLOSED, at its limit: a start before the end of the reopen window, and one at its end. -/
theorem reopenHeld_boundary :
    ReopenHeld (withTrains [dueAt 19999]) ∧ ¬ ReopenHeld (withTrains [dueAt 20000]) ∧ ¬ ReopenHeld ready := by
  refine ⟨⟨dueAt 19999, by decide, by decide, 19999, by decide, by decide +kernel⟩, ?_, ?_⟩
  · rintro ⟨r, hr, -, x, hx, hlt⟩
    obtain rfl : r = dueAt 20000 := List.mem_singleton.mp hr
    obtain rfl : x = 20000 := by simpa [dueAt] using hx.symm
    exact absurd hlt (by decide +kernel)
  · rintro ⟨r, hr, -⟩
    exact absurd (show r ∈ ([] : List TrainRecord) from hr) List.not_mem_nil

/-- O26: the exit delay expiry with no EXIT barrier in use: with demand, held, and neither. -/
theorem witness_ExitDelayExpiry_noExit :
    let s := entryOnly (phase { seqAt .exitLowering with exitDelay := some 0 } barrierDown)
    NotAwaiting s ∧ s.seq.exitDelay = some s.now ∧ exitBarriers s.eqTab = [] ∧ barriersInUse s.eqTab ≠ []
      ∧ s.demand = false ∧ { s with tracker := { s.tracker with records := [dueAt 19999] } }.demand = false
      ∧ { s with tracker := { s.tracker with records := [train 2 .warned [4, 4, 0, 0]] } }.demand = true := by
  refine ⟨idle rfl, ?_⟩
  decide +kernel

/-- O26: the exit delay expiry now, with the zone clear and with it occupied. -/
theorem witness_ExitDelayExpiry :
    let s := phase { seqAt .exitLowering with exitDelay := some 0 } barrierUp
    NotAwaiting s ∧ s.seq.exitDelay = some s.now ∧ 2 ∈ exitBarriers s.eqTab ∧ s.barrierRecord 2 = some barrierUp
      ∧ barrierUp.commanded = .raise ∧ s.occupied = false
      ∧ { s with barrier := { s.barrier with presence := [⟨.ok, none, .present⟩] } }.occupied = true := by
  refine ⟨idle rfl, ?_⟩
  decide +kernel

/-- O27: the long closure expiry now, with demand and without. -/
theorem witness_LongClosureExpiry :
    let s := phase { seqAt .closed with longClosure := some 0 } barrierDown
    NotAwaiting s ∧ s.seq.longClosure = some s.now ∧ s.demand = false ∧ s.seq.prolonged = false
      ∧ s.fault.isActive .prolongedClosure = false ∧ s.fault.isLatched .prolongedClosure = false
      ∧ { s with tracker := { s.tracker with records := [train 2 .warned [4, 4, 0, 0]] } }.demand = true := by
  refine ⟨idle rfl, ?_⟩
  decide +kernel

/-- O28: the proving expiry of a barrier whose proof is under way. -/
theorem endsProof_proving (q : Sequencer) (b : Fin 4) (hb : b.val < 4) :
    EndsProof (.provingExpiry b) { phase q barrierLowering with timebase := 10000 } b.val
      (recordLost .expired barrierLowering) := by
  have h : ({ phase q barrierLowering with timebase := 10000 } : State).barrierRecord b.val
      = some barrierLowering := by
    match b with
    | 0 => rfl
    | 1 => rfl
    | 2 => rfl
    | 3 => rfl
  exact ⟨barrierLowering, h, rfl, rfl, hb, Or.inl ⟨b, rfl, rfl, rfl, rfl⟩⟩

/-- A part with barrier `b`'s proof under way beside others that are resolved. -/
def lastProof (q : Sequencer) (others : BarrierRecord) (b : Nat) (r : BarrierRecord) : State :=
  { ready with
    timebase := 10000
    seq := q
    barrier := { ready.barrier with barriers := (List.replicate 4 (some others)).set b (some r) }
    tracker := { ready.tracker with records := [train 2 .warned [4, 4, 0, 0]] } }

/-- O28: in each of the three phases the last barrier waited for, and one that is not the last. -/
theorem witness_PhaseEnds :
    (let s := lastProof (seqAt .entryLowering) barrierDown 0 barrierLowering
     NotAwaiting s ∧ s.barrierRecord 0 = some barrierLowering ∧ barrierLowering.provingExpiry = some s.now
      ∧ 0 ∈ entryBarriers s.eqTab ∧ recordResolved .lower (recordLost .expired barrierLowering) = true
      ∧ (∀ x ∈ entryBarriers s.eqTab, x ≠ 0 → s.resolved .lower x = true) ∧ tExitDelayOf s.crTab ≠ 0)
    ∧ (let s := lastProof { seqAt .exitLowering with exitStarted := true } barrierDown 2 barrierLowering
       2 ∈ exitBarriers s.eqTab ∧ (∀ x ∈ exitBarriers s.eqTab, x ≠ 2 → s.resolved .lower x = true)
        ∧ s.demand = true)
    ∧ (let s := lastProof { seqInitSafe with state := .raising } barrierUp 0 barrierRaising
       0 ∈ barriersInUse s.eqTab ∧ recordResolved .raise (recordLost .expired barrierRaising) = true
        ∧ ∀ x ∈ barriersInUse s.eqTab, x ≠ 0 → s.resolved .raise x = true)
    ∧ (let s := phase (seqAt .entryLowering) barrierLowering
       (∃ x ∈ entryBarriers s.eqTab, x ≠ 0 ∧ s.resolved .lower x = false)
        ∧ (∃ x ∈ exitBarriers s.eqTab, x ≠ 2 ∧ s.resolved .lower x = false)
        ∧ ∃ x ∈ barriersInUse s.eqTab, x ≠ 0 ∧ s.resolved .raise x = false) := by
  refine ⟨⟨idle rfl, ?_⟩, ?_, ?_, ?_⟩ <;> decide +kernel

/-- O28: the last ENTRY barrier resolved with T_exit_delay 0, with an EXIT barrier raised, the zone clear or
occupied, and with none in use. -/
theorem witness_PhaseEnds_noExitDelay :
    (let s := withoutExitDelay (lastProof (seqAt .entryLowering) barrierUp 0 barrierLowering)
     let s := { s with barrier := { s.barrier with
      barriers := [some barrierLowering, some barrierDown, some barrierUp, some barrierUp] } }
     NotAwaiting s ∧ tExitDelayOf s.crTab = 0 ∧ s.barrierRecord 0 = some barrierLowering
      ∧ barrierLowering.provingExpiry = some s.now ∧ 0 ∈ entryBarriers s.eqTab
      ∧ (∀ x ∈ entryBarriers s.eqTab, x ≠ 0 → s.resolved .lower x = true)
      ∧ 2 ∈ exitBarriers s.eqTab ∧ s.barrierRecord 2 = some barrierUp ∧ s.occupied = false
      ∧ { s with barrier := { s.barrier with presence := [⟨.ok, none, .present⟩] } }.occupied = true)
    ∧ (let s := entryOnly (withoutExitDelay (lastProof (seqAt .entryLowering) barrierDown 0 barrierLowering))
       exitBarriers s.eqTab = [] ∧ 0 ∈ entryBarriers s.eqTab
        ∧ ∀ x ∈ entryBarriers s.eqTab, x ≠ 0 → s.resolved .lower x = true) := by
  refine ⟨⟨idle rfl, ?_⟩, ?_⟩ <;> decide +kernel

/-- O28: the last EXIT barrier resolved with demand absent (what holds CLOSED: `reopenHeld_boundary`). -/
theorem witness_PhaseEnds_noDemand :
    let s := lastProof { seqAt .exitLowering with exitStarted := true } barrierDown 2 barrierLowering
    let s := { s with tracker := { s.tracker with records := [] } }
    NotAwaiting s ∧ 2 ∈ exitBarriers s.eqTab ∧ s.barrierRecord 2 = some barrierLowering
      ∧ barrierLowering.provingExpiry = some s.now
      ∧ recordResolved .lower (recordLost .expired barrierLowering) = true
      ∧ (∀ x ∈ exitBarriers s.eqTab, x ≠ 2 → s.resolved .lower x = true) ∧ s.demand = false := by
  refine ⟨idle rfl, ?_⟩
  decide +kernel

/-- O29: RAISING with demand and no ENTRY barrier in use. -/
theorem witness_ActsOnDemand_noEntry :
    let s := exitOnly (withTrains [train 2 .warned [4, 0, 0, 0]])
    let s := { s with seq := { seqInitSafe with state := .raising } }
    s.demand = true ∧ entryBarriers s.eqTab = [] ∧ tExitDelayOf s.crTab ≠ 0 ∧ 2 ∈ exitBarriers s.eqTab
      ∧ s.barrierRecord 2 = some barrierUp := by
  decide +kernel

/-- O29: each phase with demand, CLOSED without it, held and not held. -/
theorem witness_ActsOnDemand :
    (withTrains [train 2 .warned [4, 0, 0, 0]]).demand = true ∧ ready.demand = false
      ∧ (entryBarriers ready.eqTab).any (fun b => (ready.barrierRecord b).isSome) = true
      ∧ (let s := withTrains [{ train 2 .approaching [4, 0, 0, 0] with scheduledStart := some 100 }]
         s.demand = false ∧ (s.tracker.records.any fun r => r.state = .approaching
          && r.scheduledStart.any fun x => timeBefore x (timePlus s.now (tReopenMinOf s.crTab))) = true) := by
  decide +kernel

/-- O30: the least N_lamp, with a run that reaches it and one that does not at the next. -/
theorem witness_JudgedSample : 0 < 1 ∧ 1 ≤ 0 + 1 ∧ 0 + 1 < 2 := by decide

/-- O31: a LAMP_REPORT of four valid channels, whose third is steady and lit as a red lamp of AMBER is not. -/
theorem witness_LampReport :
    Consumed .field ready (fieldA 0x200) ∧ moduleOfTypeAt ready.eqTab .lamp 0x200 = some 0
      ∧ ([0, 2, 0, 0, 2, 0, 1, 1, 30, 0, 2, 0] : List Byte).length = 12
      ∧ ∀ c < 4, (channelReport [0, 2, 0, 0, 2, 0, 1, 1, 30, 0, 2, 0] c).isSome = true :=
  ⟨consumed_field rfl rfl (by decide), by decide +kernel, rfl, by decide⟩

/-- O32: a lamp module's silence expiry now. -/
theorem witness_LampModuleSilence :
    let s := { ready with timebase := 2000 }
    s.lamp.modules[0]? = some ⟨.ok, some 2000, 0⟩
      ∧ (⟨.ok, some 2000, 0⟩ : LampModule).silence = some s.now := ⟨rfl, rfl⟩

/-- O33: a barrier proving, one that is NOT_PROVED and one proved, with matching and other reports. -/
theorem witness_ReportOnBarrier :
    barrierLowering.proving = true ∧ barrierLowering.commanded = .lower ∧ barrierUp.proving = false
      ∧ barrierUp.state = .provedUp ∧ barrierUp.commanded = .raise
      ∧ (recordLost .expired barrierLowering).state = .notProved
      ∧ (recordLost .expired barrierLowering).proving = false
      ∧ some BarrierCommand.raise ≠ some barrierLowering.commanded ∧ BarrierPosition.down ≠ .fault := by decide

/-- O34: a BARRIER_REPORT in OPEN. -/
theorem witness_BarrierReport :
    NotAwaiting ready ∧ Consumed .field ready (fieldA 0x202)
      ∧ moduleOfTypeAt ready.eqTab .barrier 0x202 = some 2
      ∧ barrierReportOf [2, 1] = some (.moving, some .raise)
      ∧ barrierOfModule ready.eqTab (typeIndex ready.eqTab .barrier 2) = some 0
      ∧ ready.barrierRecord 0 = some barrierUp
      ∧ ready.seq.state ∉ [SeqState.entryLowering, .exitLowering, .raising] :=
  ⟨idle rfl, consumed_field rfl rfl (by decide), by decide +kernel, by decide +kernel, by decide +kernel, rfl,
    by decide⟩

/-- O35: a proving expiry now in CLOSED; a barrier module's silence expiry now. -/
theorem witness_ProofLost :
    (let s := { phase (seqAt .closed) barrierLowering with timebase := 10000 }
     NotAwaiting s ∧ s.barrierRecord 0 = some barrierLowering ∧ barrierLowering.provingExpiry = some s.now
      ∧ s.seq.state ∉ [SeqState.entryLowering, .exitLowering, .raising]
      ∧ recordNotThere barrierLowering.commanded barrierLowering = false)
    ∧ (let s := { ready with timebase := 2000 }
       NotAwaiting s ∧ s.barrier.modules[0]? = some ⟨.ok, some 2000⟩
        ∧ (⟨.ok, some 2000⟩ : BarrierModule).silence = some s.now ∧ barrierOfModule s.eqTab 0 = some 0
        ∧ s.barrierRecord 0 = some barrierUp) := by
  refine ⟨⟨idle rfl, rfl, rfl, by decide, by decide⟩, idle rfl, rfl, rfl, ?_, rfl⟩
  decide +kernel

/-- O36: presence reported and silent, outside and within started exit lowering, the zone becoming clear and
occupied. -/
theorem witness_Presence :
    Consumed .field ready (fieldA 0x206) ∧ moduleOfTypeAt ready.eqTab .presence 0x206 = some 6
      ∧ ¬ (ready.seq.state = .exitLowering ∧ ready.seq.exitStarted = true)
      ∧ ({ ready with timebase := 2000 } : State).barrier.presence[1]? = some ⟨.ok, some 2000, .absent⟩
      ∧ (let s := phase { seqAt .exitLowering with exitStarted := true } barrierLowering
         Consumed .field s (fieldA 0x206) ∧ s.seq.state = .exitLowering ∧ s.seq.exitStarted = true
          ∧ s.occupied = false
          ∧ (s.barrier.presence.modify (typeIndex s.eqTab .presence 6) (fun x => { x with taken := .present })).any
            (fun x => x.taken = .present) = true)
      ∧ (let s := phase { seqAt .exitLowering with exitStarted := true } { barrierUp with held := true }
         let t := { s with barrier := { s.barrier with
           presence := [⟨.ok, none, .present⟩, ⟨.ok, none, .absent⟩] } }
         Consumed .field t (fieldA 0x206) ∧ t.occupied = true
          ∧ (t.barrier.presence.modify (typeIndex t.eqTab .presence 6) (fun x => { x with taken := .absent })).any
            (fun x => x.taken = .present) = false) :=
  ⟨consumed_field rfl rfl (by decide), by decide +kernel, by decide, rfl,
    ⟨consumed_field rfl rfl (by decide), rfl, rfl, by decide +kernel, by decide +kernel⟩,
    consumed_field rfl rfl (by decide), by decide +kernel, by decide +kernel⟩

/-- O37: an exit wait expiry now. -/
theorem witness_ExitWaitExpiry :
    let s := phase { seqAt .exitLowering with exitStarted := true }
      { barrierUp with held := true, exitWait := some 0 }
    s.barrierRecord 2 = some { barrierUp with held := true, exitWait := some 0 } ∧ s.now = 0
      ∧ s.fault.isActive .crossingObstructed = false ∧ s.fault.isLatched .crossingObstructed = false := by
  decide +kernel

/-- O38: a class with neither flag, one latched only and one with both. -/
theorem witness_FaultReports :
    let s := { ready with fault := { faultsQuiet with active := 1, latched := 5 } }
    s.fault.isActive .countOverflow = false ∧ s.fault.isLatched .countOverflow = false
      ∧ s.fault.isActive .wheelLoss = false ∧ s.fault.isLatched .wheelLoss = true
      ∧ s.fault.isActive .detectorSilent = true ∧ s.fault.isLatched .detectorSilent = true := by decide +kernel

/-- O39: the status period expiry now, a change of the reported content with the signaller port UP, and a head passage
short of the island-entry of the one train of an approach. -/
theorem witness_StatusTelegrams :
    (let s := { ready with timebase := 2000 }
     s.fault.statusExpiry = some s.now ∧ s.safetyActive = true ∧ (s.port s.signallerPort).link = .up)
    ∧ (let c : Instr := .presenceModuleSilenceExpiry 0
       let s := { ready with timebase := 2000 }
       let t := after c s
       carried s.ownAddress c = none ∧ t.safetyActive = true ∧ (t.port t.signallerPort).link = .up
        ∧ t.reported ≠ s.reported)
    ∧ (let x := train 2 .approaching [1, 0, 0, 0]
       let s := withTrains [x]
       WheelAt s (fieldA 0x108) [1, 0, 0, 10] 8 .up ∧ approachIndex (s.trackOf 8) .up = 2
        ∧ pathIndex s.detTab 2 8 = some (0 + 1) ∧ 0 + 1 < islandEntryIndex s.detTab 2
        ∧ s.tracker.records[0]? = some x ∧ x.approach = 2 ∧ passedAt x 1 = 0 ∧ 0 < passedAt x 0
        ∧ x.state = .approaching ∧ x.merged = false ∧ x.scheduledStart = some 0 ∧ s.earliestStart 2 = some 0
        ∧ s.safetyActive = true ∧ (s.port s.signallerPort).link = .up) := by
  refine ⟨by decide +kernel, by decide +kernel,
    ⟨idle rfl, consumed_field rfl rfl (by decide), by decide +kernel, by decide +kernel, rfl, Or.inl (by decide),
      by decide +kernel⟩, ?_⟩
  decide +kernel

/-- O40: an ACKNOWLEDGE is taken. -/
theorem witness_Acknowledge : Requested .acknowledge ready sigA :=
  requested_sig rfl rfl (by decide) rfl

/-- O41: a RESTORE that is accepted in either mode; one refused for each reason but BAD_LENGTH. -/
theorem witness_Restore :
    NotAwaiting ready ∧ Requested .restore ready sigA ∧ (ready.sectionAt 1 3).isSome = true
      ∧ checkRestore ready 1 3 (some .sweep) = none ∧ checkRestore ready 1 3 (some .direct) = none
      ∧ checkRestore ready 1 4 (some .direct) = some .noSection
      ∧ checkRestore ready 1 3 (restoreModeOfCode 0) = some .badMode
      ∧ checkRestore { ready with axle := { ready.axle with
          detectors := ready.axle.detectors.set 6 (some ⟨.unknown, none, none⟩) } } 1 0 (some .sweep)
        = some .detectorNotOk
      ∧ checkRestore (withTrains [train 2 .warned [4, 0, 0, 0]]) 1 0 (some .direct) = some .axlesHeld :=
  ⟨idle rfl, requested_sig rfl rfl (by decide) rfl, by decide +kernel, by decide +kernel, by decide +kernel,
    by decide +kernel, by decide +kernel, by decide +kernel, by decide +kernel⟩

/-- O42: both requests are taken; counts 0, 1, 4 and 5. -/
theorem witness_HistoryAndIdentity :
    Requested .historyRead ready sigA ∧ Requested .identify ready cfgA
      ∧ 1 ≤ (4 : Byte).toNat ∧ (4 : Byte).toNat ≤ 4 ∧ 4 < (5 : Byte).toNat :=
  ⟨requested_sig rfl rfl (by decide) rfl, requested_cfg rfl rfl (by decide) rfl, by decide, by decide, by decide⟩

/-- O43 and O44: a RESTART is taken with a safety set active, and with none; a mode that is no mode. -/
theorem witness_RestartKeep_RestartDiscard :
    Requested .restart ready sigA ∧ ready.safetyActive = true ∧ trackConfigured ready.detTab 1 = true
      ∧ Requested .restart live sigA ∧ live.safetyActive = false ∧ ProofSound ready
      ∧ (3 : Byte) ≠ 1 ∧ (3 : Byte) ≠ 2 := by
  refine ⟨requested_sig rfl rfl (by decide) rfl, by decide, by decide +kernel, requested_sig rfl rfl (by decide) rfl,
    by decide, ?_, by decide, by decide⟩
  show ready.barrier.proved = ready.crossingProof
  decide +kernel

/-- O45: a request with four replies waiting, and one of wrong length with room. -/
theorem witness_RequestNotTaken :
    (let s := { live with portA := { portBusy with reply := List.replicate 4 ⟨someTelegram, 0, none⟩ } }
     carried s.ownAddress (.confirm sigA [0, 7])
        = some (sigA.port, ⟨sigA.dst, sigA.src, RequestKind.confirm.code, [0, 7]⟩)
      ∧ (s.port sigA.port).link = .up ∧ sigA.src ≠ s.ownAddress
      ∧ (decidingWindow s.loopTab sigA.dst).map (fun w => (w.action, w.role)) = some (some .consume, some .signaller)
      ∧ requestAllowed .signaller .confirm = true ∧ 4 ≤ (s.port sigA.port).reply.length)
    ∧ (live.port sigA.port).reply.length < 4 ∧ ([7] : List Byte).length ∉ [2] ∧ NotAwaiting live
    ∧ ProofSound live := by
  refine ⟨?_, by decide, by decide, idle rfl, ?_⟩
  · decide +kernel
  · show live.barrier.proved = live.crossingProof
    decide +kernel

/-- The staged and loop tables of the demo part have their sizes. -/
theorem stagedSound_ready : StagedSound ready := by
  refine ⟨fun i => ?_, by decide +kernel⟩
  cases i <;> decide +kernel

/-- O46: writes of 1 and 20 words and of none; reads; a code that names no table. -/
theorem witness_StagedTables :
    Requested .stageWrite ready cfgA ∧ Requested .stageRead ready cfgA ∧ StagedSound ready
      ∧ ([2, 0, 191, 0, 1] : List Byte).length = 5 ∧ tableOfCode (byteAt [2, 0, 191, 0, 1] 0).toNat = some .detector
      ∧ (wordAt [2, 0, 191, 0, 1] 1).toNat + (5 - 3) / 2 ≤ tableSize .detector
      ∧ ¬ (wordAt [2, 0, 192, 0, 1] 1).toNat + (5 - 3) / 2 ≤ tableSize .detector
      ∧ (3 + 2 * 20) % 2 = 1 ∧ 3 + 2 * 20 ≤ 48 ∧ tableOfCode (byteAt [6, 0, 0, 1] 0).toNat = none :=
  ⟨requested_cfg rfl rfl (by decide) rfl, requested_cfg rfl rfl (by decide) rfl, stagedSound_ready, rfl,
    by decide, by decide, by decide, by decide, by decide, by decide⟩

/-- O47: an ACTIVATE taken: identity 0, a wrong CRC, and the staged tables' own. -/
theorem witness_Activate :
    Requested .activate ready cfgA ∧ ([0, 0, 0, 0] : List Byte).length = 4 ∧ wordAt [0, 0, 0, 0] 0 = 0
      ∧ wordAt [0, 7, 0, 0] 0 ≠ 0
      ∧ checkActivate 7 (tableCrc (safetyWords ready.stagedSafety)) ready.ownAddress ready.stagedSafety = none
      ∧ checkActivate 7 (tableCrc (safetyWords ready.stagedSafety) + 1) ready.ownAddress ready.stagedSafety
        = some .crcMismatch := by
  have h : checkTables ready.ownAddress ready.stagedSafety = none := by decide +kernel
  refine ⟨requested_cfg rfl rfl (by decide) rfl, rfl, by decide, by decide, ?_, ?_⟩
  · rw [checkActivate, if_neg (by decide), if_neg (by simp), h]
  · rw [checkActivate, if_neg (by decide), if_pos (by simp)]

/-- A part whose staged loop table is the active one. -/
def restaged : State :=
  { live with config := { live.config with staged := { stagedReset with
      loop := { words := strapLoopTable 0, writeIndex := 0, readIndex := 0 } } } }

/-- O48: an ACTIVATE_LOOP of a loop table that is accepted, one of a wrong CRC, and an all-zero table. -/
theorem witness_ActivateLoop :
    Requested .activateLoop restaged cfgA
      ∧ (bytes2 (tableCrc (strapLoopTable 0))).length = 2
      ∧ checkLoop (tableCrc (strapLoopTable 0)) restaged.config.staged.loop.words restaged.config.tables = none
      ∧ checkLoop (tableCrc (strapLoopTable 0) + 1) restaged.config.staged.loop.words restaged.config.tables
        = some .crcMismatch
      ∧ Requested .activateLoop live cfgA ∧ (∀ w ∈ live.config.staged.loop.words, w = 0) := by
  have h : loopInRange (strapLoopTable 0) = true ∧ (windowsOf (strapLoopTable 0)).any windowTakesConfig = true
      ∧ (detectorAddresses safetyEmpty.detector ++ moduleAddresses safetyEmpty.equipment).contains
        (ownAddressOf (strapLoopTable 0)) = false
      ∧ ((strapLoopTable 0).all fun w => w = 0) = false := by decide +kernel
  refine ⟨requested_cfg rfl rfl (by decide) rfl, rfl, ?_, ?_, requested_cfg rfl rfl (by decide) rfl,
    fun w hw => List.eq_of_mem_replicate hw⟩
  · show checkLoop _ (strapLoopTable 0) safetyEmpty = none
    simp only [checkLoop, firstReason, h.1, h.2.1, h.2.2.1, h.2.2.2]
    simp
  · show checkLoop _ (strapLoopTable 0) safetyEmpty = some .crcMismatch
    simp [checkLoop, firstReason]

/-- A part with set 7 pending, its CRC that of the staged tables. -/
def awaiting (s : State) (x : Activation) : State :=
  { s with config := { s.config with
      staged := staged, activation := x, pendingSet := some (7, tableCrc (safetyWords tables)) } }

/-- What is pending there passes every check. -/
theorem activationSound_awaiting {s : State} {x : Activation} (hx : x ≠ .idle)
    (hw : s.window.loopTable = strapLoopTable 0) : ActivationSound (awaiting s x) := by
  have h : checkTables 0 tables = none := by decide +kernel
  have ho : (awaiting s x).ownAddress = 0 := by
    rw [State.ownAddress, State.loopTab]
    show ownAddressOf s.window.loopTable = 0
    rw [hw]
    decide
  have hs : (awaiting s x).stagedSafety = tables := rfl
  refine ⟨⟨fun e => absurd e hx, fun e => nomatch e⟩, fun y hy => ?_⟩
  obtain rfl : (7, tableCrc (safetyWords tables)) = y := Option.some.inj hy
  rw [ho, hs, checkActivate, if_neg (by decide), if_neg (by simp), h]

/-- O49: nothing pending; set 7 pending where the part is quiescent and where it is not. -/
theorem witness_Confirm :
    Requested .confirm live sigA ∧ ProofSound live ∧ live.config.activation = .idle
      ∧ Requested .confirm (awaiting live .awaitConfirm) sigA ∧ ProofSound (awaiting live .awaitConfirm)
      ∧ (awaiting live .awaitConfirm).quiescent = true
      ∧ Requested .confirm (awaiting (withTrains [train 2 .warned [4, 0, 0, 0]]) .awaitConfirm) sigA
      ∧ ProofSound (awaiting (withTrains [train 2 .warned [4, 0, 0, 0]]) .awaitConfirm)
      ∧ (awaiting (withTrains [train 2 .warned [4, 0, 0, 0]]) .awaitConfirm).quiescent = false
      ∧ (0 : Byte) ++ (7 : Byte) = (7 : Word) ∧ (0 : Byte) ++ (8 : Byte) ≠ (7 : Word) := by
  refine ⟨requested_sig rfl rfl (by decide) rfl, ?_, rfl, requested_sig rfl rfl (by decide) rfl, ?_, ?_,
    requested_sig rfl rfl (by decide) rfl, ?_, ?_, by decide, by decide⟩
  · show live.barrier.proved = live.crossingProof
    decide +kernel
  · show (awaiting live .awaitConfirm).barrier.proved = (awaiting live .awaitConfirm).crossingProof
    decide +kernel
  · decide +kernel
  · show (awaiting (withTrains [train 2 .warned [4, 0, 0, 0]]) .awaitConfirm).barrier.proved
      = (awaiting (withTrains [train 2 .warned [4, 0, 0, 0]]) .awaitConfirm).crossingProof
    decide +kernel
  · decide +kernel

/-- O50: a set that waits to take effect, from INIT_SAFE and from OPEN; a part where none waits, and one that is not
quiescent. -/
theorem witness_ActivationTakesEffect :
    (∀ x, (awaiting live x).config.activation = x ∧ (awaiting ready x).config.activation = x)
    ∧ (awaiting live .awaitQuiescent).config.pendingSet = some (7, tableCrc (safetyWords tables))
    ∧ (awaiting live .awaitQuiescent).quiescent = true ∧ (awaiting ready .awaitQuiescent).quiescent = true
    ∧ ActivationSound (awaiting live .awaitQuiescent) ∧ ActivationSound (awaiting ready .awaitQuiescent)
    ∧ NotAwaiting ready ∧ ProofSound ready
    ∧ (awaiting (withTrains [train 2 .warned [4, 0, 0, 0]]) .awaitQuiescent).quiescent = false := by
  refine ⟨fun _ => ⟨rfl, rfl⟩, rfl, by decide +kernel, by decide +kernel,
    activationSound_awaiting (by decide) rfl, activationSound_awaiting (by decide) rfl, idle rfl, ?_, by decide +kernel⟩
  · show ready.barrier.proved = ready.crossingProof
    decide +kernel

/-- O51: a port's silence expiry now, with PORT_DOWN neither active nor latched. -/
theorem witness_PortSilence :
    let s := { ready with timebase := 1000 }
    (s.port .a).silence = some s.now ∧ s.fault.isActive .portDown = false
      ∧ s.fault.isLatched .portDown = false := by
  decide +kernel

/-- O52: an idle expiry now; a transmission under way, with nothing waiting and with a reply that comes before
an older passed copy. -/
theorem witness_Transmitter :
    (let s := { State.reset with timebase := 250 }
     (s.port .a).idle = some s.now)
    ∧ (let s := { live with portA := portBusy }
       (s.port .a).transmitter.isSome = true ∧ ∀ c ∈ arbiterOrder, (s.port .a).queue c = [])
    ∧ (let e : QueueEntry := ⟨someTelegram, 0, none⟩
       let s := { live with timebase := 199, portA := { portBusy with
          reply := [⟨someTelegram, 150, none⟩], forward := [e] } }
       (s.port .a).transmitter.isSome = true ∧ (s.port .a).reply = [⟨someTelegram, 150, none⟩]
        ∧ effectivePriority s.loopTab s.now .reply ⟨someTelegram, 150, none⟩
          < effectivePriority s.loopTab s.now .forward e) := by
  decide +kernel

/-- O53: the refresh expiry now, with ports UP, one of them busy, and one DOWN; an old block waiting. -/
theorem witness_Refresh :
    let s := { ready with timebase := 500, portA := portBusy }
    s.cmd.refresh = some s.now ∧ (s.port .a).link = .up ∧ (s.port .a).transmitter.isSome = true
      ∧ (s.port .b).transmitter = none ∧ (blockEntries s .b).length = 3
      ∧ ({ s with portB := portReset }.port .b).link = .down ∧ s.portA.command = [] := by
  decide +kernel

/-- O54: a next state, with a latched flag cleared, and with other active tables. -/
theorem witness_WhatOnlySomeCommandsChange :
    (∃ t, exec (.acknowledge sigA [0xFF, 0xFF, 0xFF])
        { ready with fault := { faultsQuiet with latched := 4 } } = .next t ∧ t.fault.isLatched .wheelLoss = false)
      ∧ ∃ t, exec (.restartDiscard sigA) ready = .next t ∧ t.config.tables ≠ ready.config.tables :=
  ⟨⟨_, rfl, by decide +kernel⟩, _, rfl, by decide +kernel⟩

/-- A part with an event to happen: a wheel waits at the strike-in. -/
def wheelWaits : State := { ready with pending := [.wheel (fieldA 0x106) [1, 0, 0, 10]] }

/-- O55 to O58: the demo part meets the invariants, and a step of it answers a next state. -/
theorem witness_SectionsKept_FaultUnitKept_SequenceKept_TrackerKept :
    SectionsSound wheelWaits ∧ HistorySound wheelWaits ∧ FlagsSound wheelWaits ∧ SequencerSound wheelWaits
      ∧ DemandSound wheelWaits ∧ ProofSound wheelWaits ∧ PoolSound wheelWaits ∧ TagsSound wheelWaits
      ∧ RecordsSound wheelWaits ∧ (∀ x, wheelWaits.config.pendingSet = some x → x.1 ≠ 0)
      ∧ ∃ t, step wheelWaits = .next t := by
  refine ⟨?_, ⟨by decide, ?_⟩, ⟨by decide, by decide, by decide +kernel⟩, ?_, ?_, ?_, ⟨by decide, ?_, ?_⟩,
    ⟨by decide, List.nodup_nil, ?_⟩, ?_, ?_, _, rfl⟩
  · have : wheelWaits.axle.sections = [⟨1, 0, 0, .clear⟩, ⟨1, 1, 0, .clear⟩, ⟨1, 2, 0, .clear⟩, ⟨1, 3, 0, .clear⟩,
        ⟨2, 0, 0, .clear⟩, ⟨2, 1, 0, .clear⟩, ⟨2, 2, 0, .clear⟩, ⟨2, 3, 0, .clear⟩] := by decide +kernel
    rw [SectionsSound, this]
    decide
  · intro i r h
    simp [wheelWaits, ready, readyBase, faultsQuiet] at h
  · refine ⟨by decide, by decide, by decide, by decide, by decide, by decide, by decide, by decide⟩
  · intro _
    decide +kernel
  · show wheelWaits.barrier.proved = wheelWaits.crossingProof
    decide +kernel
  · intro a
    exact Nat.zero_le 4
  · intro r h
    exact absurd h List.not_mem_nil
  · intro r h
    exact absurd h List.not_mem_nil
  · intro r h
    exact absurd h List.not_mem_nil
  · intro x h
    exact absurd h (by intro h'; cases h')

/-- The lists that the demo part's records are indexed by are those of its tables. -/
theorem geometrySound_wheelWaits : GeometrySound wheelWaits := by
  refine ⟨by decide +kernel, by decide +kernel, by decide +kernel, by decide +kernel, by decide +kernel,
    by decide +kernel, by decide +kernel, by decide +kernel, ?_⟩
  intro r h
  exact absurd h List.not_mem_nil

/-- O56 to O58, O60: the demo part has sound barrier and lamp records, active classes and strangers. -/
theorem witness_RecordsKept :
    BarriersSound wheelWaits ∧ LampsSound wheelWaits ∧ TrackFaultsSound wheelWaits ∧ LampFaultsSound wheelWaits
      ∧ BarrierFaultsSound wheelWaits ∧ StrangersSound wheelWaits := by
  refine ⟨?_, ⟨?_, by decide +kernel⟩, ?_, ?_, ?_, ⟨by decide, by decide⟩⟩
  · intro b r h
    have hb : ∀ b < 4, wheelWaits.barrierRecord b = some barrierUp := by decide +kernel
    by_cases h4 : b < 4
    · obtain rfl : barrierUp = r := by rw [hb b h4] at h; exact Option.some.inj h
      refine ⟨by decide, ?_, fun h => nomatch h⟩
      intro _ c hc
      rw [show wheelWaits.seq = { seqInitSafe with state := .opened } from rfl, commandOf] at hc
      exact Option.some.inj hc
    · have hn : wheelWaits.barrierRecord b = none := by
        rw [State.barrierRecord, List.getElem?_eq_none (by show 4 ≤ b; omega)]; rfl
      rw [hn] at h
      cases h
  · intro l r h
    have hl : ∀ l < 16, (wheelWaits.lampRecord l).all (lampRunsSound (nLampOf wheelWaits.crTab)) = true := by
      decide +kernel
    by_cases h16 : l < 16
    · have := hl l h16
      rw [h] at this
      exact this
    · have hn : wheelWaits.lampRecord l = none := by
        rw [State.lampRecord, List.getElem?_eq_none (by show 16 ≤ l; omega)]; rfl
      rw [hn] at h
      cases h
  · rw [TrackFaultsSound]
    decide +kernel
  · rw [LampFaultsSound]
    decide +kernel
  · rw [BarrierFaultsSound]
    decide +kernel

/-- O59 and O60: the demo part has sound tables, slots and ports, and no activation waits. -/
theorem witness_ConfigKept_PortsKept :
    StagedSound wheelWaits ∧ ActivationSound wheelWaits ∧ TablesSound wheelWaits ∧ SlotsSound wheelWaits
      ∧ PortsSound wheelWaits ∧ ActivationPrompt wheelWaits ∧ ∃ t, step wheelWaits = .next t := by
  refine ⟨stagedSound_ready, ⟨by decide, ?_⟩, ⟨by decide +kernel, by decide +kernel, ?_, ?_⟩, ?_,
    ⟨by decide, by decide⟩, fun h => absurd h (by decide), _, rfl⟩
  · intro x h
    exact absurd h (by intro h'; cases h')
  · intro h
    exact absurd h (by decide)
  · intro _
    decide +kernel
  · show wheelWaits.cmd.slots = slotsOf wheelWaits
    decide +kernel

end Sys2Proof.Tests
end

section
/-! PROOFS. Axles counted into and out of a section (R7, R8): the rows of both tables, what counting does to the
section and to the fault unit, and the statement O13. -/

namespace Sys2Proof.Machine

/-! ## A section changed in the section table -/

/-- A change of a section that leaves its track and its number, by which the table is searched (R3). -/
def KeepsIdentity (f : TrackSection → TrackSection) : Prop :=
  ∀ x, (f x).track = x.track ∧ (f x).number = x.number

theorem axleIn_keepsIdentity : KeepsIdentity axleIn := by
  intro x
  unfold axleIn
  split <;> exact ⟨rfl, rfl⟩

theorem axleOut_keepsIdentity : KeepsIdentity axleOut := by
  intro x
  unfold axleOut
  split <;> exact ⟨rfl, rfl⟩

/-- Searching the table for the section just changed finds what the change makes of it. -/
theorem find?_mapSection {f : TrackSection → TrackSection} (hf : KeepsIdentity f) (trk n : Nat)
    (l : List TrackSection) :
    (mapSection trk n f l).find? (fun x => x.track = trk && x.number = n)
      = (l.find? fun x => x.track = trk && x.number = n).map f := by
  induction l with
  | nil => rfl
  | cons x xs ih =>
    obtain ⟨htrack, hnumber⟩ := hf x
    rw [mapSection] at ih ⊢
    by_cases hx : x.track = trk ∧ x.number = n
    · simp [hx, htrack, hnumber]
    · have hne : (decide (x.track = trk) && decide (x.number = n)) = false := by simpa using hx
      simp only [List.map_cons, if_neg hx, List.find?_cons, hne, ih]

/-- The section found after its table has changed by `f` at that section and nowhere else. -/
theorem sectionAt_of_mapSection {f : TrackSection → TrackSection} (hf : KeepsIdentity f) {trk n : Nat}
    {s t : State} {x : TrackSection}
    (ht : t.axle = { s.axle with sections := mapSection trk n f s.axle.sections })
    (hx : s.sectionAt trk n = some x) : t.sectionAt trk n = some (f x) := by
  rw [State.sectionAt] at hx ⊢
  rw [ht, find?_mapSection hf, hx, Option.map_some]

/-! ## The rows of R7 -/

theorem axleIn_of_clear {x : TrackSection} (hs : x.state = .clear) (hb : x.balance = 0) :
    axleIn x = { x with balance := 1, state := .occupied } := by
  simp [axleIn, maxBalance, hs, hb]

/-- Below 1023 a section that is not CLEAR keeps its state. -/
theorem axleIn_of_not_clear {x : TrackSection} (hs : x.state ≠ .clear) (hb : x.balance ≤ 1022) :
    axleIn x = { x with balance := x.balance + 1 } := by
  have hlow : ¬ maxBalance ≤ x.balance := by unfold maxBalance; omega
  rw [axleIn, if_neg hlow]
  obtain ⟨track, number, balance, state⟩ := x
  cases state with
  | clear => exact absurd rfl hs
  | occupied => rfl
  | disturbed => rfl
  | prepared => rfl

theorem overflows_iff {x : TrackSection} : overflows x = true ↔ 1023 ≤ x.balance := decide_eq_true_iff

theorem axleIn_of_overflows {x : TrackSection} (h : overflows x = true) :
    axleIn x = { x with state := .disturbed } :=
  if_pos (overflows_iff.mp h)

/-! ## The rows of R8 -/

/-- Above 1 a section that is not CLEAR keeps its state. -/
theorem axleOut_of_two_le {x : TrackSection} (hs : x.state ≠ .clear) (hb : 2 ≤ x.balance) :
    axleOut x = { x with balance := x.balance - 1 } := by
  have h0 : x.balance ≠ 0 := by omega
  have h1 : x.balance ≠ 1 := by omega
  rw [axleOut, if_neg h0]
  obtain ⟨track, number, balance, state⟩ := x
  cases state with
  | clear => exact absurd rfl hs
  | occupied => exact congrArg _ (if_neg h1)
  | disturbed => rfl
  | prepared => exact congrArg _ (if_neg h1)

/-- The last axle leaves a section that is not DISTURBED. -/
theorem axleOut_of_last {x : TrackSection} (hs : x.state ≠ .disturbed) (hb : x.balance = 1) :
    axleOut x = { x with balance := 0, state := .clear } := by
  obtain ⟨track, number, balance, state⟩ := x
  obtain rfl : balance = 1 := hb
  cases state with
  | disturbed => exact absurd rfl hs
  | clear => rfl
  | occupied => rfl
  | prepared => rfl

theorem axleOut_of_disturbed {x : TrackSection} (hs : x.state = .disturbed) (hb : 1 ≤ x.balance) :
    axleOut x = { x with balance := x.balance - 1 } := by
  have h0 : x.balance ≠ 0 := by omega
  simp [axleOut, hs, h0]

theorem axleOut_of_prepared_zero {x : TrackSection} (hs : x.state = .prepared) (hb : x.balance = 0) :
    axleOut x = x := by
  obtain ⟨track, number, balance, state⟩ := x
  obtain rfl : balance = 0 := hb
  obtain rfl : state = .prepared := hs
  rfl

theorem underflows_iff {x : TrackSection} : underflows x = true ↔ x.balance = 0 ∧ x.state ≠ .prepared := by
  simp [underflows]

theorem axleOut_of_underflows {x : TrackSection} (h : underflows x = true) :
    axleOut x = { x with state := .disturbed } := by
  obtain ⟨hb, hs⟩ := underflows_iff.mp h
  rw [axleOut, if_pos hb]
  obtain ⟨track, number, balance, state⟩ := x
  cases state with
  | prepared => exact absurd rfl hs
  | clear => rfl
  | occupied => rfl
  | disturbed => rfl

/-! ## Counting at a detector -/

/-- A fault report leaves the axle counter alone. -/
@[simp] theorem raiseFault_axle (c : FaultClass) (subject detail : Nat) (s : State) :
    (raiseFault c subject detail s).axle = s.axle :=
  raiseFault_touches (L := [.fault]) c subject detail (by decide) (Touches.refl _ s) .axle (by decide)

section
variable {d n : Nat} {s : State} {x : TrackSection}

/-- Counting into a section held changes it, and raises COUNT_OVERFLOW at 1023 alone (R7). -/
theorem countIn_of_section (hx : s.sectionAt (s.trackOf d) n = some x) :
    countIn d (some n) s =
      if overflows x then
        raiseFault .countOverflow d (sectionIdentity (s.trackOf d) n) (changeSection (s.trackOf d) n axleIn s)
      else changeSection (s.trackOf d) n axleIn s := by
  simp only [countIn, hx]

/-- Counting out of a section held changes it, and raises COUNT_UNDERFLOW at 0 where it is not PREPARED (R8). -/
theorem countOut_of_section (hx : s.sectionAt (s.trackOf d) n = some x) :
    countOut d (some n) s =
      if underflows x then
        raiseFault .countUnderflow d (sectionIdentity (s.trackOf d) n) (changeSection (s.trackOf d) n axleOut s)
      else changeSection (s.trackOf d) n axleOut s := by
  simp only [countOut, hx]

theorem countIn_axle (hx : s.sectionAt (s.trackOf d) n = some x) :
    (countIn d (some n) s).axle
      = { s.axle with sections := mapSection (s.trackOf d) n axleIn s.axle.sections } := by
  rw [countIn_of_section hx]
  split
  · exact raiseFault_axle ..
  · rfl

theorem countOut_axle (hx : s.sectionAt (s.trackOf d) n = some x) :
    (countOut d (some n) s).axle
      = { s.axle with sections := mapSection (s.trackOf d) n axleOut s.axle.sections } := by
  rw [countOut_of_section hx]
  split
  · exact raiseFault_axle ..
  · rfl

theorem countIn_sectionAt (hx : s.sectionAt (s.trackOf d) n = some x) :
    (countIn d (some n) s).sectionAt (s.trackOf d) n = some (axleIn x) :=
  sectionAt_of_mapSection axleIn_keepsIdentity (countIn_axle hx) hx

theorem countOut_sectionAt (hx : s.sectionAt (s.trackOf d) n = some x) :
    (countOut d (some n) s).sectionAt (s.trackOf d) n = some (axleOut x) :=
  sectionAt_of_mapSection axleOut_keepsIdentity (countOut_axle hx) hx

/-- Where no fault is raised, counting in is the change of the section and nothing else. -/
theorem countIn_of_not_overflows (hx : s.sectionAt (s.trackOf d) n = some x) (h : ¬ overflows x = true) :
    countIn d (some n) s = changeSection (s.trackOf d) n axleIn s := by
  rw [countIn_of_section hx, if_neg h]

/-- Where no fault is raised, counting out is the change of the section and nothing else. -/
theorem countOut_of_not_underflows (hx : s.sectionAt (s.trackOf d) n = some x) (h : ¬ underflows x = true) :
    countOut d (some n) s = changeSection (s.trackOf d) n axleOut s := by
  rw [countOut_of_section hx, if_neg h]

theorem countIn_isLatched_of_overflows (hx : s.sectionAt (s.trackOf d) n = some x) (h : overflows x = true) :
    (countIn d (some n) s).fault.isLatched .countOverflow = true := by
  rw [countIn_of_section hx, if_pos h]
  simp

theorem countOut_isLatched_of_underflows (hx : s.sectionAt (s.trackOf d) n = some x)
    (h : underflows x = true) : (countOut d (some n) s).fault.isLatched .countUnderflow = true := by
  rw [countOut_of_section hx, if_pos h]
  simp

end

/-! ## The statement -/

/-- Settles O13: the section found after the count is `axleIn` (R7) or `axleOut` (R8) of the one before, so each
row of the statement is the row lemma of that function. -/
theorem axleCounting : Obligations.AxleCounting := by
  unfold Obligations.AxleCounting
  constructor
  · intro d n s x hx
    simp only [countIn_sectionAt hx, Option.some.injEq]
    refine ⟨axleIn_of_clear, fun hs _ hb => axleIn_of_not_clear (by simp [hs]) hb,
      fun hs hb => axleIn_of_not_clear (by rcases hs with hs | hs <;> simp [hs]) hb,
      fun _ hb => axleIn_of_overflows (overflows_iff.mpr hb.ge), countIn_axle hx,
      countIn_touches d (some n) (List.Subset.refl _) (Touches.refl _ s), fun hb => ?_,
      fun hb => countIn_isLatched_of_overflows hx (overflows_iff.mpr hb.ge)⟩
    exact countIn_of_not_overflows hx (by rw [overflows_iff]; omega)
  · intro d n s x hx
    simp only [countOut_sectionAt hx, Option.some.injEq]
    refine ⟨fun hs => axleOut_of_two_le (by rcases hs with hs | hs <;> simp [hs]),
      fun hs => axleOut_of_last (by rcases hs with hs | hs <;> simp [hs]),
      axleOut_of_disturbed, axleOut_of_prepared_zero, fun hs hb => ?_, countOut_axle hx,
      countOut_touches d (some n) (List.Subset.refl _) (Touches.refl _ s), fun h => ?_⟩
    · have hu : underflows x = true := underflows_iff.mpr ⟨hb, by rcases hs with hs | hs <;> simp [hs]⟩
      exact ⟨axleOut_of_underflows hu, countOut_isLatched_of_underflows hx hu⟩
    · refine countOut_of_not_underflows hx ?_
      rw [underflows_iff]
      rintro ⟨hb, hs⟩
      rcases h with h | h
      · omega
      · exact hs h

end Sys2Proof.Machine
end

section
/-! PROOFS. The calls of the warning computer (R53 to R65): the spot speed, why the worst-case arrival is never after
the nominal one, what a STRIKE-IN, MERGE or ADVANCE call leaves, and the statement O23. -/

namespace Sys2Proof.Machine

/-! ## Arithmetic -/

/-- Division rounded up answers the least quotient that covers the dividend (section 4.3). -/
theorem ceilDiv_le_iff {a b u : Nat} (hb : 0 < b) : ceilDiv a b ≤ u ↔ a ≤ u * b := by
  rw [ceilDiv, ← Nat.ceilDiv_eq_add_pred_div, ceilDiv_le_iff_le_mul hb, Nat.mul_comm]

/-- The search keeps what it starts with: a root whose square is at most `x`. -/
theorem isqrtBits_sq_le {x n r : Nat} (h : r ^ 2 ≤ x) : isqrtBits x n r ^ 2 ≤ x := by
  induction n generalizing r with
  | zero => exact h
  | succ n ih =>
    unfold isqrtBits
    split
    · exact ih ‹_›
    · exact ih h

/-- The integer square root is rounded down, also beyond the range in which it is exact. -/
theorem isqrt_sq_le (x : Nat) : isqrt x ^ 2 ≤ x := isqrtBits_sq_le (Nat.zero_le x)

/-! ## Spot speed (R55) -/

/-- With V_floor at most the highest spot speed, clamping raises to the one, else lowers to the other. -/
theorem clampSpeed_eq {ap : ApproachEntry} (h : ap.vFloor ≤ 7000) (u : Nat) :
    clampSpeed ap u = if u < ap.vFloor then ap.vFloor else if 7000 < u then 7000 else u := by
  simp only [clampSpeed, maxSpotSpeed]
  split_ifs <;> omega

theorem clampSpeed_bounds {ap : ApproachEntry} (h : ap.vFloor ≤ 7000) (u : Nat) :
    ap.vFloor ≤ clampSpeed ap u ∧ clampSpeed ap u ≤ 7000 := by
  simp only [clampSpeed, maxSpotSpeed]
  omega

theorem spotSpeed_of_unmeasured (ap : ApproachEntry) (spacing : Nat) :
    spotSpeed ap spacing 0 = clampSpeed ap ap.vLine := by
  rw [spotSpeed, if_pos rfl]

theorem spotSpeed_of_measured {interval : Nat} (h : 0 < interval) (ap : ApproachEntry) (spacing : Nat) :
    spotSpeed ap spacing interval = clampSpeed ap (ceilDiv (spacing * 100000) interval) := by
  rw [spotSpeed, if_neg h.ne']

/-! ## Arrivals (R58 to R61)

A speed `x` that acceleration `a` reaches from `v` within distance `d` has `x² ≤ v² + 2·a·d`. Gaining it takes
`(x - v)/a`, which is at most `d/v`, the time the distance takes at `v`. Both accelerating cases of the worst arrival
are this, with the speed at the end of the run and with V_line at the end of the acceleration distance. -/

/-- The bound before division. With `x² - v² = (x - v)·(x + v)` and `x + v ≥ 2·v`. -/
theorem speedGain_mul_le {x v a d : Nat} (h : x ^ 2 ≤ v ^ 2 + 2 * a * d) : (x - v) * v ≤ a * d := by
  obtain hx | hx := Nat.le_total x v
  · simp [Nat.sub_eq_zero_of_le hx]
  · obtain ⟨g, rfl⟩ := Nat.exists_eq_add_of_le hx
    rw [Nat.add_sub_cancel_left]
    nlinarith only [h, Nat.zero_le (g ^ 2)]

theorem gainTime_le_nominalArrival {x v a d : Nat} (hv : 0 < v) (ha : 0 < a)
    (h : x ^ 2 ≤ v ^ 2 + 2 * a * d) : (x - v) * 1000 / a ≤ nominalArrival d v := by
  rw [nominalArrival, Nat.le_div_iff_mul_le hv]
  refine Nat.le_of_mul_le_mul_left ?_ ha
  calc a * ((x - v) * 1000 / a * v)
      = (x - v) * 1000 / a * a * v := by ring
    _ ≤ (x - v) * 1000 * v := Nat.mul_le_mul_right v (Nat.div_mul_le_self _ _)
    _ = (x - v) * v * 1000 := by ring
    _ ≤ a * d * 1000 := Nat.mul_le_mul_right 1000 (speedGain_mul_le h)
    _ = a * (d * 1000) := by ring

/-- A distance run in two parts, each time rounded down, takes no longer than in one. -/
theorem nominalArrival_add_le (d e v : Nat) :
    nominalArrival d v + nominalArrival e v ≤ nominalArrival (d + e) v := by
  simp only [nominalArrival, Nat.add_mul]
  exact Nat.div_add_div_le_add_div

/-- A faster train needs no more time. -/
theorem nominalArrival_antitone {v u : Nat} (hv : 0 < v) (h : v ≤ u) (d : Nat) :
    nominalArrival d u ≤ nominalArrival d v := Nat.div_le_div_left h hv

/-- V_line is within what the acceleration distance, rounded up, allows (R59). -/
theorem vLine_sq_le_of_accelDistance {ap : ApproachEntry} (ha : 0 < ap.aMax) (v0 : Nat) :
    ap.vLine ^ 2 ≤ v0 ^ 2 + 2 * ap.aMax * accelDistance ap v0 := by
  have h := (ceilDiv_le_iff (by omega : 0 < 2 * ap.aMax)).mp (Nat.le_refl (accelDistance ap v0))
  rw [Nat.mul_comm] at h
  omega

theorem worstArrival_le_nominalArrival {ap : ApproachEntry} {v0 : Nat} (hv : 0 < v0) (ha : 0 < ap.aMax)
    (dCm : Nat) : worstArrival ap dCm v0 ≤ nominalArrival dCm v0 := by
  unfold worstArrival
  split_ifs with hline hacc
  case pos => exact Nat.le_refl _
  case pos => exact gainTime_le_nominalArrival hv ha (isqrt_sq_le _)
  case neg =>
    have gain : (ap.vLine - v0) * 1000 / ap.aMax ≤ nominalArrival (accelDistance ap v0) v0 :=
      gainTime_le_nominalArrival hv ha (vLine_sq_le_of_accelDistance ha v0)
    have rest : nominalArrival (dCm - accelDistance ap v0) ap.vLine
        ≤ nominalArrival (dCm - accelDistance ap v0) v0 := nominalArrival_antitone hv (by omega) _
    calc (ap.vLine - v0) * 1000 / ap.aMax + (dCm - accelDistance ap v0) * 1000 / ap.vLine
        ≤ nominalArrival (accelDistance ap v0) v0 + nominalArrival (dCm - accelDistance ap v0) v0 :=
          Nat.add_le_add gain rest
      _ ≤ nominalArrival (accelDistance ap v0 + (dCm - accelDistance ap v0)) v0 :=
          nominalArrival_add_le _ _ _
      _ = nominalArrival dCm v0 := by rw [Nat.add_sub_cancel' (by omega)]

/-! ## Flags of a raised fault -/

theorem OnlyClasses.refl (l : List FaultClass) (s : State) : OnlyClasses l s s := fun _ _ => ⟨rfl, rfl⟩

theorem OnlyClasses.mono {l m : List FaultClass} {s t : State} (hlm : l ⊆ m) (h : OnlyClasses l s t) :
    OnlyClasses m s t := fun c hc => h c fun hl => hc (hlm hl)

theorem raiseFault_onlyClasses {l : List FaultClass} {s t : State} {c : FaultClass} (x y : Nat) (hc : c ∈ l)
    (h : OnlyClasses l s t) : OnlyClasses l s (raiseFault c x y t) := by
  intro d hd
  have hne : c ≠ d := by rintro rfl; exact hd hc
  simpa [hne] using h d hd

/-! ## The stages of a call -/

section
variable {w : WheelPassage} {creation : Bool} {r : TrainRecord} {s : State}

/-- The speeds and the overspeed flag are all that the first stages write into the record (R56, R57). -/
theorem speedStages_record : ∃ entry last fast,
    (speedStages w creation r s).1 = { r with entrySpeed := entry, lastSpeed := last, overspeed := fast } := by
  simp only [speedStages, writeSpeed]
  split_ifs <;> exact ⟨_, _, _, rfl⟩

/-- No overspeed, no fault (R57). -/
theorem speedStages_state_of_le (h : s.callSpeed w r ≤ (s.approachEntry r).vLine) :
    (speedStages w creation r s).2 = s := by
  simp only [speedStages, if_neg (Nat.not_lt.mpr h)]

theorem speedStages_onlyClasses : OnlyClasses [.overspeed] s (speedStages w creation r s).2 := by
  unfold speedStages
  dsimp only
  split
  · exact raiseFault_onlyClasses _ _ (by simp) (OnlyClasses.refl _ s)
  · exact OnlyClasses.refl _ s

theorem speedStages_touches_fault : Touches [.fault] s (speedStages w creation r s).2 :=
  speedStages_touches w creation r (by simp) (Touches.refl _ s)

/-- The first stages leave the times the judgement reads (R64, R65). -/
theorem speedStages_reference : (speedStages w creation r s).2.reference = s.reference := by
  have hseq : (speedStages w creation r s).2.seq = s.seq := speedStages_touches_fault .seq (by decide)
  have htime : (speedStages w creation r s).2.timebase = s.timebase :=
    speedStages_touches_fault .timebase (by decide)
  simp only [State.reference, State.now, hseq, htime]

/-- The first stages leave the tables, in which a record of the same approach has the same entry. -/
theorem speedStages_approachEntry {y : TrainRecord} (h : y.approach = r.approach) :
    (speedStages w creation r s).2.approachEntry y = s.approachEntry r := by
  have hconfig : (speedStages w creation r s).2.config = s.config := speedStages_touches_fault .config (by decide)
  simp only [State.approachEntry, State.appTab, hconfig, h]

theorem judgePredicted_of_lt {p : Time} {tWorst : Nat}
    (h : availableWarning p tWorst s.reference < (s.approachEntry r).twMin) :
    judgePredicted p tWorst r s = ({ r with short := true },
      raiseFault .shortWarning r.approach (predictedDetail (availableWarning p tWorst s.reference)) s) :=
  if_pos h

theorem judgePredicted_of_le {p : Time} {tWorst : Nat}
    (h : (s.approachEntry r).twMin ≤ availableWarning p tWorst s.reference) :
    judgePredicted p tWorst r s = (r, s) :=
  if_neg (not_lt.mpr h)

end

/-! ## A STRIKE-IN, MERGE or ADVANCE call -/

/-- t_worst of a call (R54, R58). -/
def State.callWorst (s : State) (w : WheelPassage) (r : TrainRecord) : Nat :=
  worstArrival (s.approachEntry r) (s.distanceCm w.detector) (s.callSpeed w r)

/-- The candidate start of a call (R62). -/
def State.callCandidate (s : State) (w : WheelPassage) (r : TrainRecord) : Time :=
  candidateStart (s.approachEntry r) w.passage (s.callWorst w r)
    (nominalArrival (s.distanceCm w.detector) (s.callSpeed w r))

/-- The available warning a call judges (R65). -/
def State.callAvailable (s : State) (w : WheelPassage) (r : TrainRecord) : Int :=
  availableWarning w.passage (s.callWorst w r) s.reference

/-- What a call leaves of the record: its speeds and overspeed flag, its start and its short flag may be new. -/
def CallRecord (short : Bool) (w : WheelPassage) (r : TrainRecord) (s : State) (x : TrainRecord) : Prop :=
  ∃ entry last fast, x = { r with
    entrySpeed := entry, lastSpeed := last, overspeed := fast, short := short
    scheduledStart := some (newStart r (s.callCandidate w r)) }

theorem CallRecord.short_eq {short : Bool} {w : WheelPassage} {r x : TrainRecord} {s : State}
    (h : CallRecord short w r s x) : x.short = short := by
  obtain ⟨_, _, _, rfl⟩ := h
  rfl

theorem CallRecord.scheduledStart_eq {short : Bool} {w : WheelPassage} {r x : TrainRecord} {s : State}
    (h : CallRecord short w r s x) : x.scheduledStart = some (newStart r (s.callCandidate w r)) := by
  obtain ⟨_, _, _, rfl⟩ := h
  rfl

/-- A call leaves the record's counts, its tag and its state. -/
theorem CallRecord.kept {short : Bool} {w : WheelPassage} {r x : TrainRecord} {s : State}
    (h : CallRecord short w r s x) : x.passed = r.passed ∧ x.tag = r.tag ∧ x.state = r.state := by
  obtain ⟨_, _, _, rfl⟩ := h
  exact ⟨rfl, rfl, rfl⟩

/-- The judgement of a call is made on the record with its new start, in the state the first stages leave. -/
theorem scheduleCall_eq_judgePredicted (w : WheelPassage) (creation : Bool) (r : TrainRecord) (s : State) :
    ∃ y, CallRecord r.short w r s y ∧ y.approach = r.approach
      ∧ scheduleCall w creation r s
        = judgePredicted w.passage (s.callWorst w r) y (speedStages w creation r s).2 := by
  obtain ⟨entry, last, fast, hx⟩ := speedStages_record (w := w) (creation := creation) (r := r) (s := s)
  refine ⟨_, ⟨entry, last, fast, rfl⟩, rfl, ?_⟩
  unfold scheduleCall
  dsimp only
  rw [hx]
  rfl

section
variable {w : WheelPassage} {creation : Bool} {r : TrainRecord} {s : State}

theorem scheduleCall_of_lt (h : s.callAvailable w r < (s.approachEntry r).twMin) :
    CallRecord true w r s (scheduleCall w creation r s).1
      ∧ (scheduleCall w creation r s).2 = raiseFault .shortWarning r.approach
          (predictedDetail (s.callAvailable w r)) (speedStages w creation r s).2 := by
  obtain ⟨y, ⟨entry, last, fast, hy⟩, happ, hx⟩ := scheduleCall_eq_judgePredicted w creation r s
  have hjudge : availableWarning w.passage (s.callWorst w r) (speedStages w creation r s).2.reference
      < ((speedStages w creation r s).2.approachEntry y).twMin := by
    rwa [speedStages_reference, speedStages_approachEntry happ]
  rw [hx, judgePredicted_of_lt hjudge, speedStages_reference, happ]
  exact ⟨⟨entry, last, fast, by rw [hy]⟩, rfl⟩

theorem scheduleCall_of_le (h : (s.approachEntry r).twMin ≤ s.callAvailable w r) :
    CallRecord r.short w r s (scheduleCall w creation r s).1
      ∧ (scheduleCall w creation r s).2 = (speedStages w creation r s).2 := by
  obtain ⟨y, hy, happ, hx⟩ := scheduleCall_eq_judgePredicted w creation r s
  have hjudge : ((speedStages w creation r s).2.approachEntry y).twMin
      ≤ availableWarning w.passage (s.callWorst w r) (speedStages w creation r s).2.reference := by
    rwa [speedStages_reference, speedStages_approachEntry happ]
  rw [hx, judgePredicted_of_le hjudge]
  exact ⟨hy, rfl⟩

/-- Whatever the judgement, the record is as a call leaves it. -/
theorem scheduleCall_record : ∃ short, CallRecord short w r s (scheduleCall w creation r s).1 := by
  obtain h | h := lt_or_ge (s.callAvailable w r) (s.approachEntry r).twMin
  · exact ⟨_, (scheduleCall_of_lt h).1⟩
  · exact ⟨_, (scheduleCall_of_le h).1⟩

theorem scheduleCall_onlyClasses :
    OnlyClasses [.shortWarning, .overspeed] s (scheduleCall w creation r s).2 := by
  have hspeed : OnlyClasses [.shortWarning, .overspeed] s (speedStages w creation r s).2 :=
    speedStages_onlyClasses.mono (by simp)
  obtain h | h := lt_or_ge (s.callAvailable w r) (s.approachEntry r).twMin
  · rw [(scheduleCall_of_lt h).2]
    exact raiseFault_onlyClasses _ _ (by simp) hspeed
  · rw [(scheduleCall_of_le h).2]
    exact hspeed

theorem scheduleCall_captured (h : s.callAvailable w r < (s.approachEntry r).twMin)
    (hv : s.callSpeed w r ≤ (s.approachEntry r).vLine) (hl : s.fault.isLatched .shortWarning = false) :
    Captured .shortWarning (BitVec.ofNat 8 r.approach)
      (BitVec.ofNat 16 (predictedDetail (s.callAvailable w r))) s (scheduleCall w creation r s).2 := by
  rw [(scheduleCall_of_lt h).2, speedStages_state_of_le hv]
  exact raiseFault_captured _ _ hl

/-- A record not MERGED takes the candidate (R63). -/
theorem newStart_of_not_merged (h : r.merged = false) (x : Time) : newStart r x = x := by
  simp [newStart, h]

/-- A MERGED record keeps the earlier start (R34). -/
theorem newStart_of_merged {old : Time} (h : r.merged = true) (hs : r.scheduledStart = some old) (x : Time) :
    newStart r x = timeEarlier old x := by
  simp [newStart, h, hs]

end

/-! ## The statement -/

/-- Settles O23: the spot speed is a clamped rounded-up quotient; the worst arrival is bounded by the time gained in
accelerating; a call is its first stages, then the judgement on either side of TW_min. -/
theorem speedAndArrivals : Obligations.SpeedAndArrivals := by
  unfold Obligations.SpeedAndArrivals
  refine ⟨?_, fun ap dCm v0 hv ha => worstArrival_le_nominalArrival hv ha dCm, ?_⟩
  · intro w r s ap spacing v clamped hfloor
    refine ⟨fun h0 => ?_, fun hpos => ⟨ceilDiv (spacing * 100000) w.interval, ?_, ?_, ?_⟩,
      clampSpeed_bounds hfloor _⟩
    · show spotSpeed ap spacing w.interval = _
      rw [h0, spotSpeed_of_unmeasured, clampSpeed_eq hfloor]
    · exact (ceilDiv_le_iff hpos).mp (Nat.le_refl _)
    · exact fun x hx => (ceilDiv_le_iff hpos).mpr hx
    · exact (spotSpeed_of_measured hpos ap spacing).trans (clampSpeed_eq hfloor _)
  · intro w creation r s ap v0 tWorst tNom offset reference available x
    obtain ⟨short, hrec⟩ : ∃ short, CallRecord short w r s x.1 := scheduleCall_record
    obtain ⟨hpassed, htag, hstate⟩ := hrec.kept
    have hstart : x.1.scheduledStart = some (newStart r (s.callCandidate w r)) := hrec.scheduledStart_eq
    refine ⟨fun h => ?_, fun h hv hl => scheduleCall_captured h hv hl, fun h => ?_, fun hm => ?_,
      fun hm old hold => ?_, hpassed, htag, hstate, scheduleCall_onlyClasses,
      scheduleCall_touches w creation r (by simp) (Touches.refl _ s)⟩
    · obtain ⟨hshort, hfault⟩ := scheduleCall_of_lt (creation := creation) h
      exact ⟨hshort.short_eq, hfault ▸ by simp⟩
    · obtain ⟨hshort, hfault⟩ := scheduleCall_of_le (creation := creation) h
      exact ⟨hshort.short_eq, hfault ▸ speedStages_onlyClasses⟩
    · rw [hstart, newStart_of_not_merged hm]
      rfl
    · rw [hstart, newStart_of_merged hm hold]
      rfl

end Sys2Proof.Machine
end

section
/-! PROOFS. The crossing sequence (chapter 4) entering a phase: the frame that every operation of the sequence keeps,
what each does to the sequencer and to the barrier records, the phases EXIT_LOWERING and CLOSED entered from any
state, and the statement O25. -/

namespace Sys2Proof.Machine

/-! ## Flags of an operation's classes -/

section
variable {l : List FaultClass} {s t : State} {c : FaultClass}

theorem OnlyClasses.trans {u : State} (h : OnlyClasses l s t) (k : OnlyClasses l t u) : OnlyClasses l s u :=
  fun d hd => ⟨(k d hd).1.trans (h d hd).1, (k d hd).2.trans (h d hd).2⟩

/-- An operation that leaves the fault unit alone leaves every flag alone. -/
theorem OnlyClasses.of_fault_eq (h : t.fault = s.fault) : OnlyClasses l s t :=
  fun _ _ => ⟨by rw [h], by rw [h]⟩

/-- ENTERED latches no class but its own. -/
theorem enterFault_isLatched_of_ne {d : FaultClass} (hne : c ≠ d) (x y : Nat) :
    (enterFault c x y s).fault.isLatched d = s.fault.isLatched d := by
  unfold enterFault
  split_ifs
  · rfl
  · rfl
  · simp [FaultUnit.isLatched, hne]

theorem enterFault_onlyClasses (x y : Nat) (hc : c ∈ l) (h : OnlyClasses l s t) :
    OnlyClasses l s (enterFault c x y t) := by
  intro d hd
  have hne : c ≠ d := by rintro rfl; exact hd hc
  simpa [hne, enterFault_isLatched_of_ne hne] using h d hd

theorem endFault_onlyClasses (hc : c ∈ l) (h : OnlyClasses l s t) : OnlyClasses l s (endFault c t) := by
  intro d hd
  have hne : c ≠ d := by rintro rfl; exact hd hc
  simpa [hne] using h d hd

theorem endFaultUnless_onlyClasses (still : Bool) (hc : c ∈ l) (h : OnlyClasses l s t) :
    OnlyClasses l s (endFaultUnless c still t) := by
  unfold endFaultUnless
  split
  · exact h
  · exact endFault_onlyClasses hc h

theorem enterRoadLights_onlyClasses (side : Nat) (hc : .roadLightsFailed ∈ l) (h : OnlyClasses l s t) :
    OnlyClasses l s (enterRoadLights side t) := by
  unfold enterRoadLights
  split
  · exact enterFault_onlyClasses _ _ hc h
  · exact h

/-- A change of sequencer state can change ROAD_LIGHTS_FAILED alone (R113). -/
theorem enterState_onlyClasses (st : SeqState) (hc : .roadLightsFailed ∈ l) (h : OnlyClasses l s t) :
    OnlyClasses l s (enterState st t) := by
  have hslots : OnlyClasses l t (writeLampSlots (t.setSeq { t.seq with state := st })) :=
    .of_fault_eq (writeLampSlots_touches (L := [.portA, .portB, .seq, .cmd, .queue .command]) (by decide)
      (State.setSeq_touches _ (by decide) (Touches.refl _ t)) .fault (by decide))
  exact endFaultUnless_onlyClasses _ hc (enterRoadLights_onlyClasses 1 hc
    (enterRoadLights_onlyClasses 0 hc (h.trans hslots)))

/-- A changed barrier record can change BARRIER_NOT_DOWN and BARRIER_NOT_UP alone (R130). -/
theorem changeBarrier_onlyClasses (b : Nat) (was now : BarrierRecord)
    (hl : [.barrierNotDown, .barrierNotUp] ⊆ l) (h : OnlyClasses l s t) :
    OnlyClasses l s (changeBarrier b was now t) := by
  have hdown : .barrierNotDown ∈ l := hl (by decide)
  have hup : .barrierNotUp ∈ l := hl (by decide)
  have hput : OnlyClasses l s (putBarrier b now t) := h
  have hclass : notThereClass now.commanded ∈ l := by cases now.commanded <;> assumption
  have henter : OnlyClasses l s (enterNotThere b was now (putBarrier b now t)) := by
    unfold enterNotThere
    split
    · exact enterFault_onlyClasses _ _ hclass hput
    · exact hput
  exact endFaultUnless_onlyClasses _ hup (endFaultUnless_onlyClasses _ hdown henter)

theorem writeSlot_fault (m : Nat) (x : SlotContent) (s : State) : (writeSlot m x s).fault = s.fault :=
  writeSlot_touches (L := [.portA, .portB, .cmd, .queue .command]) m x (by decide) (Touches.refl _ s)
    .fault (by decide)

theorem giveCommand_onlyClasses (c : BarrierCommand) (b : Nat)
    (hl : [.barrierNotDown, .barrierNotUp] ⊆ l) (h : OnlyClasses l s t) :
    OnlyClasses l s (giveCommand c b t) := by
  unfold giveCommand
  split
  · exact h
  · exact (changeBarrier_onlyClasses b _ _ hl h).trans (.of_fault_eq (writeSlot_fault ..))

end

/-! ## The barrier records -/

/-- The records are read of the barrier supervisor alone. -/
theorem State.barrierRecord_congr {s t : State} (h : t.barrier = s.barrier) : t.barrierRecord = s.barrierRecord := by
  funext b
  simp only [State.barrierRecord, h]

/-- The record of barrier `b`, in use before, is the one put there; every other is as before. -/
theorem putBarrier_barrierRecord {b : Nat} {r0 : BarrierRecord} {s : State} (h : s.barrierRecord b = some r0)
    (r : BarrierRecord) (x : Nat) :
    (putBarrier b r s).barrierRecord x = if x = b then some r else s.barrierRecord x := by
  have hlen : b < s.barrier.barriers.length := by
    by_contra hge
    simp [State.barrierRecord, List.getElem?_eq_none (Nat.not_lt.mp hge)] at h
  by_cases hx : x = b
  · subst hx
    simp [putBarrier, State.barrierRecord, hlen]
  · simp [putBarrier, State.barrierRecord, hx, List.getElem?_set_ne (Ne.symm hx)]

/-- The fault reports of a changed record leave the supervisor as the record's change leaves it. -/
theorem changeBarrier_barrier (b : Nat) (was now : BarrierRecord) (s : State) :
    (changeBarrier b was now s).barrier = (putBarrier b now s).barrier :=
  endBarrierFaults_touches (L := [.fault]) (by decide)
    (enterNotThere_touches b was now (by decide) (Touches.refl _ (putBarrier b now s))) .barrier (by decide)

theorem writeSlot_barrier (m : Nat) (c : SlotContent) (s : State) : (writeSlot m c s).barrier = s.barrier :=
  writeSlot_touches (L := [.portA, .portB, .cmd, .queue .command]) m c (by decide) (Touches.refl _ s)
    .barrier (by decide)

/-- A command given to a barrier in use changes its record and no other part of the supervisor (R119). -/
theorem giveCommand_barrier {c : BarrierCommand} {b : Nat} {r : BarrierRecord} {s : State}
    (h : s.barrierRecord b = some r) : (giveCommand c b s).barrier
      = (putBarrier b (givenNow s c (provingLimit s.crTab c) r) s).barrier := by
  simp only [giveCommand, h]
  exact (writeSlot_barrier _ _ _).trans (changeBarrier_barrier ..)

/-- Where an operation puts `f` of the record of barrier `b` in its place, if it has one, and changes no other part of
the supervisor, every other record is as before. -/
theorem barrierRecord_of_changed {b : Nat} {f : BarrierRecord → BarrierRecord} {s t : State}
    (hnone : s.barrierRecord b = none → t = s)
    (hsome : ∀ r, s.barrierRecord b = some r → t.barrier = (putBarrier b (f r) s).barrier) (x : Nat) :
    t.barrierRecord x = if x = b then (s.barrierRecord x).map f else s.barrierRecord x := by
  cases hb : s.barrierRecord b with
  | none =>
    rw [hnone hb]
    split
    next hx => rw [hx, hb]; rfl
    next => rfl
  | some r =>
    rw [State.barrierRecord_congr (hsome r hb), putBarrier_barrierRecord hb]
    split
    next hx => rw [hx, hb]; rfl
    next => rfl

/-- The record that a command is given to is commanded, its proof under way; every other is as before (R119). -/
theorem giveCommand_barrierRecord (c : BarrierCommand) (b : Nat) (s : State) (x : Nat) :
    (giveCommand c b s).barrierRecord x
      = if x = b then (s.barrierRecord x).map (givenNow s c (provingLimit s.crTab c)) else s.barrierRecord x :=
  barrierRecord_of_changed (fun h => by simp only [giveCommand, h]) (fun _ h => giveCommand_barrier h) x

theorem holdBarrier_barrierRecord (b : Nat) (s : State) (x : Nat) :
    (holdBarrier b s).barrierRecord x
      = if x = b then (s.barrierRecord x).map (recordHeld (timePlus s.now (tExitWaitMaxOf s.crTab)))
        else s.barrierRecord x :=
  barrierRecord_of_changed (fun h => by simp only [holdBarrier, h]) (fun _ h => by simp only [holdBarrier, h]) x

/-! ## The frame of the sequence -/

/-- The blocks a phase of the sequence can change. -/
abbrev sequenceBlocks : List Block := [.portA, .portB, .seq, .barrier, .cmd, .fault, .queue .command]

/-- The classes that entering a state and giving commands can change (R113, R130). -/
abbrev phaseClasses : List FaultClass := [.roadLightsFailed, .barrierNotDown, .barrierNotUp]

/-- What every operation of the sequence keeps from `s` to `t`: the blocks that are none of its own, the flags of
every class not in `l`, and the supervision of the barrier modules and of road presence. -/
structure SequenceFrame (l : List FaultClass) (s t : State) : Prop where
  touches : Touches sequenceBlocks s t
  classes : OnlyClasses l s t
  modules : t.barrier.modules = s.barrier.modules
  presence : t.barrier.presence = s.barrier.presence

section
variable {l : List FaultClass} {s t : State}

theorem SequenceFrame.refl (l : List FaultClass) (s : State) : SequenceFrame l s s :=
  ⟨Touches.refl _ s, OnlyClasses.refl l s, rfl, rfl⟩

theorem SequenceFrame.trans {u : State} (h : SequenceFrame l s t) (k : SequenceFrame l t u) : SequenceFrame l s u :=
  ⟨h.touches.trans k.touches, h.classes.trans k.classes, k.modules.trans h.modules, k.presence.trans h.presence⟩

theorem SequenceFrame.now_eq (h : SequenceFrame l s t) : t.now = s.now := h.touches .timebase (by decide)

theorem SequenceFrame.config_eq (h : SequenceFrame l s t) : t.config = s.config := h.touches .config (by decide)

theorem SequenceFrame.tracker_eq (h : SequenceFrame l s t) : t.tracker = s.tracker := h.touches .tracker (by decide)

theorem SequenceFrame.crTab_eq (h : SequenceFrame l s t) : t.crTab = s.crTab := by
  simp only [State.crTab, h.config_eq]

theorem SequenceFrame.eqTab_eq (h : SequenceFrame l s t) : t.eqTab = s.eqTab := by
  simp only [State.eqTab, h.config_eq]

/-- Demand is read of the tables, the sections, the detectors and the pool (R75). -/
theorem SequenceFrame.demand_eq (h : SequenceFrame l s t) : t.demand = s.demand := by
  have haxle : t.axle = s.axle := h.touches .axle (by decide)
  have hdet : t.detTab = s.detTab := by simp only [State.detTab, h.config_eq]
  have hsec : t.sectionAt = s.sectionAt := by funext trk n; simp only [State.sectionAt, haxle]
  have hclear : t.sectionClear = s.sectionClear := by funext trk n; simp only [State.sectionClear, hsec]
  have huntrusted : t.sectionUntrusted = s.sectionUntrusted := by
    funext trk n; simp only [State.sectionUntrusted, hsec]
  have hok : t.detectorOk = s.detectorOk := by funext d; simp only [State.detectorOk, haxle]
  have hsup : t.unsupervised = s.unsupervised := by
    funext a; simp only [State.unsupervised, State.overflowed, hdet, hok, huntrusted, h.tracker_eq]
  simp only [State.demand, State.recordDemand, State.islandDemand, State.supervisionDemand, hdet, hclear, hsup,
    h.tracker_eq]

theorem SequenceFrame.occupied_eq (h : SequenceFrame l s t) : t.occupied = s.occupied := by
  simp only [State.occupied, h.presence]

theorem SequenceFrame.reopenHeld_iff (h : SequenceFrame l s t) : ReopenHeld t ↔ ReopenHeld s := by
  simp only [ReopenHeld, h.tracker_eq, h.now_eq, h.crTab_eq]

theorem SequenceFrame.givenNow_eq (h : SequenceFrame l s t) : givenNow t = givenNow s := by
  funext c ms r
  simp only [givenNow, h.now_eq]

theorem SequenceFrame.exitLowered_eq (h : SequenceFrame l s t) : exitLowered t = exitLowered s := by
  funext b r
  simp only [exitLowered, h.now_eq, h.crTab_eq, h.eqTab_eq, h.occupied_eq, h.givenNow_eq]

/-! ## The operations keep the frame -/

theorem setSeq_sequenceFrame (q : Sequencer) (h : SequenceFrame l s t) : SequenceFrame l s (t.setSeq q) :=
  ⟨State.setSeq_touches q (by decide) h.touches, h.classes, h.modules, h.presence⟩

theorem enterState_barrier (st : SeqState) (s : State) : (enterState st s).barrier = s.barrier :=
  enterState_touches (L := [.portA, .portB, .seq, .cmd, .fault, .queue .command]) st (by decide)
    (Touches.refl _ s) .barrier (by decide)

theorem enterState_sequenceFrame (st : SeqState) (hl : phaseClasses ⊆ l) (h : SequenceFrame l s t) :
    SequenceFrame l s (enterState st t) where
  touches := enterState_touches st (by decide) h.touches
  classes := enterState_onlyClasses st (hl (by decide)) h.classes
  modules := by rw [enterState_barrier, h.modules]
  presence := by rw [enterState_barrier, h.presence]

theorem giveCommand_sequenceFrame (c : BarrierCommand) (b : Nat) (hl : phaseClasses ⊆ l)
    (h : SequenceFrame l s t) : SequenceFrame l s (giveCommand c b t) := by
  have hcls : [.barrierNotDown, .barrierNotUp] ⊆ l := List.Subset.trans (by decide) hl
  refine h.trans ⟨giveCommand_touches c b (by decide) (Touches.refl _ t),
    giveCommand_onlyClasses c b hcls (OnlyClasses.refl l t), ?_, ?_⟩
  all_goals
    cases hb : t.barrierRecord b with
    | none => simp only [giveCommand, hb]
    | some r => rw [giveCommand_barrier hb]; rfl

theorem giveCommands_sequenceFrame (c : BarrierCommand) (bs : List Nat) (hl : phaseClasses ⊆ l)
    (h : SequenceFrame l s t) : SequenceFrame l s (giveCommands c bs t) := by
  induction bs generalizing t with
  | nil => exact h
  | cons b rest ih => exact ih (giveCommand_sequenceFrame c b hl h)

theorem holdBarrier_sequenceFrame (b : Nat) (h : SequenceFrame l s t) : SequenceFrame l s (holdBarrier b t) := by
  refine h.trans ⟨holdBarrier_touches b (by decide) (Touches.refl _ t), ?_, ?_, ?_⟩
  · exact .of_fault_eq (holdBarrier_touches (L := [.barrier]) b (by decide) (Touches.refl _ t) .fault (by decide))
  all_goals
    unfold holdBarrier
    split <;> rfl

theorem holdBarriers_sequenceFrame (bs : List Nat) (h : SequenceFrame l s t) :
    SequenceFrame l s (holdBarriers bs t) := by
  induction bs generalizing t with
  | nil => exact h
  | cons b rest ih => exact ih (holdBarrier_sequenceFrame b h)

theorem startExitHold_sequenceFrame (hl : phaseClasses ⊆ l) (h : SequenceFrame l s t) :
    SequenceFrame l s (startExitHold t) := by
  unfold startExitHold
  split
  · exact holdBarriers_sequenceFrame _ h
  · exact giveCommands_sequenceFrame _ _ hl h

theorem clearProlonged_sequenceFrame (hl : .prolongedClosure ∈ l) (h : SequenceFrame l s t) :
    SequenceFrame l s (clearProlonged t) := by
  have hset : SequenceFrame l s (t.setSeq { t.seq with prolonged := false }) := setSeq_sequenceFrame _ h
  have hbarrier : (clearProlonged t).barrier = t.barrier :=
    clearProlonged_touches (L := [.seq, .fault]) (by decide) (Touches.refl _ t) .barrier (by decide)
  exact ⟨endFault_touches _ (by decide) hset.touches, endFault_onlyClasses hl hset.classes,
    by rw [hbarrier, h.modules], by rw [hbarrier, h.presence]⟩

end

/-! ## The sequencer and the records after each operation -/

theorem enterState_seq (st : SeqState) (s : State) : (enterState st s).seq = { s.seq with state := st } :=
  lampsOnSeqState_touches (L := [.portA, .portB, .cmd, .fault, .queue .command]) (by decide)
    (Touches.refl _ (s.setSeq { s.seq with state := st })) .seq (by decide)

theorem enterState_barrierRecord (st : SeqState) (s : State) :
    (enterState st s).barrierRecord = s.barrierRecord :=
  State.barrierRecord_congr (enterState_barrier st s)

theorem giveCommands_seq (c : BarrierCommand) (bs : List Nat) (s : State) : (giveCommands c bs s).seq = s.seq :=
  giveCommands_touches (L := [.portA, .portB, .barrier, .cmd, .fault, .queue .command]) c bs (by decide)
    (Touches.refl _ s) .seq (by decide)

theorem startExitHold_seq (s : State) : (startExitHold s).seq = s.seq :=
  startExitHold_touches (L := [.portA, .portB, .barrier, .cmd, .fault, .queue .command]) (by decide)
    (Touches.refl _ s) .seq (by decide)

theorem clearProlonged_seq (s : State) : (clearProlonged s).seq = { s.seq with prolonged := false } :=
  endFault_touches (L := [.fault]) _ (by decide)
    (Touches.refl _ (s.setSeq { s.seq with prolonged := false })) .seq (by decide)

theorem clearProlonged_barrierRecord (s : State) : (clearProlonged s).barrierRecord = s.barrierRecord :=
  State.barrierRecord_congr
    (clearProlonged_touches (L := [.seq, .fault]) (by decide) (Touches.refl _ s) .barrier (by decide))

/-- A command given again at the same time leaves the record as it is. -/
theorem givenNow_givenNow (s : State) (c : BarrierCommand) (ms : Nat) (r : BarrierRecord) :
    givenNow s c ms (givenNow s c ms r) = givenNow s c ms r := rfl

/-- A record held again with the same limit stays as it is. -/
theorem recordHeld_recordHeld (limit : Time) (r : BarrierRecord) :
    recordHeld limit (recordHeld limit r) = recordHeld limit r := rfl

/-- The records of the barriers listed are commanded, every other is as before (R119). -/
theorem giveCommands_barrierRecord (c : BarrierCommand) (bs : List Nat) (s : State) (x : Nat) :
    (giveCommands c bs s).barrierRecord x
      = if x ∈ bs then (s.barrierRecord x).map (givenNow s c (provingLimit s.crTab c)) else s.barrierRecord x := by
  induction bs generalizing s with
  | nil => simp [giveCommands]
  | cons b rest ih =>
    have hframe := giveCommand_sequenceFrame c b (List.Subset.refl _) (SequenceFrame.refl phaseClasses s)
    rw [giveCommands, ih, giveCommand_barrierRecord, hframe.givenNow_eq, hframe.crTab_eq]
    by_cases hxb : x = b
    · simp [hxb, Function.comp_def, givenNow_givenNow]
    · simp [hxb]

/-- The records of the barriers listed are held, every other is as before (R126). -/
theorem holdBarriers_barrierRecord (bs : List Nat) (s : State) (x : Nat) :
    (holdBarriers bs s).barrierRecord x
      = if x ∈ bs then (s.barrierRecord x).map (recordHeld (timePlus s.now (tExitWaitMaxOf s.crTab)))
        else s.barrierRecord x := by
  induction bs generalizing s with
  | nil => simp [holdBarriers]
  | cons b rest ih =>
    have hframe := holdBarrier_sequenceFrame b (SequenceFrame.refl [] s)
    rw [holdBarriers, ih, holdBarrier_barrierRecord, hframe.now_eq, hframe.crTab_eq]
    by_cases hxb : x = b
    · simp [hxb, Function.comp_def, recordHeld_recordHeld]
    · simp [hxb]

/-- A change of the records of the barriers that `p` picks. -/
theorem map_if_mem_picked {α : Type} {p : Nat → Bool} {b : Nat} (hb : b < 4) (f : α → α) (o : Option α) :
    (if b ∈ (List.range 4).filter p then o.map f else o) = o.map fun r => if p b then f r else r := by
  cases hp : p b <;> simp [hp, hb]

theorem lt_of_mem_exitBarriers {et : List Word} {b : Nat} (h : b ∈ exitBarriers et) : b < 4 := by
  simp only [exitBarriers, List.mem_filter, List.mem_range] at h
  exact h.1

/-- The start of exit lowering holds every EXIT barrier, or gives it LOWER, by the occupancy (R83, R126). -/
theorem startExitHold_barrierRecord (s : State) {b : Nat} (hb : b < 4) :
    (startExitHold s).barrierRecord b = (s.barrierRecord b).map (exitLowered s b) := by
  unfold startExitHold
  split
  next hocc =>
    rw [holdBarriers_barrierRecord, exitBarriers, map_if_mem_picked hb]
    exact Option.map_congr fun r _ => by simp only [exitLowered, hocc, if_true, recordHeld]
  next hclear =>
    rw [giveCommands_barrierRecord, exitBarriers, map_if_mem_picked hb]
    exact Option.map_congr fun r _ => by simp only [exitLowered, if_neg hclear, provingLimit]

/-! ## Resolution -/

/-- A record just commanded has its proof under way. -/
theorem recordResolved_givenNow (d : BarrierCommand) (s : State) (c : BarrierCommand) (ms : Nat) (r : BarrierRecord) :
    recordResolved d (givenNow s c ms r) = false := by
  simp [recordResolved, givenNow]

/-- Of barriers just commanded none is resolved, so all of them are only where there is none. -/
theorem giveCommands_allResolved (c d : BarrierCommand) (bs : List Nat) (s : State) :
    (giveCommands c bs s).allResolved d bs = decide (bs = []) := by
  have hnone : ∀ b ∈ bs, (giveCommands c bs s).resolved d b = false := by
    intro b hb
    unfold State.resolved
    rw [giveCommands_barrierRecord, if_pos hb]
    cases s.barrierRecord b with
    | none => rfl
    | some r => exact recordResolved_givenNow ..
  cases bs with
  | nil => rfl
  | cons b rest => simp [State.allResolved, hnone b (by simp)]

/-- An EXIT barrier commanded up is not resolved for lowering when exit lowering starts: the command stands where it
is held, and the proof is under way where it is lowered. -/
theorem recordResolved_exitLowered {s : State} {b : Nat} {r : BarrierRecord} (hr : r.commanded = .raise) :
    recordResolved .lower (exitLowered s b r) = false := by
  unfold exitLowered
  split_ifs
  · simp [recordResolved, hr]
  · exact recordResolved_givenNow ..
  · simp [recordResolved, hr]

/-! ## RAISING entered -/

theorem clearProlonged_isActive (s : State) : (clearProlonged s).fault.isActive .prolongedClosure = false := by
  simp [clearProlonged]

/-- The closure over: no onset, no long closure expiry, not prolonged (R88, R92). -/
def closureOver (s : State) : State := clearProlonged (s.setSeq { s.seq with onset := none, longClosure := none })

/-- RAISING entered and RAISE given, before the sequencer looks whether the barriers are resolved (R88). -/
def raisingBegun (s : State) : State :=
  giveCommands .raise (barriersInUse s.eqTab) (enterState .raising (closureOver s))

section
variable {l : List FaultClass} {s t : State}

theorem closureOver_sequenceFrame (hp : .prolongedClosure ∈ l) (h : SequenceFrame l s t) :
    SequenceFrame l s (closureOver t) :=
  clearProlonged_sequenceFrame hp (setSeq_sequenceFrame _ h)

theorem raisingBegun_sequenceFrame (hl : phaseClasses ⊆ l) (hp : .prolongedClosure ∈ l) (h : SequenceFrame l s t) :
    SequenceFrame l s (raisingBegun t) :=
  giveCommands_sequenceFrame _ _ hl (enterState_sequenceFrame _ hl (closureOver_sequenceFrame hp h))

end

theorem raisingBegun_seq (s : State) : (raisingBegun s).seq
    = { s.seq with state := .raising, onset := none, longClosure := none, prolonged := false } := by
  rw [raisingBegun, giveCommands_seq, enterState_seq, closureOver, clearProlonged_seq]
  rfl

/-- Neither the state entered nor the commands given make PROLONGED_CLOSURE active again. -/
theorem raisingBegun_isActive (s : State) : (raisingBegun s).fault.isActive .prolongedClosure = false := by
  have hframe : SequenceFrame phaseClasses (closureOver s) (raisingBegun s) :=
    giveCommands_sequenceFrame _ _ (List.Subset.refl _)
      (enterState_sequenceFrame _ (List.Subset.refl _) (SequenceFrame.refl _ _))
  rw [(hframe.classes .prolongedClosure (by decide)).1]
  exact clearProlonged_isActive _

/-- RAISE is given to every barrier in use and to no other (R88). -/
theorem raisingBegun_barrierRecord (s : State) {b : Nat} (hb : b < 4) : (raisingBegun s).barrierRecord b
    = (s.barrierRecord b).map fun r =>
        if barrierInUse s.eqTab b then givenNow s .raise (tRaiseMaxOf s.crTab) r else r := by
  have hframe : SequenceFrame sequenceClasses s (enterState .raising (closureOver s)) :=
    enterState_sequenceFrame _ (by decide) (closureOver_sequenceFrame (by decide) (SequenceFrame.refl _ s))
  have hrec : (enterState .raising (closureOver s)).barrierRecord = s.barrierRecord := by
    rw [enterState_barrierRecord, closureOver, clearProlonged_barrierRecord]
    rfl
  rw [raisingBegun, giveCommands_barrierRecord, hrec, hframe.givenNow_eq, hframe.crTab_eq, barriersInUse,
    map_if_mem_picked hb]
  rfl

/-- RAISING lasts until the barriers are resolved: with none in use OPEN is entered at once (R88, R89). -/
theorem enterRaising_eq (s : State) : enterRaising s
    = if barriersInUse s.eqTab = [] then enterState .opened (raisingBegun s) else raisingBegun s := by
  have heq : (closureOver s).eqTab = s.eqTab :=
    (closureOver_sequenceFrame (l := sequenceClasses) (by decide) (SequenceFrame.refl _ s)).eqTab_eq
  have heq' : (raisingBegun s).eqTab = s.eqTab :=
    (raisingBegun_sequenceFrame (l := sequenceClasses) (by decide) (by decide) (SequenceFrame.refl _ s)).eqTab_eq
  have hbegun : enterRaising s = checkRaised (raisingBegun s) := by
    show checkRaised (giveCommands .raise (barriersInUse (closureOver s).eqTab) _) = _
    rw [heq]
    rfl
  have hresolved : (raisingBegun s).allResolved .raise (barriersInUse s.eqTab)
      = decide (barriersInUse s.eqTab = []) := giveCommands_allResolved ..
  rw [hbegun, checkRaised, heq', hresolved, enterOpen]
  simp only [decide_eq_true_eq]

theorem enterRaising_sequenceFrame {s t : State} (h : SequenceFrame sequenceClasses s t) :
    SequenceFrame sequenceClasses s (enterRaising t) := by
  have hbegun := raisingBegun_sequenceFrame (by decide) (by decide) h
  rw [enterRaising_eq]
  split
  · exact enterState_sequenceFrame _ (by decide) hbegun
  · exact hbegun

/-! ## CLOSED entered -/

theorem holdsClosed_iff {limit : Time} {r : TrainRecord} : holdsClosed limit r = true
    ↔ r.state = .approaching ∧ ∃ x, r.scheduledStart = some x ∧ timeBefore x limit = true := by
  unfold holdsClosed
  cases r.scheduledStart <;> simp

/-- The reopen decision holds CLOSED where some record's start lies in the reopen window, and leaves it else (R86). -/
theorem reopenDecision_of_held {s : State} (h : ReopenHeld s) : reopenDecision s = s := by
  unfold reopenDecision
  rw [if_pos]
  simpa only [List.any_eq_true, holdsClosed_iff, ReopenHeld] using h

theorem reopenDecision_of_not_held {s : State} (h : ¬ ReopenHeld s) : reopenDecision s = enterRaising s := by
  unfold reopenDecision
  rw [if_neg]
  simpa only [List.any_eq_true, holdsClosed_iff, ReopenHeld] using h

/-- CLOSED as it is entered, before the reopen decision (R83, R85). -/
def closedBegun (s : State) : State :=
  enterState .closed (s.setSeq { s.seq with exitDelay := none, exitStarted := false })

theorem closedBegun_sequenceFrame {s t : State} (h : SequenceFrame sequenceClasses s t) :
    SequenceFrame sequenceClasses s (closedBegun t) :=
  enterState_sequenceFrame _ (by decide) (setSeq_sequenceFrame _ h)

theorem closedBegun_seq (s : State) :
    (closedBegun s).seq = { s.seq with state := .closed, exitDelay := none, exitStarted := false } :=
  enterState_seq ..

theorem closedBegun_barrierRecord (s : State) : (closedBegun s).barrierRecord = s.barrierRecord :=
  enterState_barrierRecord ..

/-- CLOSED stays with demand or the reopen hold (R85, R86). -/
theorem enterClosed_of_stays {s : State} (h : s.demand = true ∨ ReopenHeld s) : enterClosed s = closedBegun s := by
  have hframe := closedBegun_sequenceFrame (SequenceFrame.refl sequenceClasses s)
  show (if (closedBegun s).demand = true then closedBegun s else reopenDecision (closedBegun s)) = _
  rw [hframe.demand_eq]
  split
  · rfl
  next hdemand => exact reopenDecision_of_held (hframe.reopenHeld_iff.mpr (h.resolve_left hdemand))

/-- CLOSED is left at once with neither (R85, R86). -/
theorem enterClosed_of_leaves {s : State} (hd : s.demand = false) (hr : ¬ ReopenHeld s) :
    enterClosed s = enterRaising (closedBegun s) := by
  have hframe := closedBegun_sequenceFrame (SequenceFrame.refl sequenceClasses s)
  show (if (closedBegun s).demand = true then closedBegun s else reopenDecision (closedBegun s)) = _
  rw [hframe.demand_eq, hd, if_neg Bool.false_ne_true]
  exact reopenDecision_of_not_held (hframe.reopenHeld_iff.not.mpr hr)

theorem enterClosed_sequenceFrame {s t : State} (h : SequenceFrame sequenceClasses s t) :
    SequenceFrame sequenceClasses s (enterClosed t) := by
  have hbegun := closedBegun_sequenceFrame h
  by_cases hstays : t.demand = true ∨ ReopenHeld t
  · rw [enterClosed_of_stays hstays]
    exact hbegun
  · obtain ⟨hd, hr⟩ := not_or.mp hstays
    rw [enterClosed_of_leaves ((Bool.not_eq_true _).mp hd) hr]
    exact enterRaising_sequenceFrame hbegun

/-- CLOSED entered from a state, with its own sequencer and barrier records (R85, R86, R88). -/
theorem enterClosed_closedEntered (s : State) : ClosedEntered s.seq s.barrierRecord s (enterClosed s) := by
  constructor
  · intro hstays
    rw [enterClosed_of_stays hstays, closedBegun_seq, closedBegun_barrierRecord]
    exact ⟨rfl, fun _ _ => rfl⟩
  · intro hd hr
    have hframe := closedBegun_sequenceFrame (SequenceFrame.refl sequenceClasses s)
    have hrec : ∀ b < 4, (raisingBegun (closedBegun s)).barrierRecord b = (s.barrierRecord b).map fun r =>
        if barrierInUse s.eqTab b then givenNow s .raise (tRaiseMaxOf s.crTab) r else r := fun b hb => by
      rw [raisingBegun_barrierRecord _ hb, closedBegun_barrierRecord, hframe.eqTab_eq, hframe.crTab_eq,
        hframe.givenNow_eq]
    rw [enterClosed_of_leaves hd hr, enterRaising_eq, hframe.eqTab_eq]
    split
    · have hopen := enterState_onlyClasses (l := phaseClasses) .opened (by decide)
        (OnlyClasses.refl _ (raisingBegun (closedBegun s))) .prolongedClosure (by decide)
      rw [enterState_seq, raisingBegun_seq, closedBegun_seq, enterState_barrierRecord, hopen.1]
      exact ⟨rfl, raisingBegun_isActive _, hrec⟩
    · rw [raisingBegun_seq, closedBegun_seq]
      exact ⟨rfl, raisingBegun_isActive _, hrec⟩

/-! ## EXIT_LOWERING entered -/

/-- Exit lowering started, before the sequencer looks whether the EXIT barriers are resolved (R83, R126). -/
def exitLoweringBegun (s : State) : State :=
  startExitHold (s.setSeq { s.seq with exitDelay := none, exitStarted := true })

theorem exitLoweringBegun_sequenceFrame {s t : State} (h : SequenceFrame sequenceClasses s t) :
    SequenceFrame sequenceClasses s (exitLoweringBegun t) :=
  startExitHold_sequenceFrame (by decide) (setSeq_sequenceFrame _ h)

theorem exitLoweringBegun_seq (s : State) :
    (exitLoweringBegun s).seq = { s.seq with exitDelay := none, exitStarted := true } :=
  startExitHold_seq _

theorem exitLoweringBegun_barrierRecord (s : State) {b : Nat} (hb : b < 4) :
    (exitLoweringBegun s).barrierRecord b = (s.barrierRecord b).map (exitLowered s b) :=
  startExitHold_barrierRecord _ hb

theorem startExitLowering_eq (s : State) : startExitLowering s
    = if (exitLoweringBegun s).allResolved .lower (exitBarriers s.eqTab) then enterClosed (exitLoweringBegun s)
      else exitLoweringBegun s := by
  have heq := (exitLoweringBegun_sequenceFrame (SequenceFrame.refl _ s)).eqTab_eq
  show checkExitLowered (exitLoweringBegun s) = _
  rw [checkExitLowered, heq]

theorem startExitLowering_sequenceFrame {s t : State} (h : SequenceFrame sequenceClasses s t) :
    SequenceFrame sequenceClasses s (startExitLowering t) := by
  have hbegun := exitLoweringBegun_sequenceFrame h
  rw [startExitLowering_eq]
  split
  · exact enterClosed_sequenceFrame hbegun
  · exact hbegun

/-- CLOSED entered is read of the entering state's demand, pool, time and tables, which the sequence leaves alone. -/
theorem ClosedEntered.of_frame {l : List FaultClass} {q : Sequencer} {rec : Nat → Option BarrierRecord}
    {s u t : State} (hframe : SequenceFrame l s u) (h : ClosedEntered q rec u t) : ClosedEntered q rec s t := by
  simpa only [ClosedEntered, hframe.demand_eq, hframe.reopenHeld_iff, hframe.eqTab_eq, hframe.crTab_eq,
    hframe.givenNow_eq] using h

/-- Exit lowering started from a state, with its own sequencer and barrier records (R83, R126). -/
theorem startExitLowering_started (s : State) :
    ExitLoweringStarted s.seq s.barrierRecord s (startExitLowering s) := by
  have hframe := exitLoweringBegun_sequenceFrame (SequenceFrame.refl _ s)
  rw [startExitLowering_eq]
  constructor
  · rintro ⟨b, hb, r, hr, hraise⟩
    have hunresolved : (exitLoweringBegun s).resolved .lower b = false := by
      unfold State.resolved
      rw [exitLoweringBegun_barrierRecord s (lt_of_mem_exitBarriers hb), hr]
      exact recordResolved_exitLowered hraise
    have hnot : ¬ (exitLoweringBegun s).allResolved .lower (exitBarriers s.eqTab) = true := fun hall => by
      simpa [hunresolved] using List.all_eq_true.mp hall b hb
    rw [if_neg hnot]
    exact ⟨exitLoweringBegun_seq s, fun b hb => exitLoweringBegun_barrierRecord s hb⟩
  · intro hnone
    have hrec : (exitLoweringBegun s).barrierRecord = s.barrierRecord := by
      unfold exitLoweringBegun startExitHold
      split
      · show (holdBarriers (exitBarriers s.eqTab) _).barrierRecord = _
        rw [hnone]; rfl
      · show (giveCommands .lower (exitBarriers s.eqTab) _).barrierRecord = _
        rw [hnone]; rfl
    have hclosed := (enterClosed_closedEntered (exitLoweringBegun s)).of_frame hframe
    rw [exitLoweringBegun_seq, hrec] at hclosed
    rw [hnone]
    exact hclosed

/-- EXIT_LOWERING as it is entered (R82). -/
def exitPhaseBegun (s : State) : State := enterState .exitLowering (s.setSeq { s.seq with exitStarted := false })

theorem exitPhaseBegun_sequenceFrame {s t : State} (h : SequenceFrame sequenceClasses s t) :
    SequenceFrame sequenceClasses s (exitPhaseBegun t) :=
  enterState_sequenceFrame _ (by decide) (setSeq_sequenceFrame _ h)

theorem exitPhaseBegun_seq (s : State) :
    (exitPhaseBegun s).seq = { s.seq with state := .exitLowering, exitStarted := false } :=
  enterState_seq ..

theorem exitPhaseBegun_barrierRecord (s : State) : (exitPhaseBegun s).barrierRecord = s.barrierRecord :=
  enterState_barrierRecord ..

/-- EXIT_LOWERING entered: exit lowering starts, or the exit delay runs (R82, R83). -/
theorem enterExitLowering_eq (s : State) : enterExitLowering s
    = if tExitDelayOf s.crTab = 0 then startExitLowering (exitPhaseBegun s)
      else (exitPhaseBegun s).setSeq { s.seq with
        state := .exitLowering, exitStarted := false
        exitDelay := some (timePlus s.now (tExitDelayOf s.crTab)) } := by
  have hframe := exitPhaseBegun_sequenceFrame (SequenceFrame.refl _ s)
  show (if tExitDelayOf (exitPhaseBegun s).crTab = 0 then _ else (exitPhaseBegun s).setSeq
    { (exitPhaseBegun s).seq with
      exitDelay := some (timePlus (exitPhaseBegun s).now (tExitDelayOf (exitPhaseBegun s).crTab)) }) = _
  rw [hframe.crTab_eq, hframe.now_eq, exitPhaseBegun_seq]
  rfl

theorem enterExitLowering_sequenceFrame {s t : State} (h : SequenceFrame sequenceClasses s t) :
    SequenceFrame sequenceClasses s (enterExitLowering t) := by
  have hbegun := exitPhaseBegun_sequenceFrame h
  rw [enterExitLowering_eq]
  split
  · exact startExitLowering_sequenceFrame hbegun
  · exact setSeq_sequenceFrame _ hbegun

theorem ExitLoweringStarted.of_frame {l : List FaultClass} {q : Sequencer} {rec : Nat → Option BarrierRecord}
    {s u t : State} (hframe : SequenceFrame l s u) (h : ExitLoweringStarted q rec u t) :
    ExitLoweringStarted q rec s t := by
  obtain ⟨hraised, hnone⟩ := h
  rw [hframe.eqTab_eq, hframe.exitLowered_eq] at hraised
  rw [hframe.eqTab_eq] at hnone
  exact ⟨hraised, fun h => (hnone h).of_frame hframe⟩

theorem ExitLoweringEntered.of_frame {l : List FaultClass} {q : Sequencer} {rec : Nat → Option BarrierRecord}
    {s u t : State} (hframe : SequenceFrame l s u) (h : ExitLoweringEntered q rec u t) :
    ExitLoweringEntered q rec s t := by
  obtain ⟨hdelay, hstart⟩ := h
  rw [hframe.crTab_eq, hframe.now_eq] at hdelay
  rw [hframe.crTab_eq] at hstart
  exact ⟨hdelay, fun h => (hstart h).of_frame hframe⟩

/-- EXIT_LOWERING entered from a state, with its own sequencer and barrier records (R82, R83). -/
theorem enterExitLowering_entered (s : State) :
    ExitLoweringEntered s.seq s.barrierRecord s (enterExitLowering s) := by
  rw [enterExitLowering_eq]
  constructor
  · intro hdelay
    rw [if_neg hdelay]
    exact ⟨rfl, fun b _ => congrFun (exitPhaseBegun_barrierRecord s) b⟩
  · intro hdelay
    have hstarted := (startExitLowering_started (exitPhaseBegun s)).of_frame
      (exitPhaseBegun_sequenceFrame (SequenceFrame.refl _ s))
    rw [exitPhaseBegun_seq, exitPhaseBegun_barrierRecord] at hstarted
    rw [if_pos hdelay]
    exact hstarted

/-! ## The states a closing sequence stops in -/

/-- With a barrier in use CLOSED is entered to stay or to be left for RAISING, never for OPEN. -/
theorem enterClosed_state {s : State} (h : barriersInUse s.eqTab ≠ []) :
    (enterClosed s).seq.state = .closed ∨ (enterClosed s).seq.state = .raising := by
  obtain ⟨hstays, hleaves⟩ := enterClosed_closedEntered s
  by_cases hd : s.demand = true ∨ ReopenHeld s
  · left
    rw [(hstays hd).1]
  · obtain ⟨hdemand, hheld⟩ := not_or.mp hd
    right
    rw [(hleaves ((Bool.not_eq_true _).mp hdemand) hheld).1, if_neg h]

/-- With a barrier in use EXIT_LOWERING is entered to stay, or to be left for CLOSED or RAISING. -/
theorem enterExitLowering_state {s : State} (h : barriersInUse s.eqTab ≠ []) :
    (enterExitLowering s).seq.state ∈ [.exitLowering, .closed, .raising] := by
  rw [enterExitLowering_eq]
  split
  · have hframe := exitLoweringBegun_sequenceFrame (exitPhaseBegun_sequenceFrame (SequenceFrame.refl _ s))
    rw [startExitLowering_eq]
    split
    · have hclosed := enterClosed_state (s := exitLoweringBegun (exitPhaseBegun s)) (by rwa [hframe.eqTab_eq])
      rcases hclosed with hst | hst <;> rw [hst] <;> decide
    · rw [exitLoweringBegun_seq, exitPhaseBegun_seq]
      exact List.mem_cons_self
  · simp

/-- A part whose sequencer is neither in INIT_SAFE nor in OPEN is not quiescent, so no activation takes effect
(R176). -/
theorem activateIfQuiescent_of_state {s : State} (hi : s.seq.state ≠ .initSafe) (ho : s.seq.state ≠ .opened) :
    activateIfQuiescent s = s := by
  have hq : s.quiescent = false := by simp [State.quiescent, hi, ho]
  unfold activateIfQuiescent
  split
  · rw [hq]; rfl
  · rfl

/-! ## The end of an event -/

/-- Where no activation takes effect, the end of an event is the crossing proof and the status. -/
theorem settle_of_no_activation (before : State) {s : State} (h : activateIfQuiescent s = s) :
    settle before s = finishProof before false s := by
  rw [settle, settleDue, h]

/-- The end of an event evaluates the crossing proof and leaves every other part of the barrier supervisor (R129). -/
theorem finishProof_barrier (before : State) (due : Bool) (s : State) :
    (finishProof before due s).barrier = { s.barrier with proved := s.crossingProof } :=
  finish_touches (L := [.portA, .portB, .queue .status]) before due (by decide)
    (Touches.refl _ (evaluateProof s)) .barrier (by decide)

theorem finishProof_barrierRecord (before : State) (due : Bool) (s : State) :
    (finishProof before due s).barrierRecord = s.barrierRecord := by
  funext b
  simp only [State.barrierRecord, finishProof_barrier]

theorem finishProof_seq (before : State) (due : Bool) (s : State) : (finishProof before due s).seq = s.seq :=
  finishProof_touches (L := [.portA, .portB, .barrier, .queue .status]) before due (by decide)
    (Touches.refl _ s) .seq (by decide)

theorem finishProof_fault (before : State) (due : Bool) (s : State) : (finishProof before due s).fault = s.fault :=
  finishProof_touches (L := [.portA, .portB, .barrier, .queue .status]) before due (by decide)
    (Touches.refl _ s) .fault (by decide)

/-- CROSSING_PROVED is withdrawn outside CLOSED (R129). -/
theorem finishProof_proved (before : State) (due : Bool) {s : State} (h : s.seq.state ≠ .closed) :
    (finishProof before due s).barrier.proved = false := by
  rw [finishProof_barrier]
  simp [State.crossingProof, h]

/-- What EXIT_LOWERING entered says, it says of the sequencer, the records and the flags. -/
theorem ExitLoweringEntered.after_finishProof {q : Sequencer} {rec : Nat → Option BarrierRecord} {s t : State}
    (before : State) (due : Bool) (h : ExitLoweringEntered q rec s t) :
    ExitLoweringEntered q rec s (finishProof before due t) := by
  simpa only [ExitLoweringEntered, ExitLoweringStarted, ClosedEntered, finishProof_seq, finishProof_fault,
    finishProof_barrierRecord] using h

/-! ## The red expiry -/

/-- ENTRY_LOWERING as the red expiry enters it (R80). -/
def entryPhaseBegun (s : State) : State := enterState .entryLowering (s.setSeq { s.seq with red := none })

theorem entryPhaseBegun_sequenceFrame (s : State) : SequenceFrame sequenceClasses s (entryPhaseBegun s) :=
  enterState_sequenceFrame _ (by decide) (setSeq_sequenceFrame _ (SequenceFrame.refl _ s))

theorem entryPhaseBegun_seq (s : State) :
    (entryPhaseBegun s).seq = { s.seq with state := .entryLowering, red := none } :=
  enterState_seq ..

theorem entryPhaseBegun_barrierRecord (s : State) : (entryPhaseBegun s).barrierRecord = s.barrierRecord :=
  enterState_barrierRecord ..

/-- LOWER is given to the ENTRY barriers; where there is none EXIT_LOWERING is entered at once (R80, R82). -/
theorem leaveRedFlash_eq (s : State) : leaveRedFlash s
    = if entryBarriers s.eqTab = [] then enterExitLowering (entryPhaseBegun s)
      else giveCommands .lower (entryBarriers s.eqTab) (entryPhaseBegun s) := by
  have hgiven : SequenceFrame sequenceClasses s (giveCommands .lower (entryBarriers s.eqTab) (entryPhaseBegun s)) :=
    giveCommands_sequenceFrame _ _ (by decide) (entryPhaseBegun_sequenceFrame s)
  show checkEntryLowered (giveCommands .lower (entryBarriers s.eqTab) (entryPhaseBegun s)) = _
  rw [checkEntryLowered, hgiven.eqTab_eq, giveCommands_allResolved]
  simp only [decide_eq_true_eq]
  split
  next h => rw [h]; rfl
  next => rfl

theorem execRedExpiry_of_due {s : State} (h : s.seq.red = some s.now) :
    exec .redExpiry s = .next (settle s (leaveRedFlash s)) := by
  have hdue : s.due s.seq.red = true := by simp [State.due, h]
  show execRedExpiry s = _
  rw [execRedExpiry, atExpiry, if_pos hdue]

/-- A phase of the sequence ended without an activation: its frame, and a status telegram where one is due. -/
theorem SequenceFrame.after_finishProof {s t : State} (before : State) (due : Bool)
    (h : SequenceFrame sequenceClasses s t) :
    (finishProof before due t).barrier.modules = s.barrier.modules
      ∧ (finishProof before due t).barrier.presence = s.barrier.presence
      ∧ OnlyClasses sequenceClasses s (finishProof before due t)
      ∧ Touches [.portA, .portB, .seq, .barrier, .cmd, .fault, .queue .command, .queue .status] s
          (finishProof before due t) := by
  rw [finishProof_barrier]
  exact ⟨h.modules, h.presence, h.classes.trans (.of_fault_eq (finishProof_fault ..)),
    finishProof_touches before due (by decide) (h.touches.mono (by decide))⟩

theorem leaveRedFlash_sequenceFrame (s : State) : SequenceFrame sequenceClasses s (leaveRedFlash s) := by
  have hbegun := entryPhaseBegun_sequenceFrame s
  rw [leaveRedFlash_eq]
  split
  · exact enterExitLowering_sequenceFrame hbegun
  · exact giveCommands_sequenceFrame _ _ (by decide) hbegun

section
variable {s : State}

/-- With an ENTRY barrier in use the red expiry ends in ENTRY_LOWERING. -/
theorem leaveRedFlash_seq_of_entry (h : entryBarriers s.eqTab ≠ []) :
    (leaveRedFlash s).seq = { s.seq with state := .entryLowering, red := none } := by
  rw [leaveRedFlash_eq, if_neg h, giveCommands_seq, entryPhaseBegun_seq]

/-- LOWER is given to every ENTRY barrier and to no other (R80, R119). -/
theorem leaveRedFlash_barrierRecord_of_entry (h : entryBarriers s.eqTab ≠ []) {b : Nat} (hb : b < 4) :
    (leaveRedFlash s).barrierRecord b = (s.barrierRecord b).map fun r =>
      if barrierEntryRole s.eqTab b then givenNow s .lower (tLowerMaxOf s.crTab) r else r := by
  have hframe := entryPhaseBegun_sequenceFrame s
  rw [leaveRedFlash_eq, if_neg h, giveCommands_barrierRecord, entryPhaseBegun_barrierRecord, hframe.givenNow_eq,
    hframe.crTab_eq, entryBarriers, map_if_mem_picked hb]
  rfl

/-- With no ENTRY barrier in use the red expiry enters EXIT_LOWERING, with the red expiry removed (R82). -/
theorem leaveRedFlash_entered (h : entryBarriers s.eqTab = []) :
    ExitLoweringEntered { s.seq with red := none } s.barrierRecord s (leaveRedFlash s) := by
  have hentered := (enterExitLowering_entered (entryPhaseBegun s)).of_frame (entryPhaseBegun_sequenceFrame s)
  rw [entryPhaseBegun_seq, entryPhaseBegun_barrierRecord] at hentered
  rw [leaveRedFlash_eq, if_pos h]
  exact hentered

/-- With a barrier in use the red expiry does not make the part quiescent. -/
theorem leaveRedFlash_state (h : barriersInUse s.eqTab ≠ []) :
    (leaveRedFlash s).seq.state ∈ [.entryLowering, .exitLowering, .closed, .raising] := by
  by_cases hentry : entryBarriers s.eqTab = []
  · rw [leaveRedFlash_eq, if_pos hentry]
    exact List.mem_cons_of_mem _
      (enterExitLowering_state (by rwa [(entryPhaseBegun_sequenceFrame s).eqTab_eq]))
  · rw [leaveRedFlash_seq_of_entry hentry]
    exact List.mem_cons_self

theorem barriersInUse_ne_nil_of_entry {et : List Word} (h : entryBarriers et ≠ []) : barriersInUse et ≠ [] := by
  obtain ⟨b, hb⟩ := List.exists_mem_of_ne_nil _ h
  simp only [entryBarriers, List.mem_filter] at hb
  exact List.ne_nil_of_mem (a := b) (by simp [barriersInUse, barrierInUse, hb.2, List.mem_range.mp hb.1])

/-- No activation waits, or the part does not become quiescent: the red expiry brings no activation into effect. -/
theorem execRedExpiry_eq (hred : s.seq.red = some s.now) (h : NotAwaiting s ∨ barriersInUse s.eqTab ≠ []) :
    exec .redExpiry s = .next (finishProof s false (leaveRedFlash s)) := by
  rw [execRedExpiry_of_due hred, settle_of_no_activation]
  rcases h with hidle | huse
  · exact activateIfQuiescent_notAwaiting
      (hidle.of_touches (by decide) (leaveRedFlash_sequenceFrame s).touches)
  · have hstate := leaveRedFlash_state huse
    exact activateIfQuiescent_of_state (fun heq => by simp [heq] at hstate) (fun heq => by simp [heq] at hstate)

end

/-- Settles O25: a barrier just given LOWER is not resolved, so ENTRY_LOWERING stays where an ENTRY barrier is in use,
and EXIT_LOWERING is entered at once where none is. -/
theorem redExpiry : Obligations.RedExpiry := by
  unfold Obligations.RedExpiry
  constructor
  · rintro s hred ⟨b, hb, -⟩
    have hentry : entryBarriers s.eqTab ≠ [] := List.ne_nil_of_mem hb
    have hseq := leaveRedFlash_seq_of_entry hentry
    obtain ⟨hmodules, hpresence, hclasses, htouches⟩ := (leaveRedFlash_sequenceFrame s).after_finishProof s false
    refine ⟨_, execRedExpiry_eq hred (.inr (barriersInUse_ne_nil_of_entry hentry)), ?_, fun b hb => ?_,
      hmodules, hpresence, finishProof_proved _ _ (by simp [hseq]), hclasses, htouches⟩
    · rw [finishProof_seq, hseq]
    · rw [finishProof_barrierRecord]
      exact leaveRedFlash_barrierRecord_of_entry hentry hb
  · intro s hquiet hred hnone
    obtain ⟨hmodules, hpresence, hclasses, htouches⟩ := (leaveRedFlash_sequenceFrame s).after_finishProof s false
    refine ⟨_, execRedExpiry_eq hred hquiet, (leaveRedFlash_entered hnone).after_finishProof _ _, hmodules, hpresence,
      fun hstate => finishProof_proved _ _ ?_, hclasses, htouches⟩
    rwa [finishProof_seq] at hstate

end Sys2Proof.Machine
end

section
/-! PROOFS. The judged samples of the lamp supervisor (R107, R108): what each kind does to a lamp record, and the
statement O30. -/

namespace Sys2Proof.Machine

section
variable {n : Nat}

/-- A run reaches N_lamp where one more would, so stopping at N_lamp hides nothing from the tables of R107 and R108. -/
theorem le_runUp_iff (run : Nat) : n ≤ runUp n run ↔ n ≤ run + 1 := by
  simp only [runUp, Nat.le_min, Nat.le_refl, and_true]

theorem runUp_lt_iff (run : Nat) : runUp n run < n ↔ run + 1 < n := by
  simpa only [not_le] using (le_runUp_iff run).not

theorem judgeSample_goodLit (r : LampRecord) :
    judgeSample n .goodLit r =
      { r with
        goodLit := min (r.goodLit + 1) n
        badLit := 0
        state := if r.state = .failed ∧ r.goodLit + 1 < n then .failed else .proved } := by
  simp only [judgeSample, runUp_lt_iff]
  rfl

/-- A FAILED lamp needs no clause of its own: a bad LIT sample leaves it FAILED either way (R107). -/
theorem judgeSample_badLit (r : LampRecord) :
    judgeSample n .badLit r =
      { r with
        badLit := min (r.badLit + 1) n
        goodLit := 0
        state := if n ≤ r.badLit + 1 then .failed else r.state } := by
  by_cases hfailed : r.state = .failed
  · simp only [judgeSample, hfailed, true_or, ite_self]
    rfl
  · simp only [judgeSample, hfailed, false_or, le_runUp_iff]
    rfl

theorem judgeSample_stuckOn (r : LampRecord) :
    judgeSample n .stuckOn r =
      { r with
        stuckRun := min (r.stuckRun + 1) n
        goodDark := 0
        stuckOn := r.stuckOn || n ≤ r.stuckRun + 1 } := by
  simp only [judgeSample, le_runUp_iff]
  rfl

theorem judgeSample_goodDark (r : LampRecord) :
    judgeSample n .goodDark r =
      { r with
        goodDark := min (r.goodDark + 1) n
        stuckRun := 0
        stuckOn := r.stuckOn && r.goodDark + 1 < n } := by
  simp only [judgeSample, runUp_lt_iff]
  rfl

end

/-- Settles O30: the model compares the run as it stops at N_lamp, the tables the run one longer, and both reach N_lamp
together (`le_runUp_iff`). -/
theorem judgedSample : Obligations.JudgedSample := fun _ r _ =>
  ⟨judgeSample_goodLit r, judgeSample_badLit r, judgeSample_stuckOn r, judgeSample_goodDark r, rfl⟩

end Sys2Proof.Machine
end

section
/-! PROOFS. Fault reports acting on the flags and the history (R135, R138): each report as an equation per state of the
two flags, what a change of the flags leaves, and the statement O38. -/

namespace Sys2Proof.Machine

section
variable {c : FaultClass} {x y : Nat} {s : State}

/-! ## The reports, by the flags they find -/

theorem raiseFault_of_latched (h : s.fault.isLatched c = true) : raiseFault c x y s = s := by
  rw [raiseFault, if_pos h]

theorem raiseFault_of_not_latched (h : s.fault.isLatched c = false) :
    raiseFault c x y s = setFlags s.fault.active (s.fault.latched ||| c.bit) (capture c x y s) := by
  rw [raiseFault, if_neg (Bool.eq_false_iff.mp h)]

theorem enterFault_of_active (h : s.fault.isActive c = true) : enterFault c x y s = s := by
  rw [enterFault, if_pos h]

theorem enterFault_of_latched (h : s.fault.isActive c = false) (hl : s.fault.isLatched c = true) :
    enterFault c x y s = setFlags (s.fault.active ||| c.bit) s.fault.latched s := by
  rw [enterFault, if_neg (Bool.eq_false_iff.mp h), if_pos hl]

theorem enterFault_of_not_latched (h : s.fault.isActive c = false) (hl : s.fault.isLatched c = false) :
    enterFault c x y s
      = setFlags (s.fault.active ||| c.bit) (s.fault.latched ||| c.bit) (capture c x y s) := by
  rw [enterFault, if_neg (Bool.eq_false_iff.mp h), if_neg (Bool.eq_false_iff.mp hl)]

theorem endFault_of_active (h : s.fault.isActive c = true) :
    endFault c s = setFlags (s.fault.active &&& ~~~c.bit) s.fault.latched s := by
  rw [endFault, if_pos h]

theorem endFault_of_not_active (h : s.fault.isActive c = false) : endFault c s = s := by
  rw [endFault, if_neg (Bool.eq_false_iff.mp h)]

end

/-! ## The history after a capture -/

/-- The history holds at most 32 records, the newest last (R141): a capture keeps the newest 31 of a full one. -/
theorem pushHistory_eq (l : List FaultRecord) (r : FaultRecord) :
    pushHistory l r = (if l.length < 32 then l else l.drop (l.length - 31)) ++ [r] := by
  simp only [pushHistory, historyCapacity, ← Nat.not_lt, ite_not, Nat.reduceSubDiff]

/-- The fault unit `f` holds the history of `s` with one record of this class, subject and detail put at its end, and
its next record number is one further (R141, R142). -/
def RecordAppended (c : FaultClass) (subject : Byte) (detail : Word) (s : State) (f : FaultUnit) : Prop :=
  f.nextRecord = s.fault.nextRecord + 1
    ∧ f.history = (if s.fault.history.length < 32 then s.fault.history
        else s.fault.history.drop (s.fault.history.length - 31))
          ++ [⟨s.fault.nextRecord, s.now, c, subject, detail⟩]

theorem capture_recordAppended (c : FaultClass) (subject : Byte) (detail : Word) (s : State) :
    RecordAppended c subject detail s (capture c subject.toNat detail.toNat s).fault := by
  refine ⟨rfl, ?_⟩
  simp only [capture, State.setFault_fault, pushHistory_eq, BitVec.ofNat_toNat, BitVec.setWidth_eq]

/-! ## The flags after a report -/

/-- The fault unit of `t` holds these flags and the groups that follow from them under the map of `s` (R137), and
nothing outside the fault unit, nor its status period, has changed since `s`. -/
def FlagsSet (active latched : BitVec 24) (s t : State) : Prop :=
  t.fault.active = active ∧ t.fault.latched = latched
    ∧ t.fault.groups = groupsOf s.safetyActive s.crTab active latched
    ∧ t.fault.statusExpiry = s.fault.statusExpiry ∧ Touches [.fault] s t

/-- Flags set on a state that differs in its fault unit alone: the map of R137 is still that of `s`. -/
theorem setFlags_flagsSet (active latched : BitVec 24) {s t : State} (h : Touches [.fault] s t) :
    FlagsSet active latched s (setFlags active latched t) := by
  have hconfig : t.config = s.config := h .config (by decide)
  have hperiod : t.fault.statusExpiry = s.fault.statusExpiry := h .statusPeriod (by decide)
  refine ⟨rfl, rfl, ?_, hperiod, setFlags_touches _ _ (by decide) h⟩
  simp only [setFlags_groups, State.safetyActive, State.crTab, hconfig]

/-- Flags set after a capture: both the flags' effect and the captured record stand. -/
theorem setFlags_capture (active latched : BitVec 24) (c : FaultClass) (subject : Byte) (detail : Word) (s : State) :
    let t := setFlags active latched (capture c subject.toNat detail.toNat s)
    FlagsSet active latched s t ∧ RecordAppended c subject detail s t.fault :=
  ⟨setFlags_flagsSet _ _ (capture_touches _ _ _ (by decide) (Touches.refl _ s)),
    capture_recordAppended c subject detail s⟩

/-- Flags set with no capture. -/
theorem setFlags_kept (active latched : BitVec 24) (s : State) :
    let t := setFlags active latched s
    FlagsSet active latched s t ∧ t.fault.nextRecord = s.fault.nextRecord ∧ t.fault.history = s.fault.history :=
  ⟨setFlags_flagsSet _ _ (Touches.refl _ s), rfl, rfl⟩

/-- Settles O38: every report that changes anything sets the flags, after a capture where it latches a class and for
every NOTICE, and with no capture otherwise. -/
theorem faultReports : Obligations.FaultReports := by
  intro c subject detail s
  refine ⟨fun hlatched => ?_, raiseFault_of_latched, ?_, fun hactive hlatched => ?_, fun hactive hlatched => ?_,
    enterFault_of_active, fun hactive => ?_, endFault_of_not_active⟩
  · rw [raiseFault_of_not_latched hlatched]
    exact setFlags_capture _ _ c subject detail s
  · rintro rfl
    exact setFlags_capture _ _ .notice subject detail s
  · rw [enterFault_of_not_latched hactive hlatched]
    exact setFlags_capture _ _ c subject detail s
  · rw [enterFault_of_latched hactive hlatched]
    exact setFlags_kept _ _ s
  · rw [endFault_of_active hactive]
    exact setFlags_kept _ _ s

end Sys2Proof.Machine
end

section
/-! PROOFS. Time and hardware reset: what a step does with the front of the queue and with an empty one (logs 1, 19),
the blocks after reset, and the statements O1, O2, O3 and O4. -/

namespace Sys2Proof.Machine

/-! ## Steps -/

/-- Settles O1: the step puts the rest of the queue in place of the whole one before it runs the front. -/
theorem stepRunsFront : Obligations.StepRunsFront := fun _ _ _ => rfl

theorem step_of_empty {s : State} (h : s.pending = []) : step s = idleStep s := by
  simp only [step, h]

/-- Settles O2: on an empty queue a step is `idleStep`, which looks at the due expiries alone. -/
theorem emptyQueueIsTime : Obligations.EmptyQueueIsTime := by
  intro s h
  rw [step_of_empty h]
  exact ⟨fun hdue => by simp only [idleStep, hdue, tick], fun c rest hdue => by simp only [idleStep, hdue]⟩

/-! ## The loop table after reset -/

/-- A window of which the table holds the words of a strap window (R179, R187). -/
theorem windowOf_eq_of_words {t : List Word} {i role : Nat} {base : Addr}
    (h0 : wordIn t (4 * i) = strapFlags role) (h1 : wordIn t (4 * i + 1) = base)
    (h2 : wordIn t (4 * i + 2) = 0xFFFF) (h3 : wordIn t (4 * i + 3) = 0) (hr : role < 4) :
    windowOf t i = ⟨true, base, 0xFFFF, some .consume, roleOfCode role, false, 0⟩ := by
  have hrole : role = 0 ∨ role = 1 ∨ role = 2 ∨ role = 3 := by omega
  simp only [windowOf, bitsIn, h0, h1, h2, h3]
  rcases hrole with rfl | rfl | rfl | rfl <;> rfl

/-- The three windows of the strap base: CONFIG at it, SIGNALLER and FIELD at the two addresses after it (R179). -/
theorem windowOf_strapLoopTable (strap : BitVec 12) :
    windowOf (strapLoopTable strap) 0
        = ⟨true, strapBaseOf strap, 0xFFFF, some .consume, some .config, false, 0⟩
      ∧ windowOf (strapLoopTable strap) 1
        = ⟨true, strapBaseOf strap + 1, 0xFFFF, some .consume, some .signaller, false, 0⟩
      ∧ windowOf (strapLoopTable strap) 2
        = ⟨true, strapBaseOf strap + 2, 0xFFFF, some .consume, some .field, false, 0⟩ :=
  ⟨windowOf_eq_of_words (role := 1) rfl rfl rfl rfl (by decide),
    windowOf_eq_of_words (role := 2) rfl rfl rfl rfl (by decide),
    windowOf_eq_of_words (role := 3) rfl rfl rfl rfl (by decide)⟩

/-- The words of the other five windows are 0, so none of them is enabled (R179). -/
theorem windowOf_strapLoopTable_disabled (strap : BitVec 12) {i : Nat} (h3 : 3 ≤ i) (h8 : i < 8) :
    (windowOf (strapLoopTable strap) i).enabled = false := by
  have hword : wordIn (strapLoopTable strap) (4 * i) = 0 := by
    have : i = 3 ∨ i = 4 ∨ i = 5 ∨ i = 6 ∨ i = 7 := by omega
    rcases this with rfl | rfl | rfl | rfl | rfl <;> rfl
  simp [windowOf, hword]

/-- The base priorities 0, 2, 4, 6 stand in one word (R179, R187). -/
theorem basePriorityOf_strapLoopTable (strap : BitVec 12) :
    arbiterOrder.map (basePriorityOf (strapLoopTable strap)) = [0, 2, 4, 6] := by
  have hword : wordIn (strapLoopTable strap) 35 = 0x6420 := rfl
  simp only [arbiterOrder, List.map, basePriorityOf, bitsIn, hword]
  rfl

/-! ## Hardware reset -/

theorem getElem?_replicate_none_join {α : Type} (n i : Nat) :
    ((List.replicate n (none : Option α))[i]?).join = none := by
  rw [List.getElem?_replicate]
  split <;> rfl

theorem getD_replicate_false (n i : Nat) : (List.replicate n false).getD i false = false := by
  rw [List.getD_eq_getElem?_getD, List.getElem?_replicate]
  split <;> rfl

theorem portReset_queue (c : QueueClass) : portReset.queue c = [] := by cases c <;> rfl

/-- Settles O3: the state after reset is written out block by block; only the lists of free records are read at every
index. -/
theorem hardwareReset_isReset : Obligations.HardwareReset := by
  intro strap s
  obtain ⟨hconfig, hsignaller, hfield⟩ := windowOf_strapLoopTable strap
  refine ⟨hardwareReset strap s, rfl, rfl, fun p => ?_, rfl, rfl, rfl, rfl, rfl,
    basePriorityOf_strapLoopTable strap, hconfig, hsignaller, hfield,
    fun i => windowOf_strapLoopTable_disabled strap, getElem?_replicate_none_join 32, rfl, rfl, rfl,
    getD_replicate_false 8, rfl, getElem?_replicate_none_join 16, rfl, getElem?_replicate_none_join 4, rfl, rfl, rfl,
    rfl, rfl, rfl, rfl, rfl, rfl, rfl, rfl, fun i => ?_, rfl, rfl, rfl, rfl, rfl, rfl, rfl, rfl⟩
  · cases p <;> exact ⟨rfl, rfl, rfl, rfl, portReset_queue⟩
  · cases i <;> rfl

/-! ## The invariants after reset -/

theorem reset_lampRecord (l : Nat) : State.reset.lampRecord l = none := getElem?_replicate_none_join 16 l

theorem reset_barrierRecord (b : Nat) : State.reset.barrierRecord b = none := getElem?_replicate_none_join 4 b

/-- The one record of the history is numbered one below the next number (R142). -/
theorem reset_historySound : HistorySound State.reset := by
  refine ⟨by decide, fun i r hr => ?_⟩
  cases i with
  | zero => cases hr; rfl
  | succ i => cases hr

theorem reset_trackFaultsSound : TrackFaultsSound State.reset := ⟨by decide, by decide, by decide, by decide⟩

theorem reset_lampFaultsSound : LampFaultsSound State.reset :=
  ⟨by decide, by decide, by decide, by decide, by decide⟩

theorem reset_barrierFaultsSound : BarrierFaultsSound State.reset :=
  ⟨by decide, by decide, by decide, by decide, by decide⟩

theorem reset_tablesSound : TablesSound State.reset :=
  ⟨by decide, by decide, fun _ => ⟨rfl, rfl⟩, fun h => by cases h⟩

theorem reset_stagedSound : StagedSound State.reset :=
  ⟨fun i => by cases i <;> exact ⟨List.length_replicate, Nat.zero_le _, Nat.zero_le _⟩, rfl⟩

/-- With every word 0 no detector, lamp, barrier or module is in use. -/
theorem reset_geometrySound : GeometrySound State.reset :=
  ⟨by decide, by decide, by decide, by decide, by decide, by decide, by decide, rfl, fun _ h => by cases h⟩

theorem reset_sequencerSound : SequencerSound State.reset := by
  refine ⟨by decide, rfl, by decide, by decide, by decide, ?_, ?_, ?_⟩ <;> exact fun h => by cases h

/-- Settles O4: with no set active there is no record of track, train, lamp or barrier, so each invariant is about
the two ports, the loop table and the one fault that is active. -/
theorem resetInvariants : Obligations.ResetInvariants := by
  refine ⟨fun _ h => (by cases h), ⟨Nat.zero_le _, fun _ => Nat.zero_le _, fun _ h => by cases h⟩,
    ⟨by decide, List.nodup_nil, fun _ h => by cases h⟩, fun _ h => (by cases h), reset_sequencerSound,
    fun h => (by rcases h with h | h <;> cases h), rfl, fun b r h => ?_, ⟨fun l r h => ?_, fun _ h => by cases h⟩,
    reset_historySound, ⟨rfl, rfl, rfl⟩, reset_trackFaultsSound, reset_lampFaultsSound, reset_barrierFaultsSound,
    ⟨rfl, rfl⟩, ⟨Nat.zero_le _, List.nodup_nil⟩, ?_, reset_stagedSound,
    ⟨⟨fun _ => rfl, fun _ => rfl⟩, fun _ h => by cases h⟩, reset_tablesSound, fun h => (by cases h),
    reset_geometrySound⟩
  · rw [reset_barrierRecord] at h; cases h
  · rw [reset_lampRecord] at h; cases h
  · show State.reset.cmd.slots = _
    decide

end Sys2Proof.Machine
end

section
/-! PROOFS. Frames (R154, R180, R181): a frame cut into header, payload and CRC, and the statements O5 and O6; and the
deciding window (R157), with the statement O9. -/

namespace Sys2Proof.Machine

/-! ## Words and bytes -/

/-- The two bytes of a word make the word (R181). -/
theorem wordOf_hiByte_loByte (w : Word) : wordOf (hiByte w) (loByte w) = w := by
  apply BitVec.eq_of_getLsbD_eq
  intro i hi
  simp only [wordOf, hiByte, loByte, BitVec.getLsbD_append, BitVec.getLsbD_extractLsb']
  by_cases h : i < 8
  · simp [h]
  · have h' : i - 8 < 8 := by omega
    have h'' : 8 + (i - 8) = i := by omega
    simp [h, h', h'']

theorem hiByte_wordOf (hi lo : Byte) : hiByte (wordOf hi lo) = hi := by
  apply BitVec.eq_of_getLsbD_eq
  intro i hi
  rw [wordOf, hiByte, BitVec.getLsbD_extractLsb', BitVec.getLsbD_append]
  simp [hi]

theorem loByte_wordOf (hi lo : Byte) : loByte (wordOf hi lo) = lo := by
  apply BitVec.eq_of_getLsbD_eq
  intro i hi
  rw [wordOf, loByte, BitVec.getLsbD_extractLsb', BitVec.getLsbD_append]
  simp [hi]

theorem bytes2_wordOf (hi lo : Byte) : bytes2 (wordOf hi lo) = [hi, lo] := by
  simp [bytes2, hiByte_wordOf, loByte_wordOf]

/-! ## The frame of a telegram -/

theorem frameBody_length (t : Telegram) : (frameBody t).length = t.payload.length + 6 := by
  simp [frameBody, bytes2]

/-- The length field of the frame of a telegram that fits is the number of its payload bytes (R180). -/
theorem lengthField_frameBytes {t : Telegram} (h : t.payload.length ≤ 48) :
    (byteAt (frameBytes t) 5).toNat = t.payload.length := by
  have hbyte : byteAt (frameBytes t) 5 = BitVec.ofNat 8 t.payload.length := rfl
  rw [hbyte, BitVec.toNat_ofNat]
  omega

/-- The two bytes after header and payload are the CRC (R181). -/
theorem wordAt_frameBytes_crc (t : Telegram) :
    wordAt (frameBytes t) (t.payload.length + 6) = crc16 (frameBody t) := by
  rw [wordAt, byteAt, byteAt, frameBytes, ← frameBody_length]
  simp only [List.getD_append_right, le_refl, Nat.le_succ, Nat.sub_self, Nat.add_sub_cancel_left]
  exact wordOf_hiByte_loByte _

theorem parseFrame_frameBytes {t : Telegram} (h : t.payload.length ≤ 48) : parseFrame (frameBytes t) = some t := by
  have hlen : (frameBytes t).length = t.payload.length + 8 := by simp [frameBytes, frameBody, bytes2]
  have htake : (frameBytes t).take (t.payload.length + 6) = frameBody t := by
    rw [frameBytes, ← frameBody_length, List.take_left]
  have hgood : ¬ (maxPayload < t.payload.length ∨ (frameBytes t).length ≠ t.payload.length + 8
      ∨ crc16 ((frameBytes t).take (t.payload.length + 6)) ≠ wordAt (frameBytes t) (t.payload.length + 6)) := by
    rw [hlen, htake, wordAt_frameBytes_crc, maxPayload]
    simp only [ne_eq, not_true_eq_false, or_false]
    omega
  have hpayload : ((frameBytes t).drop 6).take t.payload.length = t.payload := by
    show (t.payload ++ bytes2 _).take _ = _
    rw [List.take_left]
  have hdst : wordAt (frameBytes t) 0 = t.dst := wordOf_hiByte_loByte t.dst
  have hsrc : wordAt (frameBytes t) 2 = t.src := wordOf_hiByte_loByte t.src
  have hkind : byteAt (frameBytes t) 4 = t.kind := rfl
  simp only [parseFrame, lengthField_frameBytes h, if_neg hgood, hpayload, hdst, hsrc, hkind]

/-! ## A frame that is accepted -/

/-- A frame is accepted only where it passes the three checks of R154. -/
theorem parseFrame_eq_some {l : List Byte} {t : Telegram} (h : parseFrame l = some t) :
    (byteAt l 5).toNat ≤ 48 ∧ l.length = (byteAt l 5).toNat + 8
      ∧ crc16 (l.take ((byteAt l 5).toNat + 6)) = wordAt l ((byteAt l 5).toNat + 6)
      ∧ t = ⟨wordAt l 0, wordAt l 2, byteAt l 4, (l.drop 6).take (byteAt l 5).toNat⟩ := by
  unfold parseFrame at h
  dsimp only at h
  split at h
  · cases h
  · rename_i hgood
    simp only [maxPayload, not_or, not_not, Nat.not_lt] at hgood
    obtain ⟨hfits, hlen, hcrc⟩ := hgood
    exact ⟨hfits, hlen, hcrc, (Option.some.inj h).symm⟩

/-- A list of at least two bytes ends in the word read at its last two. -/
theorem take_append_wordAt {l : List Byte} {n : Nat} (h : l.length = n + 2) :
    l.take n ++ bytes2 (wordAt l n) = l := by
  have hn : n < l.length := by omega
  have hn1 : n + 1 < l.length := by omega
  rw [wordAt, bytes2_wordOf, byteAt, byteAt, List.getD_eq_getElem _ _ hn, List.getD_eq_getElem _ _ hn1]
  conv_rhs => rw [← List.take_append_drop n l, List.drop_eq_getElem_cons hn, List.drop_eq_getElem_cons hn1,
    List.drop_eq_nil_of_le (by omega)]

/-- Header and payload of an accepted frame are those of the telegram it reads as. -/
theorem frameBody_of_accepted {l : List Byte} (hlen : l.length = (byteAt l 5).toNat + 8) :
    frameBody ⟨wordAt l 0, wordAt l 2, byteAt l 4, (l.drop 6).take (byteAt l 5).toNat⟩
      = l.take ((byteAt l 5).toNat + 6) := by
  match l, hlen with
  | b0 :: b1 :: b2 :: b3 :: b4 :: b5 :: rest, hlen =>
    have hb5 : byteAt (b0 :: b1 :: b2 :: b3 :: b4 :: b5 :: rest) 5 = b5 := rfl
    rw [hb5] at hlen ⊢
    have hrest : (rest.take b5.toNat).length = b5.toNat := by
      simp only [List.length_cons] at hlen
      rw [List.length_take]
      omega
    show bytes2 (wordOf b0 b1) ++ bytes2 (wordOf b2 b3)
      ++ [b4, BitVec.ofNat 8 (rest.take b5.toNat).length] ++ rest.take b5.toNat = _
    rw [bytes2_wordOf, bytes2_wordOf, hrest, BitVec.ofNat_toNat, BitVec.setWidth_eq]
    rfl

theorem frameBytes_of_parseFrame {l : List Byte} {t : Telegram} (h : parseFrame l = some t) : frameBytes t = l := by
  obtain ⟨_, hlen, hcrc, rfl⟩ := parseFrame_eq_some h
  rw [frameBytes, frameBody_of_accepted hlen, hcrc]
  exact take_append_wordAt (by omega)

/-- Settles O5: each of the three conditions is one that `parseFrame` answers none for. -/
theorem badFrameHasNoEffect : Obligations.BadFrameHasNoEffect := by
  intro p frame s n hbad
  have hnone : parseFrame frame = none := if_pos hbad
  show Host.Outcome.next (receiveFrame p frame s) = _
  simp only [receiveFrame, hnone]

/-- Settles O6: a frame is its header and payload followed by their CRC, both ways. -/
theorem framesAndTelegrams : Obligations.FramesAndTelegrams := by
  refine ⟨fun t => parseFrame_frameBytes, fun l t h => ⟨?_, frameBytes_of_parseFrame h⟩⟩
  obtain ⟨hfits, _, _, rfl⟩ := parseFrame_eq_some h
  exact (List.length_take_le _ _).trans hfits

/-! ## The deciding window -/

theorem windowHits_iff {w : Window} {dst : Addr} :
    windowHits w dst = true ↔ w.enabled = true ∧ dst &&& w.mask = w.base &&& w.mask := by
  simp [windowHits]

theorem decidingWindow_eq (lt : List Word) (dst : Addr) :
    decidingWindow lt dst = ((List.range 8).find? fun i => windowHits (windowOf lt i) dst).map (windowOf lt) :=
  List.find?_map ..

/-- Settles O9: the search runs over the windows in index order, so it finds the lowest that hits. -/
theorem lowestHitDecides : Obligations.LowestHitDecides := by
  intro lt dst hits
  have hhits : ∀ i, windowHits (windowOf lt i) dst = true ↔ hits i := fun i => windowHits_iff
  rw [decidingWindow_eq]
  constructor
  · intro w
    simp only [Option.map_eq_some_iff, List.find?_range_eq_some, List.mem_range, Bool.not_eq_true']
    constructor
    · rintro ⟨i, ⟨hi, hlt, hlow⟩, rfl⟩
      exact ⟨i, hlt, rfl, (hhits i).mp hi, fun j hj hh => by
        have hmiss := hlow j hj
        rw [(hhits j).mpr hh] at hmiss
        cases hmiss⟩
    · rintro ⟨i, hlt, rfl, hi, hlow⟩
      exact ⟨i, ⟨(hhits i).mpr hi, hlt, fun j hj => by
        rw [← Bool.not_eq_true, hhits]; exact hlow j hj⟩, rfl⟩
  · simp only [Option.map_eq_none_iff, List.find?_eq_none, List.mem_range, hhits]

end Sys2Proof.Machine
end

section
/-! PROOFS. What a barrier report does to a record (R121, R123), the island entry of a record (R66 to R69), and the
transmitter (R156, R163), with the statements O33, O18 and O52. -/

namespace Sys2Proof.Machine

/-! ## Reports on a barrier record -/

theorem endPosition_eq (c : BarrierCommand) :
    endPosition c = if c = .lower then BarrierPosition.down else .up := by cases c <;> rfl

theorem provedState_eq (c : BarrierCommand) :
    provedState c = if c = .lower then BarrierState.provedDown else .provedUp := by cases c <;> rfl

theorem provedState_ne_notProved (c : BarrierCommand) : BarrierState.notProved ≠ provedState c := by
  cases c <;> decide

section
variable {pos : BarrierPosition} {echo : Option BarrierCommand} {r : BarrierRecord}

theorem reportOnRecord_of_other_echo (hp : pos ≠ .fault) (he : echo ≠ some r.commanded) :
    reportOnRecord pos echo r = r := by
  rw [reportOnRecord, if_neg hp, if_neg he]

/-- A report of the command that stands, of a barrier whose end position would prove it (R121). -/
theorem reportOnRecord_of_unproved (hp : pos ≠ .fault) (he : echo = some r.commanded)
    (hr : r.proving = true ∨ r.proving = false ∧ r.state = .notProved) :
    reportOnRecord pos echo r = if pos = endPosition r.commanded then recordProved r else r := by
  rw [reportOnRecord, if_neg hp, if_pos he]
  have hproves : r.proving = true ∨ r.state = .notProved := hr.imp id And.right
  have hkeeps : ¬ (¬ r.proving = true ∧ r.state = provedState r.commanded) := by
    rintro ⟨hidle, hstate⟩
    rcases hr with hproving | ⟨-, hlost⟩
    · exact hidle hproving
    · exact provedState_ne_notProved _ (hlost.symm.trans hstate)
  rw [if_pos hproves, if_neg hkeeps]

/-- A report of the command that stands, of a proved barrier (R123). -/
theorem reportOnRecord_of_proved (hp : pos ≠ .fault) (he : echo = some r.commanded) (hidle : r.proving = false)
    (hr : r.state = provedState r.commanded) :
    reportOnRecord pos echo r = if pos = endPosition r.commanded then r else recordLost .lost r := by
  rw [reportOnRecord, if_neg hp, if_pos he]
  have hnot : ¬ (r.proving = true ∨ r.state = .notProved) := by
    rw [hidle, hr]
    rintro (h | h)
    · cases h
    · exact provedState_ne_notProved _ h.symm
  have hkeeps : ¬ r.proving = true ∧ r.state = provedState r.commanded := ⟨by simp [hidle], hr⟩
  rw [if_neg hnot, if_pos hkeeps]

end

/-- Settles O33: the cases of the statement are those of `reportOnRecord`, with the end position and the proved state
of a command written out. -/
theorem reportOnBarrier : Obligations.ReportOnBarrier := by
  intro pos echo r lost proved atEnd
  have hproved : recordProved r = proved := by simp only [recordProved, provedState_eq, proved]
  have hend : (pos = endPosition r.commanded) = atEnd := by rw [endPosition_eq]
  refine ⟨fun hp => if_pos hp, fun hp he => reportOnRecord_of_other_echo hp he, fun hp he hr => ?_,
    fun hp he hidle hr => ?_, fun hp he hidle hr => ?_⟩
  · rw [reportOnRecord_of_unproved hp he (.inl hr), hproved]
    simp only [hend]
  · rw [reportOnRecord_of_unproved hp he (.inr ⟨hidle, hr⟩), hproved]
    simp only [hend]
  · rw [reportOnRecord_of_proved hp he hidle (hr.trans (provedState_eq _).symm)]
    simp only [hend]
    rfl

/-! ## The judgements of a warning -/

section
variable {w : WheelPassage} {creation : Bool} {r : TrainRecord} {s : State}

theorem judgePredicted_record (p : Time) (tWorst : Nat) : (judgePredicted p tWorst r s).1
    = { r with short := r.short
          || decide (availableWarning p tWorst s.reference < (s.approachEntry r).twMin) } := by
  obtain h | h := lt_or_ge (availableWarning p tWorst s.reference) ((s.approachEntry r).twMin : Int)
  · rw [judgePredicted_of_lt h]
    simp [h]
  · rw [judgePredicted_of_le h]
    simp [not_lt.mpr h]

theorem judgePredicted_onlyClasses {l : List FaultClass} (p : Time) (tWorst : Nat) (hl : .shortWarning ∈ l) :
    OnlyClasses l s (judgePredicted p tWorst r s).2 := by
  obtain h | h := lt_or_ge (availableWarning p tWorst s.reference) ((s.approachEntry r).twMin : Int)
  · rw [judgePredicted_of_lt h]
    exact raiseFault_onlyClasses _ _ hl (.refl _ s)
  · rw [judgePredicted_of_le h]
    exact .refl _ s

theorem judgeAchieved_of_lt {a : Nat} (h : a < (s.approachEntry r).twMin) : judgeAchieved a r s
    = ({ r with short := true }, raiseFault .shortWarning r.approach (32768 + a / 100) s) :=
  if_pos h

theorem judgeAchieved_of_long {a : Nat} (h : (s.approachEntry r).twMin ≤ a)
    (hlong : (s.approachEntry r).twTarget + (s.approachEntry r).twTol < a) : judgeAchieved a r s
    = (r, raiseFault .longWarning r.approach (min (a / 100) 65535) s) := by
  show (if _ then _ else if _ then _ else _) = _
  rw [if_neg (not_lt.mpr h), if_pos hlong]

theorem judgeAchieved_of_le {a : Nat} (h : (s.approachEntry r).twMin ≤ a)
    (hlong : ¬ (s.approachEntry r).twTarget + (s.approachEntry r).twTol < a) : judgeAchieved a r s = (r, s) := by
  show (if _ then _ else if _ then _ else _) = _
  rw [if_neg (not_lt.mpr h), if_neg hlong]

theorem judgeAchieved_record (a : Nat) : (judgeAchieved a r s).1
    = { r with short := r.short || decide (a < (s.approachEntry r).twMin) } := by
  obtain h | h := lt_or_ge a (s.approachEntry r).twMin
  · rw [judgeAchieved_of_lt h]
    simp [h]
  · by_cases hlong : (s.approachEntry r).twTarget + (s.approachEntry r).twTol < a
    · rw [judgeAchieved_of_long h hlong]
      simp [not_lt.mpr h]
    · rw [judgeAchieved_of_le h hlong]
      simp [not_lt.mpr h]

theorem judgeAchieved_onlyClasses {l : List FaultClass} (a : Nat) (hl : [.shortWarning, .longWarning] ⊆ l) :
    OnlyClasses l s (judgeAchieved a r s).2 := by
  obtain h | h := lt_or_ge a (s.approachEntry r).twMin
  · rw [judgeAchieved_of_lt h]
    exact raiseFault_onlyClasses _ _ (hl (by decide)) (.refl _ s)
  · by_cases hlong : (s.approachEntry r).twTarget + (s.approachEntry r).twTol < a
    · rw [judgeAchieved_of_long h hlong]
      exact raiseFault_onlyClasses _ _ (hl (by decide)) (.refl _ s)
    · rw [judgeAchieved_of_le h hlong]
      exact .refl _ s

/-- A class latched before the achieved judgement is latched after it. -/
theorem judgeAchieved_isLatched_mono {c : FaultClass} (a : Nat) (hc : s.fault.isLatched c = true) :
    (judgeAchieved a r s).2.fault.isLatched c = true := by
  obtain h | h := lt_or_ge a (s.approachEntry r).twMin
  · rw [judgeAchieved_of_lt h]
    simp [hc]
  · by_cases hlong : (s.approachEntry r).twTarget + (s.approachEntry r).twTol < a
    · rw [judgeAchieved_of_long h hlong]
      simp [hc]
    · rw [judgeAchieved_of_le h hlong]
      exact hc

/-! ## The island entry -/

/-- The first stages of an ISLAND call: speed and overspeed, and for a record that was APPROACHING the warning and its
predicted judgement (R67). -/
def islandWarned (w : WheelPassage) (creation : Bool) (r : TrainRecord) (s : State) : TrainRecord × State :=
  let x := speedStages w creation r s
  if x.1.state = .approaching then judgePredicted w.passage (s.callWorst w r) (warnRecord s.now x.1) x.2 else x

theorem islandCall_eq (w : WheelPassage) (creation : Bool) (r : TrainRecord) (s : State) :
    islandCall w creation r s = judgeAchieved (s.achievedWarning w.passage)
      { (islandWarned w creation r s).1 with
        state := .inIsland, islandEntry := some w.passage, achieved := some (s.achievedWarning w.passage) }
      (islandWarned w creation r s).2 := rfl

/-- An APPROACHING record is warned now and loses its scheduled start; its predicted warning is judged (R67). -/
theorem islandWarned_of_approaching (h : r.state = .approaching) : ∃ entry last fast,
    islandWarned w creation r s = judgePredicted w.passage (s.callWorst w r)
      { r with entrySpeed := entry, lastSpeed := last, overspeed := fast
               state := .warned, scheduledStart := none, warnedAt := some s.now }
      (speedStages w creation r s).2 := by
  obtain ⟨entry, last, fast, hx⟩ := speedStages_record (w := w) (creation := creation) (r := r) (s := s)
  refine ⟨entry, last, fast, ?_⟩
  unfold islandWarned
  dsimp only
  rw [hx, if_pos (show r.state = .approaching from h)]
  rfl

theorem islandWarned_of_not_approaching (h : r.state ≠ .approaching) :
    islandWarned w creation r s = speedStages w creation r s := by
  obtain ⟨entry, last, fast, hx⟩ := speedStages_record (w := w) (creation := creation) (r := r) (s := s)
  refine if_neg ?_
  rw [hx]
  exact h

/-- What the first stages leave of the record: only the short flag may be set anew. -/
theorem islandWarned_record : ∃ entry last fast short, (r.short = true → short = true)
    ∧ (islandWarned w creation r s).1 = { r with
        entrySpeed := entry, lastSpeed := last, overspeed := fast, short := short
        state := if r.state = .approaching then .warned else r.state
        scheduledStart := if r.state = .approaching then none else r.scheduledStart
        warnedAt := if r.state = .approaching then some s.now else r.warnedAt } := by
  by_cases h : r.state = .approaching
  · obtain ⟨entry, last, fast, hx⟩ := islandWarned_of_approaching (w := w) (creation := creation) (s := s) h
    rw [hx, judgePredicted_record]
    generalize decide (availableWarning _ _ _ < _) = low
    exact ⟨entry, last, fast, r.short || low, fun hs => by simp [hs], by simp [h]⟩
  · obtain ⟨entry, last, fast, hx⟩ := speedStages_record (w := w) (creation := creation) (r := r) (s := s)
    rw [islandWarned_of_not_approaching h, hx]
    exact ⟨entry, last, fast, r.short, id, by simp [h]⟩

theorem islandWarned_onlyClasses : OnlyClasses [.shortWarning, .longWarning, .overspeed] s
    (islandWarned w creation r s).2 := by
  have hspeed : OnlyClasses [.shortWarning, .longWarning, .overspeed] s (speedStages w creation r s).2 :=
    speedStages_onlyClasses.mono (by decide)
  by_cases h : r.state = .approaching
  · obtain ⟨_, _, _, hx⟩ := islandWarned_of_approaching (w := w) (creation := creation) (s := s) h
    rw [hx]
    exact hspeed.trans (judgePredicted_onlyClasses _ _ (by decide))
  · rw [islandWarned_of_not_approaching h]
    exact hspeed

/-- The first stages leave the tables alone. -/
theorem islandWarned_config : (islandWarned w creation r s).2.config = s.config := by
  have hspeed : (speedStages w creation r s).2.config = s.config := speedStages_touches_fault .config (by decide)
  by_cases h : r.state = .approaching
  · obtain ⟨_, _, _, hx⟩ := islandWarned_of_approaching (w := w) (creation := creation) (s := s) h
    rw [hx]
    exact (judgePredicted_touches (L := [.fault]) _ _ _ (by decide) (Touches.refl _ _) .config (by decide)).trans hspeed
  · rw [islandWarned_of_not_approaching h]
    exact hspeed

/-- An APPROACHING record whose available warning is below TW_min is short, with SHORT_WARNING latched (R65, R67). -/
theorem islandWarned_of_short (h : r.state = .approaching)
    (hshort : s.callAvailable w r < (s.approachEntry r).twMin) :
    (islandWarned w creation r s).1.short = true
      ∧ (islandWarned w creation r s).2.fault.isLatched .shortWarning = true := by
  obtain ⟨entry, last, fast, hx⟩ := islandWarned_of_approaching (w := w) (creation := creation) (s := s) h
  rw [hx, judgePredicted_of_lt]
  · exact ⟨rfl, by simp⟩
  · rw [speedStages_reference, speedStages_approachEntry]
    · exact hshort
    · rfl

end

theorem achievedWarning_eq (s : State) (entry : Time) : s.achievedWarning entry
    = match s.seq.onset with
      | some o => if inClosure s.seq.state && timeBefore o entry then (entry - o).toNat else 0
      | none => 0 := by
  unfold State.achievedWarning
  cases s.seq.onset <;> cases inClosure s.seq.state <;> simp

/-- Settles O18: an ISLAND call is its first stages, then the achieved judgement on the record made IN_ISLAND. -/
theorem islandEntry : Obligations.IslandEntry := by
  intro w creation r s x achieved ap
  have hach : s.achievedWarning w.passage = achieved := achievedWarning_eq s w.passage
  obtain ⟨entry, last, fast, short, hkept, hrec⟩ :=
    islandWarned_record (w := w) (creation := creation) (r := r) (s := s)
  have hentry : ∀ y : TrainRecord, y.approach = r.approach →
      (islandWarned w creation r s).2.approachEntry y = ap := fun y hy => by
    simp only [State.approachEntry, State.appTab, islandWarned_config, hy, ap]
  have hx : x = judgeAchieved achieved
      { (islandWarned w creation r s).1 with
        state := .inIsland, islandEntry := some w.passage, achieved := some achieved }
      (islandWarned w creation r s).2 := hach ▸ islandCall_eq w creation r s
  have hx1 : x.1 = { r with
      entrySpeed := entry, lastSpeed := last, overspeed := fast
      scheduledStart := if r.state = .approaching then none else r.scheduledStart
      warnedAt := if r.state = .approaching then some s.now else r.warnedAt
      state := .inIsland, islandEntry := some w.passage, achieved := some achieved
      short := short || decide (achieved < ap.twMin) } := by
    rw [hx, judgeAchieved_record, hentry _ (by rw [hrec]), hrec]
  refine ⟨by rw [hx1], by rw [hx1], by rw [hx1], fun h => by simp [hx1, h], fun h hlow => ?_, fun h => by simp [hx1, h],
    fun hlow => ⟨by simp [hx1, hlow], ?_⟩, fun hmin hlong => ?_, fun h => by simp [hx1, hkept h], by rw [hx1],
    by rw [hx1], ?_, islandCall_touches w creation r (by decide) (Touches.refl _ s)⟩
  · obtain ⟨hshort, hlatched⟩ := islandWarned_of_short (creation := creation) h hlow
    rw [hrec] at hshort
    have hshort : short = true := hshort
    exact ⟨by simp [hx1, hshort], hx ▸ judgeAchieved_isLatched_mono _ hlatched⟩
  · rw [hx, judgeAchieved_of_lt (by rwa [hentry _ (by rw [hrec])])]
    simp
  · rw [hx, judgeAchieved_of_long (by rwa [hentry _ (by rw [hrec])]) (by rwa [hentry _ (by rw [hrec])])]
    simp
  · rw [hx]
    exact islandWarned_onlyClasses.trans (judgeAchieved_onlyClasses _ (by decide))

/-! ## The transmitter -/

theorem atExpiry_of_due {e : Option Time} {s : State} (h : e = some s.now) (f : State → State) :
    atExpiry e f s = f s := by
  have hdue : s.due e = true := decide_eq_true h
  rw [atExpiry, if_pos hdue]

/-- Settles O52: an idle expiry and a completed transmission put one port in place; which head goes under way is the
law of `serveTransmitter`. -/
theorem transmitter : Obligations.Transmitter := by
  intro p s
  refine ⟨fun hidle => ⟨idleReached p s, ?_, rfl⟩, fun hbusy => ?_⟩
  · exact congrArg _ (atExpiry_of_due hidle _)
  · intro after
    have hqueue : ∀ c, after.queue c = (s.port p).queue c := fun c => by cases c <;> rfl
    refine ⟨transmissionDone p s, congrArg _ (if_pos hbusy), fun hempty => ?_, fun c e rest hq hfirst => ?_⟩
    · exact congrArg (s.setPort p ·) (serveTransmitter_idle rfl fun d => (hqueue d).trans (hempty d))
    · refine congrArg (s.setPort p ·) (serveTransmitter_free rfl ((hqueue c).trans hq) fun d x l hd => ?_)
      exact hfirst d x l ((hqueue d).symm.trans hd)

end Sys2Proof.Machine
end

section
/-! PROOFS. Reception (sections 8.1 to 8.4): the command that carries a telegram is its reception, a DOWN port goes UP
first, the deciding window consumes or passes it, and a telegram that is not accepted gives one NOTICE; with the
statements O7, O8, O10, O11, O12 and O51. -/

namespace Sys2Proof.Machine

/-! ## Reading a frame -/

section
variable {L : List Block} {s t : State}

theorem Touches.now_eq (h : Touches L s t) (hL : .timebase ∉ L := by decide) : t.now = s.now := h .timebase hL
theorem Touches.window_eq (h : Touches L s t) (hL : .window ∉ L := by decide) : t.window = s.window := h .window hL
theorem Touches.axle_eq (h : Touches L s t) (hL : .axle ∉ L := by decide) : t.axle = s.axle := h .axle hL
theorem Touches.tracker_eq (h : Touches L s t) (hL : .tracker ∉ L := by decide) : t.tracker = s.tracker :=
  h .tracker hL
theorem Touches.seq_eq (h : Touches L s t) (hL : .seq ∉ L := by decide) : t.seq = s.seq := h .seq hL
theorem Touches.lamp_eq (h : Touches L s t) (hL : .lamp ∉ L := by decide) : t.lamp = s.lamp := h .lamp hL
theorem Touches.barrier_eq (h : Touches L s t) (hL : .barrier ∉ L := by decide) : t.barrier = s.barrier :=
  h .barrier hL
theorem Touches.cmd_eq (h : Touches L s t) (hL : .cmd ∉ L := by decide) : t.cmd = s.cmd := h .cmd hL
theorem Touches.fault_eq (h : Touches L s t) (hL : .fault ∉ L := by decide) : t.fault = s.fault := h .fault hL
theorem Touches.config_eq (h : Touches L s t) (hL : .config ∉ L := by decide) : t.config = s.config := h .config hL

theorem Touches.port_eq (h : Touches L s t) (hA : .portA ∉ L := by decide) (hB : .portB ∉ L := by decide) (p : Port) :
    t.port p = s.port p := by
  cases p
  · exact h .portA hA
  · exact h .portB hB

theorem Touches.loopTab_eq (h : Touches L s t) (hL : .window ∉ L := by decide) : t.loopTab = s.loopTab := by
  rw [State.loopTab, h.window_eq hL]; rfl
theorem Touches.ownAddress_eq (h : Touches L s t) (hL : .window ∉ L := by decide) : t.ownAddress = s.ownAddress := by
  rw [State.ownAddress, h.loopTab_eq hL]; rfl
theorem Touches.signallerPort_eq (h : Touches L s t) (hL : .window ∉ L := by decide) :
    t.signallerPort = s.signallerPort := by
  rw [State.signallerPort, h.loopTab_eq hL]; rfl
theorem Touches.detTab_eq (h : Touches L s t) (hL : .config ∉ L := by decide) : t.detTab = s.detTab := by
  rw [State.detTab, h.config_eq hL]; rfl
theorem Touches.appTab_eq (h : Touches L s t) (hL : .config ∉ L := by decide) : t.appTab = s.appTab := by
  rw [State.appTab, h.config_eq hL]; rfl
theorem Touches.eqTab_eq (h : Touches L s t) (hL : .config ∉ L := by decide) : t.eqTab = s.eqTab := by
  rw [State.eqTab, h.config_eq hL]; rfl
theorem Touches.crTab_eq (h : Touches L s t) (hL : .config ∉ L := by decide) : t.crTab = s.crTab := by
  rw [State.crTab, h.config_eq hL]; rfl
theorem Touches.safetyActive_eq (h : Touches L s t) (hL : .config ∉ L := by decide) :
    t.safetyActive = s.safetyActive := by
  rw [State.safetyActive, h.config_eq hL]; rfl

end

/-! ## Commands that carry a telegram -/

/-- A command that carries a telegram is the reception of that telegram (R154). -/
theorem exec_of_carried {c : Instr} {p : Port} {tel : Telegram} {s : State}
    (h : carried s.ownAddress c = some (p, tel)) : exec c s = .next (receiveGood p tel s) := by
  cases c with
  | discardedTelegram q frame =>
    show Host.Outcome.next (receiveFrame q frame s) = _
    simp only [carried, Option.map_eq_some_iff] at h
    obtain ⟨t, ht, hpt⟩ := h
    cases hpt
    simp only [receiveFrame, ht]
  | hardwareReset | detectorSilenceExpiry | entryGapExpiry | scheduledStartExpiry | amberExpiry | redExpiry
  | exitDelayExpiry | longClosureExpiry | lampModuleSilenceExpiry | provingExpiry | barrierModuleSilenceExpiry
  | presenceModuleSilenceExpiry | exitWaitExpiry | statusPeriodExpiry | activationTakesEffect | portSilenceExpiry
  | idleExpiry | transmissionComplete | refreshExpiry => cases h
  | _ => cases h; rfl

theorem receiveGood_of_fits {p : Port} {tel : Telegram} {s : State} (h : tel.payload.length ≤ 48) :
    receiveGood p tel s = handleGood p tel (portHeard p s) :=
  if_neg (Nat.not_lt.mpr h)

theorem handleGood_fill {p : Port} {tel : Telegram} {s : State} (h : tel.kind = kindFill) :
    handleGood p tel s = s := if_pos h

theorem handleGood_own {p : Port} {tel : Telegram} {s : State} (h : tel.src = s.ownAddress) :
    handleGood p tel s = s := by
  rw [handleGood, if_pos h, ite_self]

/-! ## The link -/

/-- On an UP port hearing sets the silence expiry alone. -/
theorem hearLink_of_up {p : Port} {s : State} (h : (s.port p).link = .up) :
    hearLink p s = s.setPort p { s.port p with
      silence := some (timePlus s.now (tSilenceOf s.loopTab).toNat), silenceWith := tSilenceOf s.loopTab } := by
  simp only [hearLink, ← h]

theorem finish_fault (before : State) (due : Bool) (s : State) : (finish before due s).fault = s.fault :=
  finish_touches (L := [.portA, .portB, .queue .status]) before due (by decide) (Touches.refl _ s) .fault (by decide)

theorem finish_onlyClasses {l : List FaultClass} {s t : State} (before : State) (due : Bool)
    (h : OnlyClasses l s t) : OnlyClasses l s (finish before due t) :=
  h.trans (.of_fault_eq (finish_fault before due t))

theorem finish_of_due (before s : State) : finish before true s = statusDue s := if_pos (.inl rfl)

/-- A port that hears while DOWN, before a status telegram is considered: UP, with PORT_DOWN ended where both are (R155). -/
def linkRestored (p : Port) (s : State) : State :=
  endFaultUnless .portDown (!(hearLink p s).bothUp) (hearLink p s)

theorem portHeard_of_down {p : Port} {s : State} (h : (s.port p).link = .down) :
    portHeard p s = finish s (p = s.signallerPort) (linkRestored p s) := by
  have hsig : (hearLink p s).signallerPort = s.signallerPort := by
    rw [State.signallerPort, hearLink_loopTab]
    rfl
  rw [portHeard_down h, portGoesUp, hsig, linkRestored]

section
variable {p : Port} {s : State}

theorem linkRestored_touches : Touches [.fault] (hearLink p s) (linkRestored p s) :=
  endFaultUnless_touches _ _ (by decide) (Touches.refl _ _)

theorem linkRestored_port : (linkRestored p s).port p = (hearLink p s).port p :=
  linkRestored_touches.port_eq (p := p)

theorem hearLink_bothUp : (hearLink p s).bothUp = decide ((s.port p.other).link = .up) := by
  cases p <;> simp [State.bothUp, hearLink, State.setPort, State.port, Port.other] <;> rfl

theorem linkRestored_isActive (c : FaultClass) : (linkRestored p s).fault.isActive c
    = (s.fault.isActive c && !(c = .portDown && (s.port p.other).link = .up)) := by
  rw [linkRestored, endFaultUnless_isActive, hearLink_bothUp, hearLink_fault]
  by_cases hc : c = .portDown <;> simp [hc, eq_comm]

theorem portHeard_up_link (h : (s.port p).link = .down) : SameLink ((hearLink p s).port p) ((portHeard p s).port p) := by
  rw [portHeard_of_down h, ← linkRestored_port]
  exact (finish_touches (L := [.portA, .portB, .queue .status]) _ _ (by decide)
    (Touches.refl _ (linkRestored p s))).link (by decide) p

theorem portHeard_down_fault (h : (s.port p).link = .down) : (portHeard p s).fault = (linkRestored p s).fault := by
  rw [portHeard_of_down h, finish_fault]

theorem portHeard_down_touches (h : (s.port p).link = .down) :
    Touches [.portA, .portB, .fault, .links, .queue .status] s (portHeard p s) := by
  rw [portHeard_of_down h]
  exact finish_touches _ _ (by decide) (((hearLink_touches p (by decide) (Touches.refl _ s)).step (by decide)
    linkRestored_touches))

/-- The signaller port going UP makes a status telegram due (R145). -/
theorem portHeard_down_statusSent (h : (s.port p).link = .down) (hp : p = s.signallerPort)
    (ha : s.safetyActive = true) : StatusSent (portHeard p s) := by
  have htouch : Touches [.portA, .portB, .fault, .links] s (linkRestored p s) :=
    (hearLink_touches p (by decide) (Touches.refl _ s)).step (by decide) linkRestored_touches
  rw [portHeard_of_down h, decide_eq_true hp, finish_of_due]
  refine statusDue_sent (htouch.safetyActive_eq.trans ha) ?_
  rw [htouch.signallerPort_eq, ← hp, linkRestored_port, hearLink_port]

end

/-- Settles O7: both telegrams are dealt with by the link alone, which `hearLink` and `linkRestored` say. -/
theorem fillTelegrams : Obligations.FillTelegrams := by
  constructor
  · intro p s hup u
    have hu : portHeard p s = u := (portHeard_up hup).trans (hearLink_of_up hup)
    refine ⟨?_, fun dst kind payload hfits => ?_⟩
    · rintro a payload rfl hfits
      rw [exec_of_carried (c := .fill a payload) rfl, receiveGood_of_fits hfits, handleGood_fill rfl, hu]
    · rw [exec_of_carried (c := .ownTelegramReturned p dst kind payload) rfl, receiveGood_of_fits hfits,
        handleGood_own (by rw [hu]; simp [u, State.ownAddress, State.loopTab]), hu]
  · intro a payload kind s hdown hfits
    have hlink := portHeard_up_link hdown
    have hown : (portHeard a.port s).ownAddress = s.ownAddress :=
      (portHeard_down_touches hdown).ownAddress_eq
    rw [hearLink_port] at hlink
    obtain ⟨hup, hsilence, hwith, hidle⟩ := hlink
    have hfault := portHeard_down_fault hdown
    refine ⟨portHeard a.port s, ?_, ?_, hup, hsilence, hwith, hidle, fun c => ?_, ?_, ?_, ?_,
      portHeard_down_statusSent hdown, portHeard_down_touches hdown⟩
    · rw [exec_of_carried (c := .fill a payload) rfl, receiveGood_of_fits hfits, handleGood_fill rfl]
    · rw [exec_of_carried (c := .ownTelegramReturned a.port a.dst kind payload) rfl, receiveGood_of_fits hfits,
        handleGood_own hown.symm]
    · rw [hfault, linkRestored_isActive]
    all_goals rw [hfault, linkRestored]; simp

/-- What has been heard now is not changed by being heard again. -/
theorem hearLink_of_heard {p : Port} {s : State} (hup : (s.port p).link = .up)
    (hsilence : (s.port p).silence = some (timePlus s.now (tSilenceOf s.loopTab).toNat))
    (hwith : (s.port p).silenceWith = tSilenceOf s.loopTab) : hearLink p s = s := by
  rw [hearLink_of_up hup, ← hsilence, ← hwith]
  exact State.setPort_self p s

/-- Settles O8: what a DOWN port does first with any telegram is what FILL does, and hearing twice in one moment is
hearing once. -/
theorem downPortReceivesInTwoEvents : Obligations.DownPortReceivesInTwoEvents := by
  intro c p tel s hc hfits hdown
  have hT := portHeard_down_touches hdown
  have hloop := hT.loopTab_eq
  have hnow := hT.now_eq
  have hlink := portHeard_up_link hdown
  rw [hearLink_port] at hlink
  obtain ⟨hup, hsilence, hwith, -⟩ := hlink
  refine ⟨portHeard p s, ?_, hup, ?_⟩
  · rw [exec_of_carried (c := .fill ⟨p, 0, 0⟩ []) rfl, receiveGood_of_fits (by simp), handleGood_fill rfl]
  · have hown := hT.ownAddress_eq
    rw [exec_of_carried hc, exec_of_carried (hown.symm ▸ hc), receiveGood_of_fits hfits, receiveGood_of_fits hfits,
      portHeard_up hup, hearLink_of_heard hup (by rw [hsilence, hnow, hloop]) (by rw [hwith, hloop])]

/-! ## Routing -/

section
variable {p : Port} {tel : Telegram} {s : State}

/-- A telegram that arrives on an UP port goes where its deciding window says (R157). -/
theorem receiveGood_arrived (h : Arrived p tel s) :
    receiveGood p tel s = route p tel (decidingWindow s.loopTab tel.dst) (hearLink p s) := by
  have hkind : ¬ tel.kind = kindFill := h.notFill
  rw [receiveGood_of_fits h.fits, portHeard_up h.up, handleGood, if_neg hkind,
    if_neg (by rw [hearLink_ownAddress]; exact h.notOwn), hearLink_loopTab]

theorem passCopy_of_room (hup : (s.port p.other).link = .up) (hroom : (s.port p.other).forward.length < 8) :
    passCopy p tel s = joinQueue p.other .forward tel none s := by
  refine if_neg ?_
  rintro (hdown | hfull)
  · rw [hup] at hdown; cases hdown
  · exact absurd hroom (Nat.not_lt.mpr hfull)

theorem passCopy_dropped (h : (s.port p.other).link = .down ∨ 8 ≤ (s.port p.other).forward.length) :
    passCopy p tel s = s := if_pos h

/-- A copy passed on stands in the FORWARD queue of the other port, and nothing else has changed (R158). -/
theorem passCopy_joined (hup : (s.port p.other).link = .up) (hroom : (s.port p.other).forward.length < 8) :
    JoinedQueue p.other .forward tel s (passCopy p tel s)
      ∧ Touches [.portA, .portB, .queue .forward] s (passCopy p tel s) := by
  refine ⟨?_, passCopy_touches p tel (by decide) (Touches.refl _ s)⟩
  rw [passCopy_of_room hup hroom]
  exact joinQueue_joined ..

/-- Hearing on a port changes nothing of what a copy out of the other port joins. -/
theorem JoinedQueue.of_heard {c : QueueClass} {t : State} (h : JoinedQueue p.other c tel (hearLink p s) t) :
    JoinedQueue p.other c tel s t := by
  simpa only [JoinedQueue, hearLink_port_other, hearLink_now] using h

theorem translated_eq (w : Window) (t : Telegram) : translated w t
    = { t with dst := if w.translate then w.translateBase ||| (t.dst &&& ~~~w.mask) else t.dst } := by
  unfold translated
  split <;> rfl

end

/-- The destination of the copy of a telegram that is passed (R158). -/
def passedDst (tel : Telegram) : Option Window → Addr
  | some w => if w.translate then w.translateBase ||| (tel.dst &&& ~~~w.mask) else tel.dst
  | none => tel.dst

/-- What the deciding window makes of a telegram that it does not consume (R157, R158). -/
theorem route_pass {p : Port} {tel : Telegram} {s : State} {o : Option Window}
    (h : ∀ w, o = some w → w.action = some .pass) :
    route p tel o s = passCopy p { tel with dst := passedDst tel o } s := by
  cases o with
  | none => rfl
  | some w => simp only [route, h w rfl, translated_eq, passedDst]

theorem route_consume {p : Port} {tel : Telegram} {s : State} {w : Window} (h : w.action = some .consume) :
    route p tel (some w) s = consume p tel w.role s := by
  simp only [route, h]

theorem route_copy {p : Port} {tel : Telegram} {s : State} {w : Window} (h : w.action = some .copy) :
    route p tel (some w) s = passCopy p (translated w tel) (consume p tel w.role s) := by
  simp only [route, h]

/-- A telegram that a CONSUME window decides is consumed in the window's role, and nothing else happens. -/
theorem exec_consumed {c : Instr} {p : Port} {tel : Telegram} {s : State} {w : Window}
    (hc : carried s.ownAddress c = some (p, tel)) (harr : Arrived p tel s)
    (hw : decidingWindow s.loopTab tel.dst = some w) (hact : w.action = some .consume) :
    exec c s = .next (consume p tel w.role (hearLink p s)) := by
  rw [exec_of_carried hc, receiveGood_arrived harr, hw, route_consume hact]

/-- Settles O10: the deciding window's action is read off `route`, and a copy sent is a telegram that joins a FORWARD
queue. -/
theorem passedCopy : Obligations.PassedCopy := by
  constructor
  · intro p tel s harr hpass dst
    have hdst : passedDst tel (decidingWindow s.loopTab tel.dst) = dst := by
      simp only [dst]
      cases decidingWindow s.loopTab tel.dst <;> rfl
    have hexec : exec (.passedCopy p tel) s = .next (passCopy p { tel with dst := dst } (hearLink p s)) := by
      rw [exec_of_carried (c := .passedCopy p tel) rfl, receiveGood_arrived harr, route_pass hpass, hdst]
    have hother : (hearLink p s).port p.other = s.port p.other := hearLink_port_other p s
    refine ⟨fun hup hroom => ?_, fun hdrop => ?_⟩
    · obtain ⟨hjoin, htouch⟩ := passCopy_joined (p := p) (tel := { tel with dst := dst }) (s := hearLink p s)
        (by rwa [hother]) (by rwa [hother])
      exact ⟨_, hexec, hjoin.of_heard, htouch⟩
    · rw [hexec, passCopy_dropped (by rwa [hother])]
  · intro c p tel s w hc harr hw u dst
    have hcopy : w.action = some .copy → exec c s = .next (passCopy p { tel with dst := dst } u) := fun hact => by
      rw [exec_of_carried hc, receiveGood_arrived harr, hw, route_copy hact, translated_eq]
    refine ⟨exec_consumed hc harr hw, fun hact hup hroom => ?_, fun hact hdrop => ?_⟩
    · obtain ⟨hjoin, htouch⟩ := passCopy_joined (tel := { tel with dst := dst }) hup hroom
      exact ⟨_, hcopy hact, hjoin, htouch⟩
    · rw [hcopy hact, passCopy_dropped hdrop]

/-! ## Discarded with a NOTICE -/

/-- An event whose one change is a NOTICE (R135, R138). -/
structure NoticeAlone (subject : Byte) (detail : Word) (s t : State) : Prop where
  captured : Captured .notice subject detail s t
  latched : t.fault.latched = s.fault.latched ||| FaultClass.notice.bit
  active : t.fault.active = s.fault.active

theorem finish_raiseNotice (before : State) (x : Nat) (detail : Word) (s : State) :
    NoticeAlone (BitVec.ofNat 8 x) detail s (finish before false (raiseNotice x detail.toNat s)) := by
  have hcap := raiseNotice_captured x detail.toNat s
  rw [BitVec.ofNat_toNat, BitVec.setWidth_eq] at hcap
  refine ⟨?_, ?_, ?_⟩
  · simpa only [Captured, finish_fault] using hcap
  · rw [finish_fault, raiseNotice_latched]
  · rw [finish_fault, raiseNotice_active]

theorem mismatch_notice (p : Port) (src : Addr) (s : State) :
    NoticeAlone (if p = .a then 36 else 37) src s (mismatch p src s)
      ∧ Touches [.portA, .portB, .fault, .queue .status] s (mismatch p src s) := by
  refine ⟨?_, mismatch_touches p src (by decide) (Touches.refl _ s)⟩
  have h := finish_raiseNotice s (36 + portNumber p) src s
  cases p <;> exact h

/-- A class captured, latched or active after a telegram heard is so after the reception. -/
theorem NoticeAlone.of_heard {p : Port} {subject : Byte} {detail : Word} {s t : State}
    (h : NoticeAlone subject detail (hearLink p s) t) : NoticeAlone subject detail s t := by
  obtain ⟨hcap, hlat, hact⟩ := h
  rw [hearLink_fault] at hlat hact
  refine ⟨?_, hlat, hact⟩
  simpa only [Captured, hearLink_fault, hearLink_now] using hcap

/-! ## Kinds a role does not accept -/

theorem fieldKindOf_eq_none {k : Byte} (h : k ∉ ([0x10, 0x11, 0x12, 0x13, 0x14] : List Byte)) :
    fieldKindOf k = none := by
  rw [fieldKindOf, List.find?_eq_none]
  intro x _ hx
  refine h ?_
  rw [← of_decide_eq_true hx]
  cases x <;> decide

/-- A request of a kind the role may not send is discarded like one of no kind (R159). -/
theorem consumeRequest_mismatch {r : Role} {p : Port} {tel : Telegram} {s : State}
    (h : ∀ k, tel.kind = RequestKind.code k → requestAllowed r k = false) :
    consumeRequest r p tel s = mismatch p tel.src s := by
  unfold consumeRequest
  split
  · rfl
  next k hk =>
    have hkind : tel.kind = k.code := by
      have hfound := List.find?_some hk
      exact (by simpa using hfound : k.code = tel.kind).symm
    rw [h k hkind, if_neg Bool.false_ne_true]

theorem signaller_refuses {kind : Byte} (h : kind ∉ ([0x40, 0x41, 0x42, 0x43, 0x44, 0x45] : List Byte))
    (k : RequestKind) (hk : kind = k.code) : requestAllowed .signaller k = false := by
  subst hk
  cases k <;> first | rfl | exact absurd (by decide) h

theorem config_refuses {kind : Byte} (h : kind ∉ ([0x43, 0x44, 0x45, 0x46, 0x47, 0x48, 0x49] : List Byte))
    (k : RequestKind) (hk : kind = k.code) : requestAllowed .config k = false := by
  subst hk
  cases k <;> first | rfl | exact absurd (by decide) h

theorem fieldKindOf_code (k : FieldKind) : fieldKindOf k.code = some k := by cases k <;> decide

/-- A field report from a source of the tables is handed to the block that takes its kind (R159). -/
theorem consumeField_known {k : FieldKind} {p : Port} {tel : Telegram} {s : State} (hk : tel.kind = k.code)
    (hs : s.knownSource tel.src = true) : consumeField p tel s = takeField k p tel.src tel.payload s := by
  simp only [consumeField, hk, fieldKindOf_code, hs, if_true]

theorem consumeField_stranger {k : FieldKind} {p : Port} {tel : Telegram} {s : State} (hk : tel.kind = k.code)
    (hs : s.knownSource tel.src = false) : consumeField p tel s = strangerHeard p tel.src s := by
  simp only [consumeField, hk, fieldKindOf_code, hs]
  rfl

/-! ## Field reports without effect -/

/-- The crossing proof is read of four blocks (R129). -/
theorem crossingProof_congr {s t : State} (hconfig : t.config.tables = s.config.tables) (hlamp : t.lamp = s.lamp)
    (hbarrier : t.barrier = s.barrier) (hseq : t.seq = s.seq) : t.crossingProof = s.crossingProof := by
  have hlampRec : t.lampRecord = s.lampRecord := by funext l; simp only [State.lampRecord, hlamp]
  have hproved : t.lampProved = s.lampProved := by funext l; simp only [State.lampProved, hlampRec]
  have hdown : t.barrierDown = s.barrierDown := by
    funext b
    simp only [State.barrierDown, State.barrierRecord_congr hbarrier]
  simp only [State.crossingProof, State.sideProved, State.provedRed, State.eqTab, State.crTab, hconfig, hseq,
    hdown, hproved]
  rfl

theorem ProofSound.heard {p : Port} {s : State} (h : ProofSound s) : ProofSound (hearLink p s) := by
  rw [ProofSound, crossingProof_congr (congrArg _ (hearLink_config p s)) (hearLink_lamp p s) (hearLink_barrier p s)
    (hearLink_seq p s), hearLink_barrier]
  exact h

theorem evaluateProof_of_sound {s : State} (h : ProofSound s) : evaluateProof s = s := by
  rw [evaluateProof, ← h]
  rfl

theorem finishProof_of_sound {s : State} (h : ProofSound s) : finishProof s false s = s := by
  rw [finishProof, evaluateProof_of_sound h, finish_same rfl]

theorem settle_of_quiet {s : State} (hn : NotAwaiting s) (h : ProofSound s) : settle s s = s := by
  rw [settle_notAwaiting hn, finishProof_of_sound h]

theorem NotAwaiting.heard {p : Port} {s : State} (h : NotAwaiting s) : NotAwaiting (hearLink p s) := by
  rw [NotAwaiting, hearLink_config]
  exact h

theorem toNat_eq_iff {b : Byte} {n : Nat} (hn : n < 256) : b.toNat = n ↔ b = BitVec.ofNat 8 n := by
  rw [← BitVec.toNat_inj, BitVec.toNat_ofNat, Nat.mod_eq_of_lt (show n < 2 ^ 8 from hn)]

theorem toNat_ne {b : Byte} {n : Nat} (hn : n < 256) (h : b ≠ BitVec.ofNat 8 n) : ¬ b.toNat = n :=
  fun heq => h ((toNat_eq_iff hn).mp heq)

section
variable {d : Nat} {payload : List Byte} {s : State}

theorem headOrderValid_iff {b : Byte} : headOrderValid b.toNat = true ↔ b = 1 ∨ b = 2 := by
  simp [headOrderValid, toNat_eq_iff]

/-- A WHEEL of wrong length or head order is discarded without effect (R14). -/
theorem wheelReport_unfit (h : payload.length ≠ 4 ∨ (byteAt payload 0 ≠ 1 ∧ byteAt payload 0 ≠ 2)) :
    wheelReport d payload s = s ∧ wheelReplaces d payload s = false := by
  have hnot : ¬ (payload.length = 4 ∧ headOrderValid (byteAt payload 0).toNat = true) := by
    rw [headOrderValid_iff]
    rintro ⟨hlen, horder⟩
    rcases h with h | ⟨h1, h2⟩
    · exact h hlen
    · exact horder.elim h1 h2
  unfold wheelReport wheelReplaces
  cases s.detectorRecord d with
  | none => exact ⟨rfl, rfl⟩
  | some r => exact ⟨if_neg hnot, if_neg hnot⟩

theorem healthOfCode_eq_none {b : Byte} (h1 : b ≠ 1) (h2 : b ≠ 2) : healthOfCode b.toNat = none := by
  rw [healthOfCode, if_neg (toNat_ne (by decide) h1), if_neg (toNat_ne (by decide) h2)]

/-- A HEARTBEAT of wrong length or head health is discarded without effect (R14). -/
theorem heartbeatReport_unfit (h : payload.length ≠ 2 ∨ (byteAt payload 1 ≠ 1 ∧ byteAt payload 1 ≠ 2)) :
    heartbeatReport d payload s = s := by
  unfold heartbeatReport
  cases s.detectorRecord d with
  | none => rfl
  | some r =>
    rcases h with hlen | ⟨h1, h2⟩
    · cases healthOfCode (byteAt payload 1).toNat with
      | none => rfl
      | some good => exact if_neg hlen
    · rw [healthOfCode_eq_none h1 h2]

theorem channelReport_eq_none {n : Nat} (h : 2 < (byteAt payload (3 * n)).toNat
      ∨ (byteAt payload (3 * n + 1) ≠ 1 ∧ byteAt payload (3 * n + 1) ≠ 2)) : channelReport payload n = none := by
  unfold channelReport
  rcases h with hmode | ⟨h1, h2⟩
  · have hnone : lampModeOfCode (byteAt payload (3 * n)).toNat = none := by
      unfold lampModeOfCode
      rw [if_neg (by omega), if_neg (by omega), if_neg (by omega)]
    rw [hnone]
  · have hnone : litOfCode (byteAt payload (3 * n + 1)).toNat = none := by
      rw [litOfCode, if_neg (toNat_ne (by decide) h1), if_neg (toNat_ne (by decide) h2)]
    rw [hnone]
    cases lampModeOfCode (byteAt payload (3 * n)).toNat <;> rfl

/-- A LAMP_REPORT is read only where every one of its four channels is. -/
theorem lampReportOf_eq_none (h : payload.length ≠ 12 ∨ ∃ n < 4, channelReport payload n = none) :
    lampReportOf payload = none := by
  unfold lampReportOf
  split
  next hlen =>
    obtain ⟨n, hn, hnone⟩ := h.resolve_left (not_not.mpr hlen)
    split
    next h0 h1 h2 h3 =>
      have hcase : n = 0 ∨ n = 1 ∨ n = 2 ∨ n = 3 := by omega
      rcases hcase with rfl | rfl | rfl | rfl <;> simp_all
    next => rfl
  next => rfl

theorem barrierReportOf_eq_none (h : payload.length ≠ 2 ∨ byteAt payload 0 = 0
      ∨ 4 < (byteAt payload 0).toNat ∨ 2 < (byteAt payload 1).toNat) : barrierReportOf payload = none := by
  unfold barrierReportOf
  split
  next hlen =>
    have hcode : positionOfCode (byteAt payload 0).toNat = none ∨ echoOfCode (byteAt payload 1).toNat = none := by
      rcases h.resolve_left (not_not.mpr hlen) with h0 | h4 | h2
      · exact .inl (by rw [h0]; rfl)
      · refine .inl ?_
        rw [positionOfCode, if_neg (by omega), if_neg (by omega), if_neg (by omega), if_neg (by omega)]
      · refine .inr ?_
        rw [echoOfCode, if_neg (by omega), if_neg (by omega), if_neg (by omega)]
    rcases hcode with hcode | hcode
    · rw [hcode]
    · rw [hcode]
      cases positionOfCode (byteAt payload 0).toNat <;> rfl
  next => rfl

theorem presenceReportOf_eq_none (h : payload.length ≠ 1 ∨ (byteAt payload 0 ≠ 1 ∧ byteAt payload 0 ≠ 2)) :
    presenceReportOf payload = none := by
  unfold presenceReportOf
  split
  next hlen =>
    obtain ⟨h1, h2⟩ := h.resolve_left (not_not.mpr hlen)
    rw [presenceOfCode, if_neg (toNat_ne (by decide) h1), if_neg (toNat_ne (by decide) h2)]
  next => rfl

end

/-! ## The statements on telegrams not accepted -/

section
variable {p : Port} {tel : Telegram} {s : State}

/-- A field report whose source is in a table, but no detector or module of the type its kind is matched against, is a
role mismatch (R14, R102, R120, R125). -/
theorem consumeField_wrongType (hs : s.knownSource tel.src = true)
    (h : (tel.kind ∈ ([0x10, 0x11] : List Byte) ∧ (detectorAt s.detTab tel.src).isSome = false)
      ∨ (tel.kind = 0x12 ∧ (moduleOfTypeAt s.eqTab .lamp tel.src).isSome = false)
      ∨ (tel.kind = 0x13 ∧ (moduleOfTypeAt s.eqTab .barrier tel.src).isSome = false)
      ∨ (tel.kind = 0x14 ∧ (moduleOfTypeAt s.eqTab .presence tel.src).isSome = false)) :
    consumeField p tel s = mismatch p tel.src s := by
  simp only [Option.isSome_eq_false_iff, Option.isNone_iff_eq_none, List.mem_cons, List.not_mem_nil, or_false] at h
  rcases h with ⟨hk | hk, h⟩ | ⟨hk, h⟩ | ⟨hk, h⟩ | ⟨hk, h⟩
  · rw [consumeField_known (k := .wheel) hk hs]
    simp only [takeField, takeWheelTelegram, h]
  · rw [consumeField_known (k := .heartbeat) hk hs]
    simp only [takeField, takeHeartbeatTelegram, h]
  · rw [consumeField_known (k := .lampReport) hk hs]
    simp only [takeField, takeLampTelegram, h]
  · rw [consumeField_known (k := .barrierReport) hk hs]
    simp only [takeField, takeBarrierTelegram, h]
  · rw [consumeField_known (k := .presenceReport) hk hs]
    simp only [takeField, takePresenceTelegram, h]

theorem consumeField_unfitWheel {d : Nat} (hk : tel.kind = 0x10) (hd : detectorAt s.detTab tel.src = some d)
    (hn : NotAwaiting s) (hp : ProofSound s)
    (h : tel.payload.length ≠ 4 ∨ (byteAt tel.payload 0 ≠ 1 ∧ byteAt tel.payload 0 ≠ 2)) :
    consumeField p tel s = s := by
  obtain ⟨hsame, hstart⟩ := wheelReport_unfit (d := d) (s := s) h
  rw [consumeField_known (k := .wheel) hk (knownSource_of_detector hd)]
  simp only [takeField, takeWheelTelegram, hd, hsame, hstart]
  exact settle_of_quiet hn hp

theorem consumeField_unfitHeartbeat {d : Nat} (hk : tel.kind = 0x11) (hd : detectorAt s.detTab tel.src = some d)
    (hn : NotAwaiting s) (hp : ProofSound s)
    (h : tel.payload.length ≠ 2 ∨ (byteAt tel.payload 1 ≠ 1 ∧ byteAt tel.payload 1 ≠ 2)) :
    consumeField p tel s = s := by
  rw [consumeField_known (k := .heartbeat) hk (knownSource_of_detector hd)]
  simp only [takeField, takeHeartbeatTelegram, hd, heartbeatReport_unfit h]
  exact settle_of_quiet hn hp

theorem consumeField_unfitLamp {m : Nat} (hk : tel.kind = 0x12)
    (hm : moduleOfTypeAt s.eqTab .lamp tel.src = some m) (h : lampReportOf tel.payload = none) :
    consumeField p tel s = s := by
  rw [consumeField_known (k := .lampReport) hk (knownSource_of_module hm)]
  simp only [takeField, takeLampTelegram, hm, h]

theorem consumeField_unfitBarrier {m : Nat} (hk : tel.kind = 0x13)
    (hm : moduleOfTypeAt s.eqTab .barrier tel.src = some m) (h : barrierReportOf tel.payload = none) :
    consumeField p tel s = s := by
  rw [consumeField_known (k := .barrierReport) hk (knownSource_of_module hm)]
  simp only [takeField, takeBarrierTelegram, hm, h]

theorem consumeField_unfitPresence {m : Nat} (hk : tel.kind = 0x14)
    (hm : moduleOfTypeAt s.eqTab .presence tel.src = some m) (h : presenceReportOf tel.payload = none) :
    consumeField p tel s = s := by
  rw [consumeField_known (k := .presenceReport) hk (knownSource_of_module hm)]
  simp only [takeField, takePresenceTelegram, hm, h]

end

/-- Settles O11: every way a telegram is not accepted in its role ends in `mismatch`, and every report that does not
fit ends in the state it was heard in. -/
theorem roleMismatch : Obligations.RoleMismatch := by
  intro c p tel s w hc harr hw hact detector module
  have hexec := exec_consumed hc harr hw hact
  have hknown : (hearLink p s).knownSource = s.knownSource := by
    funext a; simp only [State.knownSource, hearLink_detTab, hearLink_eqTab]
  constructor
  · intro hbad
    suffices hmis : consume p tel w.role (hearLink p s) = mismatch p tel.src (hearLink p s) by
      obtain ⟨hnotice, htouch⟩ := mismatch_notice p tel.src (hearLink p s)
      obtain ⟨hcap, hlat, hactive⟩ := hnotice.of_heard
      exact ⟨_, hexec.trans (by rw [hmis]), hcap, hlat, hactive, htouch⟩
    rcases hbad with ⟨hrole, hkind⟩ | ⟨hrole, hkind⟩ | ⟨hrole, hkind⟩ | ⟨hrole, hs, htype⟩ <;> rw [hrole]
    · show consumeField p tel _ = _
      simp only [consumeField, fieldKindOf_eq_none hkind]
    · exact consumeRequest_mismatch (signaller_refuses hkind)
    · exact consumeRequest_mismatch (config_refuses hkind)
    · refine consumeField_wrongType (by rwa [hknown]) ?_
      simpa only [hearLink_detTab, hearLink_eqTab] using htype
  · intro hrole hn hp hunfit
    suffices hsame : consumeField p tel (hearLink p s) = hearLink p s by
      rw [hexec, hrole]
      exact congrArg _ hsame
    simp only [detector, module, Option.isSome_iff_exists] at hunfit
    rcases hunfit with ⟨hk, ⟨d, hd⟩, h⟩ | ⟨hk, ⟨d, hd⟩, h⟩ | ⟨hk, ⟨m, hm⟩, h⟩ | ⟨hk, ⟨m, hm⟩, h⟩ | ⟨hk, ⟨m, hm⟩, h⟩
    · exact consumeField_unfitWheel hk (by rwa [hearLink_detTab]) hn.heard hp.heard h
    · exact consumeField_unfitHeartbeat hk (by rwa [hearLink_detTab]) hn.heard hp.heard h
    · refine consumeField_unfitLamp hk (by rwa [hearLink_eqTab]) (lampReportOf_eq_none (h.imp id ?_))
      rintro ⟨n, hn, hcode⟩
      exact ⟨n, hn, channelReport_eq_none hcode⟩
    · exact consumeField_unfitBarrier hk (by rwa [hearLink_eqTab]) (barrierReportOf_eq_none h)
    · exact consumeField_unfitPresence hk (by rwa [hearLink_eqTab]) (presenceReportOf_eq_none h)

/-! ## Strangers -/

theorem joinStrangers_of_room {l : List Addr} (h : l.length < 16) (src : Addr) : joinStrangers l src = l ++ [src] := by
  have hroom : ¬ strangerLimit ≤ l.length := Nat.not_le.mpr h
  rw [joinStrangers, if_neg hroom]

theorem joinStrangers_of_full {l : List Addr} (h : l.length = 16) (src : Addr) :
    joinStrangers l src = l.tail ++ [src] := by
  have hfull : strangerLimit ≤ l.length := Nat.le_of_eq h.symm
  rw [joinStrangers, if_pos hfull, h]
  simp [strangerLimit]

theorem strangerHeard_listed {p : Port} {src : Addr} {s : State} (h : src ∈ s.window.strangers) :
    strangerHeard p src s = s := if_pos (List.contains_iff_mem.mpr h)

theorem strangerHeard_new {p : Port} {src : Addr} {s : State} (h : src ∉ s.window.strangers) :
    strangerHeard p src s = finish s false (noticeStranger p src
      (s.setWindow { s.window with strangers := joinStrangers s.window.strangers src })) :=
  if_neg fun hc => h (List.contains_iff_mem.mp hc)

theorem strangerHeard_notice {p : Port} {src : Addr} {s : State} (h : src ∉ s.window.strangers) :
    NoticeAlone (if p = .a then 34 else 35) src s (strangerHeard p src s) := by
  obtain ⟨hcap, hlat, hact⟩ := finish_raiseNotice s (34 + portNumber p) src
    (s.setWindow { s.window with strangers := joinStrangers s.window.strangers src })
  rw [strangerHeard_new h]
  cases p <;> exact ⟨hcap, hlat, hact⟩

theorem strangerHeard_window {p : Port} {src : Addr} {s : State} (h : src ∉ s.window.strangers) :
    (strangerHeard p src s).window = { s.window with strangers := joinStrangers s.window.strangers src } := by
  rw [strangerHeard_new h]
  exact (finish_touches (L := [.portA, .portB, .fault, .queue .status]) _ _ (by decide)
    (noticeStranger_touches p src (by decide) (Touches.refl _ _))) .window (by decide)

/-- A source that is neither a detector in use nor a module in use is in no table (R160). -/
theorem knownSource_eq_false {s : State} {src : Addr}
    (hd : ∀ d < 32, (detectorOf s.detTab d).addr = src → (detectorOf s.detTab d).addr = 0)
    (hm : ∀ m < 10, (moduleOf s.eqTab m).addr = src → (moduleOf s.eqTab m).typeCode = 0) :
    s.knownSource src = false := by
  have hdet : detectorAt s.detTab src = none := by
    rw [detectorAt, List.find?_eq_none]
    intro d hmem heq
    obtain ⟨hlt, huse⟩ := List.mem_filter.mp hmem
    exact of_decide_eq_true huse (hd d (List.mem_range.mp hlt) (of_decide_eq_true heq))
  have hmod : moduleAt s.eqTab src = none := by
    rw [moduleAt, List.find?_eq_none]
    intro m hmem heq
    obtain ⟨hlt, huse⟩ := List.mem_filter.mp hmem
    exact of_decide_eq_true huse (hm m (List.mem_range.mp hlt) (of_decide_eq_true heq))
  rw [State.knownSource, hdet, hmod]
  rfl

theorem fieldKind_of_mem {k : Byte} (h : k ∈ ([0x10, 0x11, 0x12, 0x13, 0x14] : List Byte)) :
    ∃ x : FieldKind, k = x.code := by
  simp only [List.mem_cons, List.not_mem_nil, or_false] at h
  rcases h with rfl | rfl | rfl | rfl | rfl
  · exact ⟨.wheel, rfl⟩
  · exact ⟨.heartbeat, rfl⟩
  · exact ⟨.lampReport, rfl⟩
  · exact ⟨.barrierReport, rfl⟩
  · exact ⟨.presenceReport, rfl⟩

/-- Settles O12: a source in no table is heard as a stranger, which is listed already or joins the list with its
NOTICE. -/
theorem stranger : Obligations.Stranger := by
  intro c p tel s w hc harr hw hact hrole hkind hd hm
  obtain ⟨k, hk⟩ := fieldKind_of_mem hkind
  have hheard : exec c s = .next (strangerHeard p tel.src (hearLink p s)) := by
    have hunknown : (hearLink p s).knownSource tel.src = false := knownSource_eq_false
      (by rw [hearLink_detTab]; exact hd) (by rw [hearLink_eqTab]; exact hm)
    rw [exec_consumed hc harr hw hact, hrole]
    exact congrArg _ (consumeField_stranger hk hunknown)
  rw [hheard]
  constructor
  · intro hmem
    rw [strangerHeard_listed (by rwa [hearLink_window])]
  · intro hmem
    have hnew : tel.src ∉ (hearLink p s).window.strangers := by rwa [hearLink_window]
    obtain ⟨hcap, hlat, hactive⟩ := (strangerHeard_notice (p := p) hnew).of_heard
    have hwindow := strangerHeard_window (p := p) hnew
    rw [hearLink_window] at hwindow
    refine ⟨_, rfl, fun hroom => ?_, fun hfull => ?_, by rw [hwindow], hcap, hlat, hactive,
      strangerHeard_touches p tel.src (by decide) (Touches.refl _ _)⟩
    · rw [hwindow, joinStrangers_of_room hroom]
    · rw [hwindow, joinStrangers_of_full hfull]

/-! ## A port going DOWN -/

theorem portGoesDown_setPort (p : Port) (s : State) : portGoesDown p s = enterFault .portDown (portNumber p)
    (s.port p).silenceWith.toNat (s.setPort p (portDownState (s.port p))) := rfl

/-- What a port that goes DOWN leaves of its own state: its transmission and its idle expiry (R155). -/
theorem portGoesDown_port (p q : Port) (s : State) :
    (portGoesDown p s).port q = if q = p then portDownState (s.port p) else s.port q := by
  have htouch : Touches [.fault] (s.setPort p (portDownState (s.port p))) (portGoesDown p s) :=
    enterFault_touches _ _ _ (by decide) (Touches.refl _ _)
  have hport : (portGoesDown p s).port q = (s.setPort p (portDownState (s.port p))).port q := by
    cases q
    · exact htouch .portA (by decide)
    · exact htouch .portB (by decide)
  rw [hport, State.setPort_port]

end Sys2Proof.Machine
end

section
/-! PROOFS. Requests and their replies (sections 7.5, 7.6, 9.1 to 9.4, 10.4): what every answer comes to, and the
statements O40, O42, O45, O46, O47, O48 and O49. -/

namespace Sys2Proof.Machine

/-! ## What every answer comes to -/

/-- The blocks a reply, the copy behind a COPY window and the status telegram of a request can change. -/
abbrev answerBlocks : List Block := [.portA, .portB, .queue .status, .queue .reply, .queue .forward]

/-- The reported content is read of the activation state and identity alone of the configuration unit (R144). -/
theorem reported_congr_of_config {s t : State} (h1 : t.config.activation = s.config.activation)
    (h1' : t.config.activeIdentity = s.config.activeIdentity) (h2 : t.tracker = s.tracker)
    (h3 : t.axle = s.axle) (h4 : t.fault = s.fault) (h5 : t.seq = s.seq) (h6 : t.barrier = s.barrier) :
    t.reported = s.reported := by
  have h9 : t.approachReport = s.approachReport := by
    funext a
    simp only [State.approachReport, State.earliestStart, State.recordsOf, h2]
  simp only [State.reported, State.nonClearSections, h1, h1', h3, h4, h5, h6, h9]

theorem Touches.reported_eq {L : List Block} {s t : State} (h : Touches L s t) (hT : .tracker ∉ L := by decide)
    (hA : .axle ∉ L := by decide) (hF : .fault ∉ L := by decide) (hS : .seq ∉ L := by decide)
    (hB : .barrier ∉ L := by decide) (ha : t.config.activation = s.config.activation)
    (hi : t.config.activeIdentity = s.config.activeIdentity) : t.reported = s.reported :=
  reported_congr_of_config ha hi (h.tracker_eq hT) (h.axle_eq hA) (h.fault_eq hF) (h.seq_eq hS) (h.barrier_eq hB)

theorem sendReply_touched (a : Arrival) (kind : Byte) (payload : List Byte) (s : State) :
    Touches [.portA, .portB, .queue .reply] s (sendReply a kind payload s) :=
  sendReply_touches a kind payload (by decide) (Touches.refl _ s)

section
variable {a : Arrival} {kind : Byte} {payload : List Byte} {s u v : State} {L M : List Block}

/-- A reply stands whatever the request did before it and the event after it, but for the REPLY queues. -/
theorem replied_of_touches (hu : Touches L (hearLink a.port s) u) (hL : .queue .reply ∉ L) (hT : .timebase ∉ L)
    (hv : Touches M (sendReply a kind payload u) v) (hM : .queue .reply ∉ M) :
    Replied a u.ownAddress kind payload s v := by
  obtain ⟨hrep, hbusy⟩ := sendReply_replied a kind payload u
  exact ((hrep.after hbusy hM hv).before hL hT hu).heard

/-- The end of a request whose changes may make a status telegram due: its reply, and what it leaves of the state in
which the reply was formed. -/
theorem finished_reply (copy : Option Telegram) (hu : Touches L (hearLink a.port s) u) (hL : .queue .reply ∉ L)
    (hT : .timebase ∉ L) :
    let t := withCopy a.port copy (finish (hearLink a.port s) false (sendReply a kind payload u))
    Replied a u.ownAddress kind payload s t ∧ Touches answerBlocks u t := by
  have hend : Touches [.portA, .portB, .queue .status, .queue .forward] (sendReply a kind payload u)
      (withCopy a.port copy (finish (hearLink a.port s) false (sendReply a kind payload u))) :=
    withCopy_touches _ _ (by decide) (finish_touches _ _ (by decide) (Touches.refl _ _))
  exact ⟨replied_of_touches hu hL hT hend (by decide),
    ((sendReply_touched a kind payload u).mono (by decide)).trans (hend.mono (by decide))⟩

/-- The end of a request that changes nothing reported: its reply alone. -/
theorem quiet_reply (copy : Option Telegram) (hu : Touches L (hearLink a.port s) u) (hL : .queue .reply ∉ L)
    (hT : .timebase ∉ L) (hr : u.reported = (hearLink a.port s).reported) :
    finish (hearLink a.port s) false (sendReply a kind payload u) = sendReply a kind payload u
      ∧ Replied a u.ownAddress kind payload s (withCopy a.port copy (sendReply a kind payload u))
      ∧ Touches [.portA, .portB, .queue .reply, .queue .forward] u
          (withCopy a.port copy (sendReply a kind payload u)) := by
  have hsent := sendReply_touched a kind payload u
  have hend : Touches [.portA, .portB, .queue .forward] (sendReply a kind payload u)
      (withCopy a.port copy (sendReply a kind payload u)) := withCopy_touches _ _ (by decide) (Touches.refl _ _)
  refine ⟨finish_same ?_, replied_of_touches hu hL hT hend (by decide),
    (hsent.mono (by decide)).trans (hend.mono (by decide))⟩
  exact (hsent.reported_eq (ha := by rw [hsent.config_eq]) (hi := by rw [hsent.config_eq])).trans hr

end

/-- The reply itself, sent from the state the port has heard in. -/
theorem plain_reply {a : Arrival} {s : State} (copy : Option Telegram) (kind : Byte) (payload : List Byte) :
    let t := withCopy a.port copy (finish (hearLink a.port s) false (sendReply a kind payload (hearLink a.port s)))
    Replied a s.ownAddress kind payload s t
      ∧ Touches [.portA, .portB, .queue .reply, .queue .forward] (hearLink a.port s) t := by
  obtain ⟨hsame, hrep, htouch⟩ := quiet_reply (kind := kind) (payload := payload) copy
    (Touches.refl [] (hearLink a.port s)) (by decide) (by decide) rfl
  dsimp only
  rw [hsame]
  rw [hearLink_ownAddress] at hrep
  exact ⟨hrep, htouch⟩

theorem verdict_none : verdict none = [0, 0] := rfl

/-! ## ACKNOWLEDGE -/

theorem acknowledgeFlags_fault (named : BitVec 24) (s : State) : (acknowledgeFlags named s).fault
    = (setFlags s.fault.active (s.fault.latched &&& ~~~acknowledged s.fault named) s).fault := by
  show (forgetStrangers (acknowledged s.fault named) _).fault = _
  unfold forgetStrangers
  split <;> rfl

/-- NOTICE cleared empties the stranger list (R138, R160). -/
theorem acknowledgeFlags_window (named : BitVec 24) (s : State) : (acknowledgeFlags named s).window
    = if (acknowledged s.fault named).getLsbD 23 then { s.window with strangers := [] } else s.window := by
  show (forgetStrangers (acknowledged s.fault named) _).window = _
  unfold forgetStrangers
  rw [show FaultClass.notice.number = 23 from rfl]
  split <;> rfl

theorem acknowledgeFlags_touched (named : BitVec 24) (s : State) :
    Touches [.window, .fault] s (acknowledgeFlags named s) :=
  acknowledgeFlags_touches named (by decide) (Touches.refl _ s)

/-- Settles O40: the flags are set by `acknowledgeFlags`, and the reply is formed of what it leaves. -/
theorem acknowledge : Obligations.Acknowledge := by
  intro a b0 b1 b2 s hreq cleared
  obtain ⟨copy, hcopy⟩ := receiveRequest_taken .acknowledge [b0, b1, b2] hreq (by simp)
  let u := acknowledgeFlags (b2 ++ b1 ++ b0) (hearLink a.port s)
  have hu : Touches [.window, .fault] (hearLink a.port s) u := acknowledgeFlags_touched _ _
  have hcleared : acknowledged (hearLink a.port s).fault (b2 ++ b1 ++ b0) = cleared := by rw [hearLink_fault]; rfl
  have hfault : u.fault = (setFlags s.fault.active (s.fault.latched &&& ~~~cleared) (hearLink a.port s)).fault := by
    rw [acknowledgeFlags_fault, hcleared, hearLink_fault]
  have hwindow : u.window = if cleared.getLsbD 23 then { s.window with strangers := [] } else s.window := by
    rw [acknowledgeFlags_window, hcleared, hearLink_window]
  have hexec : exec (.acknowledge a [b0, b1, b2]) s = .next (withCopy a.port copy (finish (hearLink a.port s) false
      (sendReply a 0x60 (acknowledgeResult cleared u.fault) u))) := by
    rw [← hcleared]
    exact congrArg _ hcopy
  obtain ⟨hrep, htouch⟩ := finished_reply (kind := 0x60) (payload := acknowledgeResult cleared u.fault) copy hu
    (by decide) (by decide)
  have htf := htouch.fault_eq
  have htw := htouch.window_eq
  have hown : u.ownAddress = s.ownAddress := by
    rw [State.ownAddress, State.loopTab, hwindow]
    split <;> rfl
  rw [hown] at hrep
  refine ⟨_, hexec, ?_, ?_, ?_, ?_, ?_, ?_, ?_, ?_, (hu.mono (by decide)).trans (htouch.mono (by decide))⟩
  · rw [htf, hfault, setFlags_active]
  · rw [htf, hfault, setFlags_latched]
  · rw [htf, hfault, setFlags_history, hearLink_fault]
  · rw [htf, hfault, setFlags_nextRecord, hearLink_fault]
  · rw [htf, hfault, setFlags_groups, State.safetyActive, hearLink_config, hearLink_crTab]
    rfl
  · rw [htw, hwindow]
    split <;> rfl
  · rw [htw, hwindow]
    split <;> rfl
  · rw [htf]
    exact hrep

/-! ## HISTORY_READ and IDENTIFY -/

theorem historyData_of_count {f : FaultUnit} {start count : Nat} (h1 : 1 ≤ count) (h4 : count ≤ 4) :
    historyData f start count = [0, 0, BitVec.ofNat 8 start, BitVec.ofNat 8 f.history.length]
      ++ bytes2 f.nextRecord ++ ((f.history.drop start).take count).flatMap recordBytes := by
  have hrange : inRange 1 4 count = true := by simp [inRange, h1, h4]
  unfold historyData
  rw [hrange]
  rfl

theorem historyData_of_badCount {f : FaultUnit} {start count : Nat} (h : count = 0 ∨ 4 < count) :
    historyData f start count = [1, 3, BitVec.ofNat 8 start, BitVec.ofNat 8 f.history.length]
      ++ bytes2 f.nextRecord := by
  have hrange : inRange 1 4 count = false := by
    simp only [inRange, Bool.and_eq_false_iff, decide_eq_false_iff_not]
    omega
  unfold historyData
  rw [hrange]
  simp [verdict, resultByte, reasonByte, Reason.code]

theorem identityData_eq (s : State) : identityData s
    = [0, 0, 1] ++ bytes2 s.config.strapBase ++ bytes2 s.config.activeIdentity ++ bytes2 s.config.activeCrc
      ++ bytes2 (tableCrc (safetyWords s.stagedSafety)) ++ [BitVec.ofNat 8 (activationCode s.config.activation)]
      ++ bytes2 ((s.config.pendingSet.map (·.1)).getD 0) ++ bytes2 (tableCrc s.loopTab) := by
  unfold identityData
  cases s.config.pendingSet <;> rfl

/-- Settles O42: both are replies formed of the state they are heard in. -/
theorem historyAndIdentity : Obligations.HistoryAndIdentity := by
  intro a s keeps
  constructor
  · intro start count hreq
    obtain ⟨copy, hcopy⟩ := receiveRequest_taken .historyRead [start, count] hreq (by simp)
    obtain ⟨hrep, htouch⟩ := plain_reply (a := a) (s := s) copy 0x64 (historyData s.fault start.toNat count.toNat)
    rw [← hearLink_fault a.port s] at hrep htouch
    refine ⟨_, congrArg Host.Outcome.next hcopy, htouch, fun h1 h4 => ?_, fun hbad => ?_⟩
    · have hdata := historyData_of_count (f := s.fault) (start := start.toNat) h1 h4
      rw [BitVec.ofNat_toNat, BitVec.setWidth_eq, ← hearLink_fault a.port s] at hdata
      rw [← hearLink_fault a.port s, ← hdata]
      exact hrep
    · have hdata := historyData_of_badCount (f := s.fault) (start := start.toNat) (hbad.imp (fun h => by rw [h]; rfl) id)
      rw [BitVec.ofNat_toNat, BitVec.setWidth_eq, ← hearLink_fault a.port s] at hdata
      rw [← hearLink_fault a.port s, ← hdata]
      exact hrep
  · intro hreq
    obtain ⟨copy, hcopy⟩ := receiveRequest_taken .identify [] hreq (by decide)
    obtain ⟨hrep, htouch⟩ := plain_reply (a := a) (s := s) copy 0x65 (identityData s)
    have hsame : identityData (hearLink a.port s) = identityData s := by
      simp only [identityData, State.stagedSafety, hearLink_config, hearLink_loopTab]
    rw [← hsame] at hrep htouch
    refine ⟨_, congrArg Host.Outcome.next hcopy, htouch, ?_⟩
    rw [← identityData_eq, ← hsame]
    exact hrep

/-! ## A request not taken -/

/-- The lengths the payload of a request of each kind can have (R184). -/
def requestLengths : RequestKind → List Nat
  | .acknowledge | .restore => [3]
  | .confirm | .historyRead | .activateLoop => [2]
  | .restart => [1]
  | .identify => [0]
  | .stageRead | .activate => [4]
  | .stageWrite => (List.range 23).map fun i => 3 + 2 * i

/-- The bytes before the verdict in the reply to a request of each kind, and its size where it is refused with
BAD_LENGTH (R184, R185). -/
def badLengthReply : RequestKind → Nat × Nat
  | .acknowledge => (0, 11) | .restore => (3, 8) | .confirm => (2, 5) | .restart => (1, 6)
  | .historyRead => (0, 6) | .identify => (0, 16) | .stageWrite => (4, 11)
  | .stageRead => (3, 7) | .activate => (2, 5) | .activateLoop => (0, 5)

theorem not_mem_stageWriteLengths {n : Nat} (hn : n ≤ 48) (h : n ∉ requestLengths .stageWrite) :
    n < 3 ∨ n % 2 = 0 := by
  by_contra hnot
  refine h (List.mem_map.mpr ⟨(n - 3) / 2, ?_, ?_⟩)
  · rw [List.mem_range]; omega
  · omega

theorem ProofSound.of_touches {L : List Block} {s t : State} (h : ProofSound s) (hT : Touches L s t)
    (hc : t.config.tables = s.config.tables) (hL : .lamp ∉ L := by decide) (hS : .seq ∉ L := by decide)
    (hB : .barrier ∉ L := by decide) : ProofSound t := by
  rw [ProofSound, crossingProof_congr hc (hT.lamp_eq hL) (hT.barrier_eq hB) (hT.seq_eq hS), hT.barrier_eq hB]
  exact h

section
variable {a : Arrival} {payload : List Byte} {s : State}

/-- The end of an event that has sent a reply and nothing else. -/
theorem finishProof_sendReply (hp : ProofSound s) (kind : Byte) (pl : List Byte) :
    finishProof s false (sendReply a kind pl s) = sendReply a kind pl s := by
  have hT := sendReply_touched a kind pl s
  rw [finishProof, evaluateProof_of_sound (hp.of_touches hT (by rw [hT.config_eq])), finish_same]
  exact hT.reported_eq (ha := by rw [hT.config_eq]) (hi := by rw [hT.config_eq])

theorem finish_sendReply (kind : Byte) (pl : List Byte) :
    finish s false (sendReply a kind pl s) = sendReply a kind pl s := by
  have hT := sendReply_touched a kind pl s
  exact finish_same (hT.reported_eq (ha := by rw [hT.config_eq]) (hi := by rw [hT.config_eq]))

/-- A request of a length its kind has not is answered with BAD_LENGTH, and nothing else happens (R185). -/
theorem takeRequest_badLength {k : RequestKind} (hfits : payload.length ≤ 48)
    (h : payload.length ∉ requestLengths k) (hn : NotAwaiting s) (hp : ProofSound s) :
    takeRequest k a payload s
      = sendReply a (k.code + 0x20) (badLengthPayload (badLengthReply k).1 (badLengthReply k).2) s := by
  cases k with
  | stageWrite =>
    have hbad := not_mem_stageWriteLengths hfits h
    show finish s false (answerStageWrite a payload s) = _
    rw [answerStageWrite, if_pos hbad]
    exact finish_sendReply ..
  | acknowledge =>
    show finish s false (answerAcknowledge a payload s) = _
    rw [answerAcknowledge, if_pos (List.mem_singleton.not.mp h)]
    exact finish_sendReply ..
  | restore =>
    show settle s (answerRestore a payload s) = _
    rw [answerRestore, if_pos (List.mem_singleton.not.mp h), settle_notAwaiting
      (hn.of_touches (L := [.portA, .portB, .queue .reply]) (by decide) (sendReply_touched _ _ _ _))]
    exact finishProof_sendReply hp ..
  | confirm =>
    show finishProof s false (answerConfirm a payload s) = _
    rw [answerConfirm, if_pos (List.mem_singleton.not.mp h)]
    exact finishProof_sendReply hp ..
  | restart =>
    have hdue : restartDue payload s = false := by simp [restartDue, List.mem_singleton.not.mp h]
    show finishProof s (restartDue payload s) (answerRestart a payload s) = _
    rw [hdue, answerRestart, if_pos (List.mem_singleton.not.mp h)]
    exact finishProof_sendReply hp ..
  | historyRead =>
    show finish s false (answerHistoryRead a payload s) = _
    rw [answerHistoryRead, if_pos (List.mem_singleton.not.mp h)]
    exact finish_sendReply ..
  | identify =>
    show finish s false (answerIdentify a payload s) = _
    rw [answerIdentify, if_pos (List.mem_singleton.not.mp h)]
    exact finish_sendReply ..
  | stageRead =>
    show finish s false (answerStageRead a payload s) = _
    rw [answerStageRead, if_pos (List.mem_singleton.not.mp h)]
    exact finish_sendReply ..
  | activate =>
    show finish s false (answerActivate a payload s) = _
    rw [answerActivate, if_pos (List.mem_singleton.not.mp h)]
    exact finish_sendReply ..
  | activateLoop =>
    show finish s false (answerActivateLoop a payload s) = _
    rw [answerActivateLoop, if_pos (List.mem_singleton.not.mp h)]
    exact finish_sendReply ..

end

/-- A request of a kind its role may send is answered, or discarded for want of room (R161). -/
theorem consume_request {k : RequestKind} {r : Role} {p : Port} {tel : Telegram} {s : State}
    (hk : tel.kind = k.code) (hr : requestAllowed r k = true) :
    consume p tel (some r) s = requestWithRoom k ⟨p, tel.dst, tel.src⟩ tel.payload s := by
  have hf : requestKindOf tel.kind = some k := by rw [hk]; cases k <;> decide
  cases r with
  | field => cases hr
  | signaller => simp only [consume, consumeRequest, hf, hr, if_true]
  | config => simp only [consume, consumeRequest, hf, hr, if_true]

theorem requestWithRoom_of_full {k : RequestKind} {a : Arrival} {payload : List Byte} {s : State}
    (h : 4 ≤ (s.port a.port).reply.length) : requestWithRoom k a payload s = s := by
  have hfull : replyRoom a.port s = false := decide_eq_false (Nat.not_lt.mpr h)
  rw [requestWithRoom, hfull, if_neg Bool.false_ne_true]

theorem requestWithRoom_of_room {k : RequestKind} {a : Arrival} {payload : List Byte} {s : State}
    (h : (s.port a.port).reply.length < 4) : requestWithRoom k a payload s = takeRequest k a payload s :=
  if_pos (decide_eq_true h)

theorem RequestKind.code_ne_zero (k : RequestKind) : k.code ≠ 0 := by cases k <;> decide

/-- Settles O45: the room for the reply is looked for before anything else, then the length. -/
theorem requestNotTaken : Obligations.RequestNotTaken := by
  intro c k a payload s w r hc hfits hup hown hw hact hrole hr
  have harr : Arrived a.port ⟨a.dst, a.src, k.code, payload⟩ s :=
    ⟨hup, hfits, k.code_ne_zero, hown⟩
  have hexec : exec c s = .next (requestWithRoom k a payload (hearLink a.port s)) := by
    rw [exec_consumed hc harr hw hact, hrole, consume_request rfl hr]
  have hreply : ((hearLink a.port s).port a.port).reply = (s.port a.port).reply := by rw [hearLink_port]
  refine ⟨fun hfull => ?_, fun hroom hlen hn hp => ?_⟩
  · rw [hexec, requestWithRoom_of_full (by rwa [hreply])]
  · have hlen' : payload.length ∉ requestLengths k := by cases k <;> exact hlen
    rw [requestWithRoom_of_room (by rwa [hreply]), takeRequest_badLength hfits hlen' hn.heard hp.heard] at hexec
    have htouch := sendReply_touched a (k.code + 0x20)
      (badLengthPayload (badLengthReply k).1 (badLengthReply k).2) (hearLink a.port s)
    have hrep := replied_of_touches (Touches.refl [] (hearLink a.port s)) (by decide) (by decide)
      (Touches.refl [] (sendReply a (k.code + 0x20) (badLengthPayload (badLengthReply k).1 (badLengthReply k).2)
        (hearLink a.port s))) (by decide)
    rw [hearLink_ownAddress] at hrep
    exact ⟨_, hexec, htouch, _, _, hrep, by cases k <;> rfl⟩

/-! ## ACTIVATE and ACTIVATE_LOOP -/

theorem hearLink_stagedSafety (p : Port) (s : State) : (hearLink p s).stagedSafety = s.stagedSafety := by
  simp only [State.stagedSafety, hearLink_config]

/-- Settles O47: the checks are those of `checkActivate`, and what they leave is `activateEffect`. -/
theorem activate : Obligations.Activate := by
  intro a payload s hreq hlen reason
  obtain ⟨copy, hcopy⟩ := receiveRequest_taken .activate payload hreq (by omega)
  let u := activateEffect (wordAt payload 0) (wordAt payload 2) reason (hearLink a.port s)
  have hu : Touches [.config] (hearLink a.port s) u := activateEffect_touches _ _ _ (by decide) (Touches.refl _ _)
  let reply := bytes2 (wordAt payload 0) ++ verdict reason ++ [BitVec.ofNat 8 (activationCode u.config.activation)]
  have hexec : exec (.activate a payload) s
      = .next (withCopy a.port copy (finish (hearLink a.port s) false (sendReply a 0x68 reply u))) := by
    refine congrArg _ (hcopy.trans ?_)
    show withCopy _ _ (finish _ _ (answerActivate a payload (hearLink a.port s))) = _
    rw [answerActivate, if_neg (not_not.mpr hlen), hearLink_ownAddress, hearLink_stagedSafety]
  obtain ⟨hrep, htouch⟩ := finished_reply (kind := 0x68) (payload := reply) copy hu (by decide) (by decide)
  have hconfig := htouch.config_eq
  rw [hu.ownAddress_eq, hearLink_ownAddress] at hrep
  refine ⟨_, hexec, fun hnone => ⟨?_, ?_⟩, fun x hx => ⟨?_, ?_⟩, fun hzero => if_pos hzero, fun hzero hcrc => ?_,
    (hu.mono (by decide)).trans (htouch.mono (by decide))⟩
  · rw [hconfig]
    simp only [u, hnone, activateEffect, State.setConfig_config, hearLink_config]
  · have hreply : reply = bytes2 (wordAt payload 0) ++ [0, 0, 1] := by
      simp only [reply, u, hnone, activateEffect, State.setConfig_config, List.append_assoc]
      rfl
    rw [← hreply]
    exact hrep
  · rw [hconfig]
    simp only [u, hx, activateEffect, cancelActivation, State.setConfig_config, hearLink_config]
  · have hreply : reply = bytes2 (wordAt payload 0) ++ [1, BitVec.ofNat 8 x.code, 0] := by
      simp only [reply, u, hx, activateEffect, cancelActivation, State.setConfig_config, List.append_assoc]
      rfl
    rw [← hreply]
    exact hrep
  · exact (if_neg hzero).trans (if_pos hcrc)

theorem checkLoop_of_crc {crc : Word} {staged : List Word} {active : SafetyTables} (h : crc ≠ tableCrc staged) :
    checkLoop crc staged active = some .crcMismatch := by
  unfold checkLoop firstReason
  rw [if_pos (decide_eq_true h)]

theorem checkLoop_of_zero {crc : Word} {staged : List Word} {active : SafetyTables} (h : crc = tableCrc staged)
    (hz : ∀ w ∈ staged, w = 0) : checkLoop crc staged active = some .noConfigWindow := by
  have hcrc : ¬ decide (crc ≠ tableCrc staged) = true := by simp [h]
  have hall : (staged.all fun w => decide (w = 0)) = true :=
    List.all_eq_true.mpr fun w hw => decide_eq_true (hz w hw)
  unfold checkLoop firstReason
  rw [if_neg hcrc, firstReason, if_pos hall]

theorem activationPending_eq (s : State) : s.activationPending = decide (s.config.activation ≠ .idle) := rfl

/-- Settles O48: the checks are those of `checkLoop`, and the reply is sent from the state they leave, so from its
own address. -/
theorem activateLoop : Obligations.ActivateLoop := by
  intro a payload s hreq hlen staged reason
  obtain ⟨copy, hcopy⟩ := receiveRequest_taken .activateLoop payload hreq (by omega)
  let u := activateLoopEffect reason (hearLink a.port s)
  have hu : Touches [.window, .config] (hearLink a.port s) u :=
    activateLoopEffect_touches _ (by decide) (Touches.refl _ _)
  let reply := verdict reason ++ bytes2 (tableCrc u.loopTab)
    ++ [if reason.isNone && s.activationPending then 1 else 0]
  have hexec : exec (.activateLoop a payload) s
      = .next (withCopy a.port copy (finish (hearLink a.port s) false (sendReply a 0x69 reply u))) := by
    refine congrArg _ (hcopy.trans ?_)
    show withCopy _ _ (finish _ _ (answerActivateLoop a payload (hearLink a.port s))) = _
    rw [answerActivateLoop, if_neg (not_not.mpr hlen), activationPending_eq, hearLink_config]
    rfl
  obtain ⟨hrep, htouch⟩ := finished_reply (kind := 0x69) (payload := reply) copy hu (by decide) (by decide)
  have hconfig := htouch.config_eq
  have hwindow := htouch.window_eq
  refine ⟨_, hexec, fun hnone => ?_, fun x hx => ?_, checkLoop_of_crc, checkLoop_of_zero,
    (hu.mono (by decide)).trans (htouch.mono (by decide))⟩
  · have heq : u = cancelActivation ((hearLink a.port s).setWindow { s.window with loopTable := staged }) := by
      simp only [u, hnone, activateLoopEffect, hearLink_window, hearLink_config]
      rfl
    have hown : u.ownAddress = ownAddressOf staged := by rw [heq]; rfl
    have hpending : reply = [0, 0] ++ bytes2 (tableCrc staged)
        ++ [if s.config.activation = .idle then 0 else 1] := by
      simp only [reply, hnone, heq, activationPending_eq, Option.isNone_none, Bool.true_and]
      by_cases hidle : s.config.activation = .idle <;> simp [hidle, verdict_none] <;> rfl
    refine ⟨?_, ?_, by rw [← hown, ← hpending]; exact hrep⟩
    · rw [hwindow, heq]
      rfl
    · rw [hconfig, heq]
      simp only [cancelActivation, State.setConfig_config, State.setWindow_config, hearLink_config]
  · have heq : u = hearLink a.port s := by simp only [u, hx, activateLoopEffect]
    have hpending : reply = [1, BitVec.ofNat 8 x.code] ++ bytes2 (tableCrc s.loopTab) ++ [0] := by
      simp only [reply, hx, heq, hearLink_loopTab]
      rfl
    have hown : u.ownAddress = s.ownAddress := by rw [heq, hearLink_ownAddress]
    refine ⟨?_, ?_, by rw [← hown, ← hpending]; exact hrep⟩
    · rw [hwindow, heq, hearLink_window]
    · rw [hconfig, heq, hearLink_config]

end Sys2Proof.Machine
end

section
/-! PROOFS. The staged tables and CONFIRM (sections 9.1, 9.2, 9.4): the statements O46 and O49. -/

namespace Sys2Proof.Machine

/-! ## Words of a payload and of a table -/

theorem length_payloadWords : ∀ l : List Byte, (payloadWords l).length = l.length / 2
  | [] => rfl
  | [_] => by simp [payloadWords]
  | hi :: lo :: rest => by
    rw [payloadWords, List.length_cons, length_payloadWords rest, List.length_cons, List.length_cons]
    omega

theorem payloadWords_getD : ∀ (l : List Byte) (k : Nat), 2 * k + 1 < l.length →
    (payloadWords l).getD k 0 = wordAt l (2 * k)
  | [], k, h => absurd h (by simp)
  | [_], k, h => absurd h (by simp)
  | hi :: lo :: rest, 0, _ => rfl
  | hi :: lo :: rest, k + 1, h => by
    have hk : 2 * k + 1 < rest.length := by simp only [List.length_cons] at h; omega
    rw [payloadWords, List.getD_cons_succ, payloadWords_getD rest k hk]
    rfl

theorem wordAt_drop (l : List Byte) (n i : Nat) : wordAt (l.drop n) i = wordAt l (n + i) := by
  simp only [wordAt, byteAt, List.getD_eq_getElem?_getD, List.getElem?_drop, Nat.add_assoc]

theorem length_placeWords {l ws : List Word} {start : Nat} (h : start + ws.length ≤ l.length) :
    (placeWords l start ws).length = l.length := by
  simp only [placeWords, List.length_append, List.length_take, List.length_drop]
  omega

theorem placeWords_getD {l ws : List Word} {start : Nat} (h : start + ws.length ≤ l.length) (j : Nat) :
    (placeWords l start ws).getD j 0
      = if start ≤ j ∧ j < start + ws.length then ws.getD (j - start) 0 else l.getD j 0 := by
  have htake : (l.take start).length = start := by rw [List.length_take]; omega
  have hfront : (l.take start ++ ws).length = start + ws.length := by rw [List.length_append, htake]
  simp only [placeWords, List.getD_eq_getElem?_getD]
  rcases Nat.lt_or_ge j start with hj | hj
  · rw [if_neg (by omega), List.getElem?_append_left (by omega), List.getElem?_append_left (by omega),
      List.getElem?_take, if_pos hj]
  · rcases Nat.lt_or_ge j (start + ws.length) with hj' | hj'
    · rw [if_pos ⟨hj, hj'⟩, List.getElem?_append_left (by omega), List.getElem?_append_right (by omega), htake]
    · rw [if_neg (by omega), List.getElem?_append_right (by omega), hfront, List.getElem?_drop,
        Nat.add_sub_cancel' hj']

/-! ## Staged tables -/

theorem stagedOf_setStaged_self (st : StagedTables) (i : TableId) (x : StagedTable) :
    stagedOf (setStaged st i x) i = x := by
  cases i <;> rfl

theorem stagedOf_setStaged_of_ne {st : StagedTables} {i j : TableId} (h : j ≠ i) (x : StagedTable) :
    stagedOf (setStaged st i x) j = stagedOf st j := by
  cases i <;> cases j <;> simp [stagedOf, setStaged] at h ⊢

theorem putStaged_config (i : TableId) (x : StagedTable) (s : State) :
    (putStaged i x s).config = { s.config with staged := setStaged s.config.staged i x } := rfl

/-- The access asked for is within the count of one telegram and the table (R171, R172). -/
def accessFits (i : TableId) (start n : Nat) : Prop := 1 ≤ n ∧ n ≤ 20 ∧ start + n ≤ tableSize i

theorem checkAccess_none (start n : Nat) : checkAccess none start n = some .badTable := rfl

theorem checkAccess_of_fits {i : TableId} {start n : Nat} (h : accessFits i start n) :
    checkAccess (some i) start n = none := by
  obtain ⟨h1, h20, hend⟩ := h
  have hrange : inRange 1 20 n = true := by simp [inRange, h1, h20]
  simp [checkAccess, hrange, Nat.not_lt.mpr hend]

theorem checkAccess_of_not_fits {i : TableId} {start n : Nat} (h : ¬ accessFits i start n) :
    checkAccess (some i) start n = some (if n = 0 ∨ 20 < n then .badCount else .pastEnd) := by
  by_cases hn : n = 0 ∨ 20 < n
  · have hrange : inRange 1 20 n = false := by
      simp only [inRange, Bool.and_eq_false_iff, decide_eq_false_iff_not]
      omega
    simp [checkAccess, hrange, hn]
  · have hrange : inRange 1 20 n = true := by
      simp only [inRange, Bool.and_eq_true, decide_eq_true_eq]
      omega
    have hend : tableSize i < start + n := by
      by_contra hle
      exact h ⟨by omega, by omega, by omega⟩
    simp [checkAccess, hrange, hn, hend]

/-- The result bytes of a staged access (R171, R172, R186). -/
theorem verdict_checkAccess (i : TableId) (start n : Nat) : verdict (checkAccess (some i) start n)
    = if 1 ≤ n ∧ n ≤ 20 ∧ start + n ≤ tableSize i then [0, 0]
      else if n = 0 ∨ 20 < n then [1, 3] else [1, 4] := by
  by_cases h : 1 ≤ n ∧ n ≤ 20 ∧ start + n ≤ tableSize i
  · rw [checkAccess_of_fits h, if_pos h]
    rfl
  · rw [checkAccess_of_not_fits h, if_neg h]
    split <;> rfl

theorem resolveStart_some (start : Word) (index : Nat) (free : Word) :
    resolveStart start (some index) free = if start = 0xFFFF then index else start.toNat := rfl

/-- Without a table, a start other than CONTINUE is echoed (R184, log 10). -/
theorem resolveStart_none {start : Word} (free : Word) (h : start ≠ 0xFFFF) :
    resolveStart start none free = start.toNat := if_neg h

theorem isSafetyTable_iff (i : TableId) : isSafetyTable i = true ↔ i ≠ .loop := by cases i <;> decide

theorem writeCancels_iff {i : TableId} {s : State} :
    writeCancels (some i) s = true ↔ i ≠ .loop ∧ s.config.activation ≠ .idle := by
  rw [writeCancels, Bool.and_eq_true, isSafetyTable_iff, State.activationPending, decide_eq_true_eq]

/-! ## STAGE_WRITE -/

section
variable {i : TableId} {start : Nat} {ws : List Word} {s : State}

theorem stageWriteEffect_none (reason : Option Reason) : stageWriteEffect none start ws reason s = s := by
  unfold stageWriteEffect
  simp [writeCancels]

theorem stageWriteEffect_refused (x : Reason) : stageWriteEffect (some i) start ws (some x) s
    = if writeCancels (some i) s then cancelActivation s else s := rfl

theorem stageWriteEffect_accepted : stageWriteEffect (some i) start ws none s
    = if writeCancels (some i) s then cancelActivation (stageWords i start ws s) else stageWords i start ws s := rfl

/-- The configuration unit after a STAGE_WRITE for a table. -/
theorem stageWriteEffect_config (reason : Option Reason) : (stageWriteEffect (some i) start ws reason s).config
    = { s.config with
        staged := if reason.isNone then setStaged s.config.staged i { s.stagedTable i with
          words := placeWords (s.stagedTable i).words start ws, writeIndex := start + ws.length }
          else s.config.staged
        activation := if writeCancels (some i) s then .idle else s.config.activation
        pendingSet := if writeCancels (some i) s then none else s.config.pendingSet } := by
  cases reason with
  | none =>
    rw [stageWriteEffect_accepted]
    by_cases h : writeCancels (some i) s = true <;> simp only [h] <;> rfl
  | some x =>
    rw [stageWriteEffect_refused]
    by_cases h : writeCancels (some i) s = true <;> simp only [h] <;> rfl

end

theorem hearLink_stagedTable (p : Port) (s : State) (i : TableId) :
    (hearLink p s).stagedTable i = s.stagedTable i := by
  rw [State.stagedTable, hearLink_config, State.stagedTable]

theorem State.stagedTable_congr {s t : State} (h : t.config.staged = s.config.staged) (i : TableId) :
    t.stagedTable i = s.stagedTable i := by rw [State.stagedTable, h, State.stagedTable]

theorem payloadWords_drop {payload : List Byte} {k : Nat} (h : 2 * k + 4 < payload.length) :
    (payloadWords (payload.drop 3)).getD k 0 = wordAt payload (3 + 2 * k) := by
  rw [payloadWords_getD _ _ (by rw [List.length_drop]; omega), wordAt_drop]

/-- A STAGE_WRITE of right length taken for a table. -/
theorem stageWrite_taken {a : Arrival} {payload : List Byte} {s : State} {i : TableId}
    (hreq : Requested .stageWrite s a) (hfits : payload.length ≤ 48) (h3 : 3 ≤ payload.length)
    (hodd : payload.length % 2 = 1) (hi : tableOfCode (byteAt payload 0).toNat = some i) (hsound : StagedSound s) :
    let start := if wordAt payload 1 = 0xFFFF then (s.stagedTable i).writeIndex
      else (wordAt payload 1).toNat
    let n := (payload.length - 3) / 2
    let accepted := 1 ≤ n ∧ n ≤ 20 ∧ start + n ≤ tableSize i
    let cancels := i ≠ .loop ∧ s.config.activation ≠ .idle
    ∃ t, exec (.stageWrite a payload) s = .next t
      ∧ (accepted → (t.stagedTable i).writeIndex = start + n
          ∧ (t.stagedTable i).readIndex = (s.stagedTable i).readIndex
          ∧ (∀ j, (t.stagedTable i).words.getD j 0
              = if start ≤ j ∧ j < start + n then wordAt payload (3 + 2 * (j - start))
                else (s.stagedTable i).words.getD j 0)
          ∧ (t.stagedTable i).words.length = tableSize i)
      ∧ (¬ accepted → t.stagedTable i = s.stagedTable i)
      ∧ (∀ j, j ≠ i → t.stagedTable j = s.stagedTable j)
      ∧ t.config.activation = (if cancels then .idle else s.config.activation)
      ∧ t.config.pendingSet = (if cancels then none else s.config.pendingSet)
      ∧ t.config.tables = s.config.tables ∧ t.config.activeIdentity = s.config.activeIdentity
      ∧ t.config.activeCrc = s.config.activeCrc ∧ t.config.strapBase = s.config.strapBase
      ∧ Replied a s.ownAddress 0x66
          ([byteAt payload 0] ++ bytes2 (BitVec.ofNat 16 start) ++ [BitVec.ofNat 8 n]
            ++ (if accepted then [0, 0] else if n = 0 ∨ 20 < n then [1, 3] else [1, 4])
            ++ bytes2 (BitVec.ofNat 16 (t.stagedTable i).writeIndex)
            ++ bytes2 (tableCrc (t.stagedTable i).words) ++ [if cancels then 1 else 0]) s t
      ∧ Touches [.portA, .portB, .config, .queue .status, .queue .reply, .queue .forward]
          (hearLink a.port s) t := by
  intro start n accepted cancels
  obtain ⟨copy, hcopy⟩ := receiveRequest_taken .stageWrite payload hreq hfits
  let ws := payloadWords (payload.drop 3)
  let reason := checkAccess (some i) start n
  let u := stageWriteEffect (some i) start ws reason (hearLink a.port s)
  have hu : Touches [.config] (hearLink a.port s) u := stageWriteEffect_touches _ _ _ _ (by decide) (Touches.refl _ _)
  have hws : ws.length = n := by rw [length_payloadWords, List.length_drop]
  have hcancel : writeCancels (some i) (hearLink a.port s) = decide cancels := by
    rw [Bool.eq_iff_iff, writeCancels_iff, hearLink_config, decide_eq_true_eq]
  let reply := [byteAt payload 0] ++ bytes2 (BitVec.ofNat 16 start) ++ [BitVec.ofNat 8 n] ++ verdict reason
    ++ bytes2 (BitVec.ofNat 16 (u.stagedTable i).writeIndex) ++ bytes2 (tableCrc (u.stagedTable i).words)
    ++ [if decide cancels then 1 else 0]
  have hexec : exec (.stageWrite a payload) s
      = .next (withCopy a.port copy (finish (hearLink a.port s) false (sendReply a 0x66 reply u))) := by
    refine congrArg Host.Outcome.next (hcopy.trans ?_)
    show withCopy _ _ (finish _ _ (answerStageWrite a payload (hearLink a.port s))) = _
    rw [answerStageWrite, if_neg (by omega), hi]
    simp only [Option.map_some, resolveStart_some, hearLink_stagedTable, Option.isNone_some, Bool.false_eq_true,
      if_false, hcancel]
    rw [hws]
    rfl
  obtain ⟨hrep, htouch⟩ := finished_reply (kind := 0x66) (payload := reply) copy hu (by decide) (by decide)
  have hconfig := htouch.config_eq.trans (stageWriteEffect_config reason)
  rw [hcancel, hearLink_config, hearLink_stagedTable] at hconfig
  have hstaged := State.stagedTable_congr (congrArg ConfigUnit.staged htouch.config_eq)
  rw [hu.ownAddress_eq, hearLink_ownAddress] at hrep
  generalize withCopy a.port copy _ = t at hexec hrep htouch hconfig hstaged
  have hreply : reply = [byteAt payload 0] ++ bytes2 (BitVec.ofNat 16 start) ++ [BitVec.ofNat 8 n]
      ++ (if accepted then [0, 0] else if n = 0 ∨ 20 < n then [1, 3] else [1, 4])
      ++ bytes2 (BitVec.ofNat 16 (t.stagedTable i).writeIndex)
      ++ bytes2 (tableCrc (t.stagedTable i).words) ++ [if cancels then 1 else 0] := by
    rw [hstaged, ← verdict_checkAccess i start n]
    simp only [reply, decide_eq_true_eq]
    rfl
  refine ⟨t, hexec, fun hacc => ?_, fun hnot => ?_, fun j hj => ?_, ?_, ?_, by rw [hconfig], by rw [hconfig],
    by rw [hconfig], by rw [hconfig], hreply ▸ hrep, (hu.mono (by decide)).trans (htouch.mono (by decide))⟩
  · have htable : t.stagedTable i = { s.stagedTable i with
        words := placeWords (s.stagedTable i).words start ws, writeIndex := start + ws.length } := by
      rw [State.stagedTable, hconfig]
      simp only [reason, checkAccess_of_fits hacc, Option.isNone_none, if_true]
      exact stagedOf_setStaged_self _ _ _
    obtain ⟨_, hn20, hend⟩ := hacc
    have hlen : (s.stagedTable i).words.length = tableSize i := (hsound.1 i).1
    have hroom : start + ws.length ≤ (s.stagedTable i).words.length := by rw [hws, hlen]; exact hend
    rw [htable]
    refine ⟨by rw [hws], rfl, fun j => ?_, by rw [length_placeWords hroom, hlen]⟩
    rw [placeWords_getD hroom, hws]
    have hn : n = (payload.length - 3) / 2 := rfl
    by_cases hj : start ≤ j ∧ j < start + n
    · rw [if_pos hj, if_pos hj]
      exact payloadWords_drop (by omega)
    · rw [if_neg hj, if_neg hj]
  · rw [State.stagedTable, hconfig]
    simp only [reason, checkAccess_of_not_fits hnot, Option.isNone_some, Bool.false_eq_true, if_false]
    rfl
  · rw [State.stagedTable, hconfig]
    by_cases hnone : reason.isNone = true
    · simp only [hnone, if_true]
      exact stagedOf_setStaged_of_ne hj _
    · simp only [hnone]
      rfl
  · rw [hconfig]
    simp only [decide_eq_true_eq]
  · rw [hconfig]
    simp only [decide_eq_true_eq]


/-! ## STAGE_READ -/

theorem stageReadEffect_refused (table : Option TableId) (start n : Nat) (x : Reason) (s : State) :
    stageReadEffect table start n (some x) s = s := by
  cases table <;> rfl

theorem stageReadEffect_accepted (i : TableId) (start n : Nat) (s : State) :
    stageReadEffect (some i) start n none s = putStaged i { s.stagedTable i with readIndex := start + n } s := rfl

theorem stageReadEffect_config (i : TableId) (start n : Nat) (reason : Option Reason) (s : State) :
    (stageReadEffect (some i) start n reason s).config = { s.config with
      staged := if reason.isNone then setStaged s.config.staged i { s.stagedTable i with readIndex := start + n }
        else s.config.staged } := by
  cases reason <;> rfl

/-- A STAGE_READ of right length taken for a table. -/
theorem stageRead_taken {a : Arrival} {payload : List Byte} {s : State} {i : TableId}
    (hreq : Requested .stageRead s a) (hlen : payload.length = 4)
    (hi : tableOfCode (byteAt payload 0).toNat = some i) :
    let start := if wordAt payload 1 = 0xFFFF then (s.stagedTable i).readIndex
      else (wordAt payload 1).toNat
    let n := (byteAt payload 3).toNat
    let accepted := 1 ≤ n ∧ n ≤ 20 ∧ start + n ≤ tableSize i
    ∃ t, exec (.stageRead a payload) s = .next t
      ∧ t.stagedTable i = (if accepted then { s.stagedTable i with readIndex := start + n }
          else s.stagedTable i)
      ∧ (∀ j, j ≠ i → t.stagedTable j = s.stagedTable j)
      ∧ t.config = { s.config with staged := t.config.staged }
      ∧ Replied a s.ownAddress 0x67
          ([byteAt payload 0] ++ bytes2 (BitVec.ofNat 16 start)
            ++ (if accepted then [0, 0] else if n = 0 ∨ 20 < n then [1, 3] else [1, 4])
            ++ bytes2 (BitVec.ofNat 16 (t.stagedTable i).readIndex)
            ++ (if accepted then (((s.stagedTable i).words.drop start).take n).flatMap bytes2
                else [])) s t
      ∧ Touches [.portA, .portB, .config, .queue .reply, .queue .forward] (hearLink a.port s) t := by
  intro start n accepted
  obtain ⟨copy, hcopy⟩ := receiveRequest_taken .stageRead payload hreq (by omega)
  let reason := checkAccess (some i) start n
  let u := stageReadEffect (some i) start n reason (hearLink a.port s)
  have hu : Touches [.config] (hearLink a.port s) u := stageReadEffect_touches _ _ _ _ (by decide) (Touches.refl _ _)
  have hreported : u.reported = (hearLink a.port s).reported :=
    hu.reported_eq (ha := by rw [stageReadEffect_config]) (hi := by rw [stageReadEffect_config])
  let reply := [byteAt payload 0] ++ bytes2 (BitVec.ofNat 16 start) ++ verdict reason
    ++ bytes2 (BitVec.ofNat 16 (u.stagedTable i).readIndex)
    ++ (stageReadWords (some i) start n reason (hearLink a.port s)).flatMap bytes2
  obtain ⟨hsame, hrep, htouch⟩ := quiet_reply (kind := 0x67) (payload := reply) copy hu (by decide) (by decide)
    hreported
  have hexec : exec (.stageRead a payload) s = .next (withCopy a.port copy (sendReply a 0x67 reply u)) := by
    refine congrArg Host.Outcome.next (hcopy.trans ?_)
    rw [← hsame]
    show withCopy _ _ (finish _ _ (answerStageRead a payload (hearLink a.port s))) = _
    rw [answerStageRead, if_neg (not_not.mpr hlen), hi]
    simp only [Option.map_some, resolveStart_some, hearLink_stagedTable, Option.isNone_some, Bool.false_eq_true,
      if_false]
    rfl
  have hconfig := htouch.config_eq.trans (stageReadEffect_config i start n reason (hearLink a.port s))
  rw [hearLink_config, hearLink_stagedTable] at hconfig
  have hstaged := State.stagedTable_congr (congrArg ConfigUnit.staged htouch.config_eq)
  rw [hu.ownAddress_eq, hearLink_ownAddress] at hrep
  generalize withCopy a.port copy _ = t at hexec hrep htouch hconfig hstaged
  have hreply : reply = [byteAt payload 0] ++ bytes2 (BitVec.ofNat 16 start)
      ++ (if accepted then [0, 0] else if n = 0 ∨ 20 < n then [1, 3] else [1, 4])
      ++ bytes2 (BitVec.ofNat 16 (t.stagedTable i).readIndex)
      ++ (if accepted then (((s.stagedTable i).words.drop start).take n).flatMap bytes2 else []) := by
    have hwords : (stageReadWords (some i) start n reason (hearLink a.port s)).flatMap bytes2
        = if accepted then (((s.stagedTable i).words.drop start).take n).flatMap bytes2 else [] := by
      by_cases hacc : accepted
      · rw [if_pos hacc]
        simp only [reason, checkAccess_of_fits hacc, stageReadWords, hearLink_stagedTable]
      · rw [if_neg hacc]
        simp only [reason, checkAccess_of_not_fits hacc, stageReadWords, List.flatMap_nil]
    rw [hstaged, ← verdict_checkAccess i start n, ← hwords]
  refine ⟨t, hexec, ?_, fun j hj => ?_, ?_, hreply ▸ hrep, (hu.mono (by decide)).trans (htouch.mono (by decide))⟩
  · rw [State.stagedTable, hconfig]
    by_cases hacc : accepted
    · rw [if_pos hacc]
      simp only [reason, checkAccess_of_fits hacc, Option.isNone_none, if_true]
      exact stagedOf_setStaged_self _ _ _
    · rw [if_neg hacc]
      simp only [reason, checkAccess_of_not_fits hacc, Option.isNone_some, Bool.false_eq_true, if_false]
      rfl
  · rw [State.stagedTable, hconfig]
    by_cases hnone : reason.isNone = true
    · simp only [hnone, if_true]
      exact stagedOf_setStaged_of_ne hj _
    · simp only [hnone]
      rfl
  · rw [hconfig]

/-! ## No table named -/

theorem useFree_touched (n : Nat) (s : State) : Touches [.freeCounter] s (useFree n s) :=
  useFree_touches n (by decide) (Touches.refl _ s)

/-- A reply sent after free values are taken, and nothing else. -/
theorem free_reply {a : Arrival} {s : State} (copy : Option Telegram) (n : Nat) (kind : Byte) (payload : List Byte) :
    let t := withCopy a.port copy
      (finish (hearLink a.port s) false (sendReply a kind payload (useFree n (hearLink a.port s))))
    Replied a s.ownAddress kind payload s t
      ∧ Touches [.portA, .portB, .freeCounter, .queue .reply, .queue .forward] (hearLink a.port s) t := by
  have hu := useFree_touched n (hearLink a.port s)
  obtain ⟨hsame, hrep, htouch⟩ := quiet_reply (kind := kind) (payload := payload) copy hu (by decide) (by decide)
    (hu.reported_eq (ha := by rw [hu.config_eq]) (hi := by rw [hu.config_eq]))
  dsimp only
  rw [hsame]
  rw [hu.ownAddress_eq, hearLink_ownAddress] at hrep
  exact ⟨hrep, (hu.mono (by decide)).trans (htouch.mono (by decide))⟩

theorem stageWrite_noTable {a : Arrival} {payload : List Byte} {s : State}
    (hnone : tableOfCode (byteAt payload 0).toNat = none) (hreq : Requested .stageWrite s a)
    (hfits : payload.length ≤ 48) (h3 : 3 ≤ payload.length) (hodd : payload.length % 2 = 1) :
    ∃ t start index crc, exec (.stageWrite a payload) s = .next t
      ∧ (wordAt payload 1 ≠ 0xFFFF → start = wordAt payload 1)
      ∧ Replied a s.ownAddress 0x66
          ([byteAt payload 0] ++ bytes2 start ++ [BitVec.ofNat 8 ((payload.length - 3) / 2)] ++ [1, 2]
            ++ bytes2 index ++ bytes2 crc ++ [0]) s t
      ∧ Touches [.portA, .portB, .freeCounter, .queue .reply, .queue .forward] (hearLink a.port s) t := by
  obtain ⟨copy, hcopy⟩ := receiveRequest_taken .stageWrite payload hreq hfits
  let free := (hearLink a.port s).freeCounter
  let start := resolveStart (wordAt payload 1) none (Config.freeWord free)
  let reply := [byteAt payload 0] ++ bytes2 (BitVec.ofNat 16 start)
    ++ [BitVec.ofNat 8 ((payload.length - 3) / 2)] ++ [1, 2]
    ++ bytes2 (Config.freeWord (free + 1)) ++ bytes2 (Config.freeWord (free + 2)) ++ [0]
  obtain ⟨hrep, htouch⟩ := free_reply (a := a) (s := s) copy 3 0x66 reply
  refine ⟨_, _, _, _, congrArg Host.Outcome.next (hcopy.trans ?_), fun hstart => ?_, hrep, htouch⟩
  · show withCopy _ _ (finish _ _ (answerStageWrite a payload (hearLink a.port s))) = _
    rw [answerStageWrite, if_neg (by omega), hnone]
    simp only [stageWriteEffect_none, length_payloadWords, List.length_drop]
    rfl
  · simp only [start, resolveStart_none _ hstart, BitVec.ofNat_toNat, BitVec.setWidth_eq]

theorem stageRead_noTable {a : Arrival} {payload : List Byte} {s : State}
    (hnone : tableOfCode (byteAt payload 0).toNat = none) (hreq : Requested .stageRead s a)
    (hlen : payload.length = 4) :
    ∃ t start index, exec (.stageRead a payload) s = .next t
      ∧ (wordAt payload 1 ≠ 0xFFFF → start = wordAt payload 1)
      ∧ Replied a s.ownAddress 0x67 ([byteAt payload 0] ++ bytes2 start ++ [1, 2] ++ bytes2 index) s t
      ∧ Touches [.portA, .portB, .freeCounter, .queue .reply, .queue .forward] (hearLink a.port s) t := by
  obtain ⟨copy, hcopy⟩ := receiveRequest_taken .stageRead payload hreq (by omega)
  let free := (hearLink a.port s).freeCounter
  let start := resolveStart (wordAt payload 1) none (Config.freeWord free)
  let reply := [byteAt payload 0] ++ bytes2 (BitVec.ofNat 16 start) ++ [1, 2] ++ bytes2 (Config.freeWord (free + 1))
  obtain ⟨hrep, htouch⟩ := free_reply (a := a) (s := s) copy 2 0x67 reply
  refine ⟨_, _, _, congrArg Host.Outcome.next (hcopy.trans ?_), fun hstart => ?_, hrep, htouch⟩
  · show withCopy _ _ (finish _ _ (answerStageRead a payload (hearLink a.port s))) = _
    rw [answerStageRead, if_neg (not_not.mpr hlen), hnone]
    simp only [reply, checkAccess_none, stageReadEffect_refused, stageReadWords, List.flatMap_nil, List.append_nil]
    rfl
  · simp only [start, resolveStart_none _ hstart, BitVec.ofNat_toNat, BitVec.setWidth_eq]

/-- Settles O46: a table named, or none. -/
theorem stagedTables : Obligations.StagedTables :=
  ⟨fun _ _ _ _ hreq hfits h3 hodd hi hsound => stageWrite_taken hreq hfits h3 hodd hi hsound,
    fun _ _ _ _ hreq hlen hi => stageRead_taken hreq hlen hi,
    fun _ _ _ hnone => ⟨stageWrite_noTable hnone, stageRead_noTable hnone⟩⟩

/-! ## An activation takes effect -/

/-- The state in which the pending set is active, before the blocks are formed anew (R176). -/
def tablesCopied (identity crc : Word) (s : State) : State :=
  s.setConfig { s.config with tables := s.stagedSafety, activeIdentity := identity, activeCrc := crc }

theorem takeEffect_config (identity crc : Word) (s : State) : (takeEffect identity crc s).config
    = { s.config with tables := s.stagedSafety, activeIdentity := identity, activeCrc := crc,
                      activation := .idle, pendingSet := none } := by
  have hkept : Touches [.portA, .portB, .axle, .tracker, .seq, .lamp, .barrier, .cmd, .fault, .queue .command,
      .statusPeriod] (tablesCopied identity crc s) (formSlots (sequenceAfterActivation (reinitialise s.seq.state
        (sectionsInitial (raiseNotice 32 identity.toNat (tablesCopied identity crc s)).detTab
          (sectionStateAtActivation s.seq.state)) (raiseNotice 32 identity.toNat (tablesCopied identity crc s))))) :=
    formSlots_touches (by decide) (sequenceAfterActivation_touches (by decide)
      (reinitialise_touches _ _ (by decide) (raiseNotice_touches _ _ (by decide) (Touches.refl _ _))))
  show { (formSlots _).config with activation := .idle, pendingSet := none } = _
  rw [← tablesCopied, hkept.config_eq]
  rfl

theorem takeEffect_touched (identity crc : Word) (s : State) :
    Touches [.portA, .portB, .axle, .tracker, .seq, .lamp, .barrier, .cmd, .fault, .config, .queue .command,
      .statusPeriod] s (takeEffect identity crc s) :=
  takeEffect_touches identity crc (by decide) (Touches.refl _ s)

theorem activateIfQuiescent_of_quiescent {s : State} {identity crc : Word}
    (h : s.config.activation = .awaitQuiescent) (hp : s.config.pendingSet = some (identity, crc))
    (hq : s.quiescent = true) : activateIfQuiescent s = takeEffect identity crc s := by
  unfold activateIfQuiescent
  rw [h, hp]
  exact if_pos hq

theorem activateIfQuiescent_of_not_quiescent {s : State} (hq : s.quiescent = false) :
    activateIfQuiescent s = s := by
  unfold activateIfQuiescent
  rw [hq]
  split <;> rfl

theorem quiescent_congr {s t : State} (h1 : t.seq = s.seq) (h2 : t.tracker = s.tracker) (h3 : t.axle = s.axle) :
    t.quiescent = s.quiescent := by
  simp only [State.quiescent, h1, h2, h3]

/-! ## CONFIRM -/

theorem checkConfirm_of_idle {s : State} (identity : Word)
    (h : s.config.activation = .idle ∨ s.config.pendingSet = none) :
    checkConfirm s identity = some .nothingPending := by
  unfold checkConfirm
  rcases h with h | h
  · rw [h]
  · rw [h]
    cases s.config.activation <;> rfl

theorem checkConfirm_of_pending {s : State} {identity pid crc : Word} (h : s.config.activation ≠ .idle)
    (hp : s.config.pendingSet = some (pid, crc)) :
    checkConfirm s identity = if identity = pid then none else some .identityMismatch := by
  unfold checkConfirm
  rw [hp]
  cases hact : s.config.activation with
  | idle => exact absurd hact h
  | awaitConfirm => rfl
  | awaitQuiescent => rfl

/-- The state of a pending set confirmed (R175). -/
def confirmed (s : State) : State := s.setConfig { s.config with activation := .awaitQuiescent }

theorem confirmEffect_none (s : State) : confirmEffect none s = activateIfQuiescent (confirmed s) := rfl

section
variable {a : Arrival} {hi lo : Byte} {s : State}

/-- The end of a request that can change the crossing proof. -/
theorem finishedProof_reply {kind : Byte} {payload : List Byte} {u : State} {L : List Block}
    (copy : Option Telegram) (due : Bool) (hu : Touches L (hearLink a.port s) u) (hL : .queue .reply ∉ L)
    (hT : .timebase ∉ L) :
    let t := withCopy a.port copy (finishProof (hearLink a.port s) due (sendReply a kind payload u))
    Replied a u.ownAddress kind payload s t ∧ Touches (.barrier :: answerBlocks) u t := by
  have hend : Touches [.portA, .portB, .barrier, .queue .status, .queue .forward] (sendReply a kind payload u)
      (withCopy a.port copy (finishProof (hearLink a.port s) due (sendReply a kind payload u))) :=
    withCopy_touches _ _ (by decide) (finishProof_touches _ _ (by decide) (Touches.refl _ _))
  exact ⟨replied_of_touches hu hL hT hend (by decide),
    ((sendReply_touched a kind payload u).mono (by decide)).trans (hend.mono (by decide))⟩

/-- A CONFIRM taken: its reply is sent from what its effect leaves. -/
theorem confirm_taken (hreq : Requested .confirm s a) : ∃ copy, exec (.confirm a [hi, lo]) s = .next
    (withCopy a.port copy (finishProof (hearLink a.port s) false (sendReply a 0x62 ([hi, lo]
      ++ verdict (checkConfirm s (hi ++ lo))
      ++ [BitVec.ofNat 8 (activationCode
            (confirmEffect (checkConfirm s (hi ++ lo)) (hearLink a.port s)).config.activation)])
      (confirmEffect (checkConfirm s (hi ++ lo)) (hearLink a.port s))))) := by
  obtain ⟨copy, hcopy⟩ := receiveRequest_taken .confirm [hi, lo] hreq (by simp)
  refine ⟨copy, congrArg Host.Outcome.next (hcopy.trans ?_)⟩
  have hcheck : checkConfirm (hearLink a.port s) (hi ++ lo) = checkConfirm s (hi ++ lo) := by
    simp only [checkConfirm, hearLink_config]
  have hbytes : [hi, lo] = bytes2 (hi ++ lo) := (bytes2_wordOf hi lo).symm
  rw [← hcheck]
  show withCopy _ _ (finishProof _ _ (answerConfirm a [hi, lo] _)) = _
  rw [answerConfirm, if_neg (by simp)]
  show withCopy _ _ (finishProof _ _ (sendReply a 0x62 (bytes2 (hi ++ lo) ++ _ ++ _) _)) = _
  rw [← hbytes]
  rfl

/-- A CONFIRM refused changes nothing but its reply's queue. -/
theorem confirm_refused (hreq : Requested .confirm s a) (hp : ProofSound s) {x : Reason}
    (h : checkConfirm s (hi ++ lo) = some x) : ∃ t, exec (.confirm a [hi, lo]) s = .next t
      ∧ Touches [.portA, .portB, .queue .reply, .queue .forward] (hearLink a.port s) t
      ∧ Replied a s.ownAddress 0x62 ([hi, lo, 1, BitVec.ofNat 8 x.code,
          BitVec.ofNat 8 (activationCode s.config.activation)]) s t := by
  obtain ⟨copy, hexec⟩ := confirm_taken (hi := hi) (lo := lo) hreq
  rw [h, confirmEffect, finishProof_sendReply hp.heard, hearLink_config] at hexec
  obtain ⟨_, hrep, htouch⟩ := quiet_reply (kind := 0x62) (payload := [hi, lo] ++ verdict (some x)
    ++ [BitVec.ofNat 8 (activationCode s.config.activation)]) copy
    (Touches.refl [] (hearLink a.port s)) (by decide) (by decide) rfl
  rw [hearLink_ownAddress] at hrep
  exact ⟨_, hexec, htouch, hrep⟩

end

/-- Settles O49: the check, then the activation state, then quiescence. -/
theorem confirm : Obligations.Confirm := by
  intro a hi lo s hreq hp identity keeps
  refine ⟨fun hnothing => ?_, fun pid crc hact hpend => ⟨fun hne => ?_, fun heq hq => ?_, fun heq hq => ?_⟩⟩
  · obtain ⟨t, hexec, htouch, hrep⟩ := confirm_refused hreq hp (checkConfirm_of_idle (hi ++ lo) hnothing)
    refine ⟨t, hexec, htouch, fun hidle => ?_⟩
    rw [hidle] at hrep
    exact hrep
  · have hcheck := (checkConfirm_of_pending (identity := hi ++ lo) hact hpend).trans (if_neg hne)
    exact confirm_refused hreq hp hcheck
  · have hcheck := (checkConfirm_of_pending (identity := hi ++ lo) hact hpend).trans (if_pos heq)
    obtain ⟨copy, hexec⟩ := confirm_taken (hi := hi) (lo := lo) hreq
    let u := confirmed (hearLink a.port s)
    have hu : Touches [.config] (hearLink a.port s) u := State.setConfig_touches _ (by decide) (Touches.refl _ _)
    have hquiet : activateIfQuiescent u = u := by
      refine activateIfQuiescent_of_not_quiescent ?_
      rw [quiescent_congr (s := s), hq]
      all_goals simp only [u, confirmed, State.setConfig_seq, State.setConfig_tracker, State.setConfig_axle,
        hearLink_seq, hearLink_tracker, hearLink_axle]
    have hsound : ProofSound u := hp.heard.of_touches hu rfl
    have hstill : ∀ payload, finishProof (hearLink a.port s) false (sendReply a 0x62 payload u)
        = finish (hearLink a.port s) false (sendReply a 0x62 payload u) := fun payload => by
      have hT := sendReply_touched a 0x62 payload u
      rw [finishProof, evaluateProof_of_sound (hsound.of_touches hT (by rw [hT.config_eq]))]
    rw [hcheck, confirmEffect_none, hquiet, hstill] at hexec
    obtain ⟨hrep, htouch⟩ := finished_reply (kind := 0x62) (payload := [hi, lo] ++ verdict none
      ++ [BitVec.ofNat 8 (activationCode u.config.activation)]) copy hu (by decide) (by decide)
    rw [hu.ownAddress_eq, hearLink_ownAddress] at hrep
    refine ⟨_, hexec, ?_, hrep, (hu.mono (by decide)).trans (htouch.mono (by decide))⟩
    rw [htouch.config_eq]
    simp only [u, confirmed, State.setConfig_config, hearLink_config]
  · have hcheck := (checkConfirm_of_pending (identity := hi ++ lo) hact hpend).trans (if_pos heq)
    obtain ⟨copy, hexec⟩ := confirm_taken (hi := hi) (lo := lo) hreq
    let u := takeEffect pid crc (confirmed (hearLink a.port s))
    have hu : Touches [.portA, .portB, .axle, .tracker, .seq, .lamp, .barrier, .cmd, .fault, .config, .queue .command,
        .statusPeriod] (hearLink a.port s) u :=
      takeEffect_touches _ _ (by decide) (State.setConfig_touches _ (by decide) (Touches.refl _ _))
    have heffect : activateIfQuiescent (confirmed (hearLink a.port s)) = u := by
      refine activateIfQuiescent_of_quiescent rfl ?_ ?_
      · simp only [confirmed, State.setConfig_config, hearLink_config, hpend]
      · rw [quiescent_congr (s := s), hq]
        all_goals simp only [confirmed, State.setConfig_seq, State.setConfig_tracker, State.setConfig_axle,
          hearLink_seq, hearLink_tracker, hearLink_axle]
    have hconfig : u.config = { s.config with
        tables := s.stagedSafety, activeIdentity := pid, activeCrc := crc,
        activation := .idle, pendingSet := none } := by
      rw [takeEffect_config]
      simp only [confirmed, State.setConfig_config, hearLink_config, State.stagedSafety]
    rw [hcheck, confirmEffect_none, heffect] at hexec
    obtain ⟨hrep, htouch⟩ := finishedProof_reply (kind := 0x62) (payload := [hi, lo] ++ verdict none
      ++ [BitVec.ofNat 8 (activationCode u.config.activation)]) copy false hu (by decide) (by decide)
    rw [hu.ownAddress_eq, hearLink_ownAddress] at hrep
    have hpayload : [hi, lo, 0, 0, 0] = [hi, lo] ++ verdict none
        ++ [BitVec.ofNat 8 (activationCode u.config.activation)] := by rw [hconfig]; rfl
    exact ⟨_, hexec, htouch.config_eq.trans hconfig, by rw [hpayload]; exact hrep,
      (hu.mono (by decide)).trans (htouch.mono (by decide))⟩

end Sys2Proof.Machine
end

section
/-! PROOFS. Fault reports along an operation (sections 7.1 to 7.3): one lemma per operation, saying the reports of which
classes it gives, and what a run of reports keeps. Like the frames of Laws/Frames, each is tagged for simp. -/

namespace Sys2Proof.Machine

/-! ## Runs of reports -/

/-- The flags, the groups and the history are as before. -/
structure SameFlags (s t : State) : Prop where
  active : t.fault.active = s.fault.active
  latched : t.fault.latched = s.fault.latched
  groups : t.fault.groups = s.fault.groups
  history : t.fault.history = s.fault.history
  nextRecord : t.fault.nextRecord = s.fault.nextRecord

/-- What the groups are read of besides the flags is as before (R137). -/
def SameMap (s t : State) : Prop := t.safetyActive = s.safetyActive ∧ t.crTab = s.crTab

/-- From `s` to a state, the fault unit changes by reports of classes in `l` alone; the flag says that the groups are
evaluated wherever they were at the start. -/
inductive Reports (l : List FaultClass) (s : State) : Bool → State → Prop
  | refl (g : Bool) : Reports l s g s
  | other {g : Bool} {t u : State} : Reports l s g t → SameFlags t u → SameMap t u → Reports l s g u
  | remapped {g : Bool} {t u : State} : Reports l s g t → SameFlags t u → Reports l s false u
  | raised {g : Bool} {t : State} (c : FaultClass) (x y : Nat) : c ∈ l → Reports l s g t →
      Reports l s g (raiseFault c x y t)
  | noticed {g : Bool} {t : State} (g' : Bool) (x y : Nat) : .notice ∈ l → Reports l s g t →
      Reports l s g' (raiseNotice x y t)
  | entered {g : Bool} {t : State} (c : FaultClass) (x y : Nat) : c ∈ l → c.bit &&& eventClasses = 0 →
      Reports l s g t → Reports l s g (enterFault c x y t)
  | ended {g : Bool} {t : State} (c : FaultClass) : c ∈ l → Reports l s g t → Reports l s g (endFault c t)
  | regrouped {g : Bool} {t : State} (g' : Bool) : Reports l s g t → Reports l s g' (evaluateGroups t)

theorem SameFlags.of_fault_eq {s t : State} (h : t.fault = s.fault) : SameFlags s t :=
  ⟨by rw [h], by rw [h], by rw [h], by rw [h], by rw [h]⟩

theorem SameMap.of_config {s t : State} (ht : t.config.tables = s.config.tables)
    (hi : t.config.activeIdentity = s.config.activeIdentity) : SameMap s t :=
  ⟨by rw [State.safetyActive, hi]; rfl, by rw [State.crTab, ht]; rfl⟩

theorem Touches.sameMap {L : List Block} {s t : State} (h : Touches L s t) (hL : .config ∉ L := by decide) :
    SameMap s t :=
  .of_config (by rw [h.config_eq hL]) (by rw [h.config_eq hL])

/-! ## What a run of reports keeps -/

section
variable {l : List FaultClass} {s t : State} {g : Bool}

theorem SameFlags.onlyClasses (h : SameFlags s t) : OnlyClasses l s t := fun c _ =>
  ⟨by rw [FaultUnit.isActive, h.active]; rfl, by rw [FaultUnit.isLatched, h.latched]; rfl⟩

theorem raiseNotice_onlyClasses (x y : Nat) (hc : .notice ∈ l) : OnlyClasses l s (raiseNotice x y s) := by
  intro d hd
  have hne : FaultClass.notice ≠ d := by rintro rfl; exact hd hc
  simp [hne]

/-- Reports change the flags of their classes alone. -/
theorem Reports.onlyClasses (h : Reports l s g t) : OnlyClasses l s t := by
  induction h with
  | refl => exact .refl l s
  | other _ hf _ ih => exact ih.trans hf.onlyClasses
  | remapped _ hf ih => exact ih.trans hf.onlyClasses
  | raised c x y hc _ ih => exact raiseFault_onlyClasses x y hc ih
  | noticed _ x y hc _ ih => exact ih.trans (raiseNotice_onlyClasses x y hc)
  | entered c x y hc _ _ ih => exact enterFault_onlyClasses x y hc ih
  | ended c hc _ ih => exact endFault_onlyClasses hc ih
  | regrouped _ _ ih => exact ih

/-- No report takes a latched flag away (R135). -/
theorem Reports.latched_mono (h : Reports l s g t) {c : FaultClass} (hc : s.fault.isLatched c = true) :
    t.fault.isLatched c = true := by
  induction h with
  | refl => exact hc
  | other _ hf _ ih => rwa [FaultUnit.isLatched, hf.latched]
  | remapped _ hf ih => rwa [FaultUnit.isLatched, hf.latched]
  | raised d x y _ _ ih => simp [ih]
  | noticed _ x y _ _ ih => simp [ih]
  | entered d x y _ _ _ ih => exact enterFault_isLatched_mono x y ih
  | ended d _ _ ih => simpa using ih
  | regrouped _ _ ih => exact ih

theorem ofNat_succ_cancel (n : BitVec 16) (k : Nat) :
    n + 1 - BitVec.ofNat 16 (k + 1) = n - BitVec.ofNat 16 k := by
  rw [BitVec.ofNat_add]
  show n + 1 - (BitVec.ofNat 16 k + 1) = _
  exact add_sub_add_right_eq_sub ..

/-- A record with the next number put at the end of a run numbered up to that number (R141, R142). -/
theorem numbered_append {h : List FaultRecord} {n : BitVec 16} {x : FaultRecord}
    (hh : ∀ i r, h[i]? = some r → r.number = n - BitVec.ofNat 16 (h.length - i)) (hx : x.number = n) :
    ∀ i r, (h ++ [x])[i]? = some r → r.number = n + 1 - BitVec.ofNat 16 ((h ++ [x]).length - i) := by
  intro i r hi
  rcases Nat.lt_trichotomy i h.length with hlt | heq | hgt
  · rw [List.getElem?_append_left hlt] at hi
    rw [hh i r hi, List.length_append, List.length_singleton, Nat.sub_add_comm hlt.le, ofNat_succ_cancel]
  · subst heq
    rw [List.getElem?_concat_length] at hi
    obtain rfl := Option.some.inj hi
    rw [hx, List.length_append, List.length_singleton, Nat.add_sub_cancel_left, ofNat_succ_cancel]
    simp
  · rw [List.getElem?_eq_none (by simp; omega)] at hi
    cases hi

theorem numbered_drop {h : List FaultRecord} {n : BitVec 16} (k : Nat)
    (hh : ∀ i r, h[i]? = some r → r.number = n - BitVec.ofNat 16 (h.length - i)) :
    ∀ i r, (h.drop k)[i]? = some r → r.number = n - BitVec.ofNat 16 ((h.drop k).length - i) := by
  intro i r hi
  rw [List.getElem?_drop] at hi
  rw [hh _ r hi, List.length_drop, Nat.sub_sub]

/-- The history with one more record is numbered without gaps up to the next number (R141, R142). -/
theorem historySound_capture {s : State} (h : HistorySound s) (c : FaultClass) (x y : Nat) :
    HistorySound (capture c x y s) := by
  obtain ⟨hlen, hnum⟩ := h
  simp only [HistorySound, capture, State.setFault_fault, pushHistory_eq]
  constructor
  · rw [List.length_append]
    split <;> simp <;> omega
  · split
    · exact numbered_append hnum rfl
    · exact numbered_append (numbered_drop _ hnum) rfl

theorem HistorySound.of_same (h : HistorySound s) (hh : t.fault.history = s.fault.history)
    (hn : t.fault.nextRecord = s.fault.nextRecord) : HistorySound t := by
  rw [HistorySound, hh, hn]
  exact h

theorem raiseFault_historySound (h : HistorySound s) (c : FaultClass) (x y : Nat) :
    HistorySound (raiseFault c x y s) := by
  unfold raiseFault
  split
  · exact h
  · exact (historySound_capture h c x y).of_same rfl rfl

theorem enterFault_historySound (h : HistorySound s) (c : FaultClass) (x y : Nat) :
    HistorySound (enterFault c x y s) := by
  unfold enterFault
  split_ifs
  · exact h
  · exact h.of_same rfl rfl
  · exact (historySound_capture h c x y).of_same rfl rfl

theorem Reports.historySound (h : Reports l s g t) (hs : HistorySound s) : HistorySound t := by
  induction h with
  | refl => exact hs
  | other _ hf _ ih => exact ih.of_same hf.history hf.nextRecord
  | remapped _ hf ih => exact ih.of_same hf.history hf.nextRecord
  | raised c x y _ _ ih => exact raiseFault_historySound ih c x y
  | noticed _ x y _ _ ih => exact (historySound_capture ih .notice x y).of_same rfl rfl
  | entered c x y _ _ _ ih => exact enterFault_historySound ih c x y
  | ended c _ _ ih => exact ih.of_same (endFault_history c _) (endFault_nextRecord c _)
  | regrouped _ _ ih => exact ih.of_same rfl rfl

/-- The flags of R135 without the groups: no event class active, no class active unless latched. -/
def MarksSound (s : State) : Prop :=
  s.fault.active &&& eventClasses = 0 ∧ s.fault.active &&& ~~~s.fault.latched = 0

/-- The groups are as flags and map give them (R137). -/
def GroupsSound (s : State) : Prop :=
  s.fault.groups = groupsOf s.safetyActive s.crTab s.fault.active s.fault.latched

theorem flagsSound_iff (s : State) : FlagsSound s ↔ MarksSound s ∧ GroupsSound s := and_assoc.symm

theorem and_not_eq_zero_iff (x y : BitVec 24) :
    x &&& ~~~y = 0 ↔ ∀ i, i < 24 → x.getLsbD i = true → y.getLsbD i = true := by
  constructor
  · intro h i hi hx
    have hbit := congrArg (BitVec.getLsbD · i) h
    simpa [hi, hx] using hbit
  · intro h
    apply BitVec.eq_of_getLsbD_eq
    intro i hi
    have := h i hi
    cases hx : x.getLsbD i <;> simp_all

/-- A class more latched leaves every active class latched. -/
theorem MarksSound.latch (h : MarksSound s) (ha : t.fault.active = s.fault.active) (x : BitVec 24)
    (hl : t.fault.latched = s.fault.latched ||| x) : MarksSound t := by
  obtain ⟨hevent, hlatched⟩ := h
  rw [MarksSound, ha, hl]
  refine ⟨hevent, (and_not_eq_zero_iff _ _).mpr fun i hi hx => ?_⟩
  rw [BitVec.getLsbD_or, (and_not_eq_zero_iff _ _).mp hlatched i hi hx, Bool.true_or]

/-- A condition class made active and latched. -/
theorem MarksSound.mark (h : MarksSound s) {c : FaultClass} (hc : c.bit &&& eventClasses = 0)
    (ha : t.fault.active = s.fault.active ||| c.bit) (hl : t.fault.latched = s.fault.latched ||| c.bit) :
    MarksSound t := by
  obtain ⟨hevent, hlatched⟩ := h
  rw [MarksSound, ha, hl]
  refine ⟨?_, (and_not_eq_zero_iff _ _).mpr fun i hi hx => ?_⟩
  · rw [BitVec.and_comm, BitVec.and_or_distrib_left, BitVec.and_comm, hevent, BitVec.and_comm, hc]
    rfl
  · rw [BitVec.getLsbD_or] at hx ⊢
    rcases Bool.or_eq_true_iff.mp hx with hx | hx
    · rw [(and_not_eq_zero_iff _ _).mp hlatched i hi hx, Bool.true_or]
    · rw [hx, Bool.or_true]

/-- A class no longer active. -/
theorem MarksSound.unmark (h : MarksSound s) {x : BitVec 24} (ha : t.fault.active = s.fault.active &&& x)
    (hl : t.fault.latched = s.fault.latched) : MarksSound t := by
  obtain ⟨hevent, hlatched⟩ := h
  rw [MarksSound, ha, hl]
  refine ⟨?_, (and_not_eq_zero_iff _ _).mpr fun i hi hx => ?_⟩
  · rw [BitVec.and_assoc, BitVec.and_comm x, ← BitVec.and_assoc, hevent]
    simp
  · rw [BitVec.getLsbD_and, Bool.and_eq_true] at hx
    exact (and_not_eq_zero_iff _ _).mp hlatched i hi hx.1

theorem MarksSound.of_same (h : MarksSound s) (ha : t.fault.active = s.fault.active)
    (hl : t.fault.latched = s.fault.latched) : MarksSound t := by
  rw [MarksSound, ha, hl]
  exact h

theorem enterFault_marksSound (h : MarksSound s) {c : FaultClass} (hc : c.bit &&& eventClasses = 0) (x y : Nat) :
    MarksSound (enterFault c x y s) := by
  cases hact : s.fault.isActive c with
  | true => rwa [enterFault_of_active hact]
  | false => exact h.mark hc (enterFault_active c x y s) (enterFault_latched x y hact)

theorem Reports.marksSound (h : Reports l s g t) (hs : MarksSound s) : MarksSound t := by
  induction h with
  | refl => exact hs
  | other _ hf _ ih => exact ih.of_same hf.active hf.latched
  | remapped _ hf ih => exact ih.of_same hf.active hf.latched
  | raised c x y _ _ ih => exact ih.latch (raiseFault_active c x y _) c.bit (raiseFault_latched c x y _)
  | noticed _ x y _ _ ih => exact ih.latch (raiseNotice_active x y _) _ (raiseNotice_latched x y _)
  | entered c x y _ hc _ ih => exact enterFault_marksSound ih hc x y
  | ended c _ _ ih => exact ih.unmark (endFault_active c _) (endFault_latched c _)
  | regrouped _ _ ih => exact ih

theorem setFlags_groupsSound (x y : BitVec 24) (s : State) : GroupsSound (setFlags x y s) := rfl

theorem raiseFault_groupsSound (h : GroupsSound s) (c : FaultClass) (x y : Nat) :
    GroupsSound (raiseFault c x y s) := by
  unfold raiseFault
  split
  · exact h
  · exact setFlags_groupsSound ..

theorem enterFault_groupsSound (h : GroupsSound s) (c : FaultClass) (x y : Nat) :
    GroupsSound (enterFault c x y s) := by
  unfold enterFault
  split_ifs
  · exact h
  · exact setFlags_groupsSound ..
  · exact setFlags_groupsSound ..

theorem endFault_groupsSound (h : GroupsSound s) (c : FaultClass) : GroupsSound (endFault c s) := by
  unfold endFault
  split
  · exact setFlags_groupsSound ..
  · exact h

/-- Reports keep the groups evaluated, where the flag says that they are (R137). -/
theorem Reports.groupsSound (h : Reports l s g t) (hs : GroupsSound s) (hg : g = true) : GroupsSound t := by
  induction h with
  | refl => exact hs
  | other _ hf hm ih => rw [GroupsSound, hf.groups, hf.active, hf.latched, hm.1, hm.2]; exact ih hg
  | remapped => cases hg
  | raised c x y _ _ ih => exact raiseFault_groupsSound (ih hg) c x y
  | noticed => exact setFlags_groupsSound ..
  | entered c x y _ _ _ ih => exact enterFault_groupsSound (ih hg) c x y
  | ended c _ _ ih => exact endFault_groupsSound (ih hg) c
  | regrouped => rfl

theorem Reports.flagsSound (h : Reports l s true t) (hs : FlagsSound s) : FlagsSound t := by
  rw [flagsSound_iff] at hs ⊢
  exact ⟨h.marksSound hs.1, h.groupsSound hs.2 rfl⟩

end

end Sys2Proof.Machine
end

section
/-! PROOFS. The reports that each operation gives: one lemma per operation, naming its classes. Each is tagged for simp,
as the frames of Laws/Frames are. -/

namespace Sys2Proof.Machine

/-- The condition classes (R133). -/
abbrev conditionClasses : List FaultClass :=
  [.detectorSilent, .detectorHeadFault, .prolongedClosure, .redLampFailed, .roadLightsFailed, .amberLampFailed,
   .lampStuckOn, .lampModuleSilent, .barrierNotDown, .barrierNotUp, .barrierModuleSilent, .crossingObstructed,
   .presenceModuleSilent, .portDown]

theorem bit_and_eventClasses {c : FaultClass} (h : c ∈ conditionClasses) : c.bit &&& eventClasses = 0 := by
  cases c <;> first | rfl | simp at h

section
variable {cls : List FaultClass} {s t u : State} {g : Bool}

/-- An operation on other blocks reports nothing. -/
theorem Reports.frame {L : List Block} (h : Reports cls s g t) (k : Touches L t u)
    (hF : .fault ∉ L := by decide) (hC : .config ∉ L := by decide) : Reports cls s g u :=
  h.other (.of_fault_eq (k.fault_eq hF)) (k.sameMap hC)

theorem Reports.mono {cls' : List FaultClass} (h : Reports cls s g t) (hc : cls ⊆ cls') : Reports cls' s g t := by
  induction h with
  | refl => exact .refl _
  | other _ hf hm ih => exact ih.other hf hm
  | remapped _ hf ih => exact ih.remapped hf
  | raised c x y hl _ ih => exact ih.raised c x y (hc hl)
  | noticed g' x y hl _ ih => exact ih.noticed g' x y (hc hl)
  | entered c x y hl he _ ih => exact ih.entered c x y (hc hl) he
  | ended c hl _ ih => exact ih.ended c (hc hl)
  | regrouped g' _ ih => exact ih.regrouped g'

@[simp] theorem setWindow_reports (x : WindowUnit) (h : Reports cls s g t) : Reports cls s g (t.setWindow x) :=
  h.other (.of_fault_eq rfl) ⟨rfl, rfl⟩

@[simp] theorem setAxle_reports (x : AxleCounter) (h : Reports cls s g t) : Reports cls s g (t.setAxle x) :=
  h.other (.of_fault_eq rfl) ⟨rfl, rfl⟩

@[simp] theorem setTracker_reports (x : Tracker) (h : Reports cls s g t) : Reports cls s g (t.setTracker x) :=
  h.other (.of_fault_eq rfl) ⟨rfl, rfl⟩

@[simp] theorem setSeq_reports (x : Sequencer) (h : Reports cls s g t) : Reports cls s g (t.setSeq x) :=
  h.other (.of_fault_eq rfl) ⟨rfl, rfl⟩

@[simp] theorem setLamp_reports (x : LampSupervisor) (h : Reports cls s g t) : Reports cls s g (t.setLamp x) :=
  h.other (.of_fault_eq rfl) ⟨rfl, rfl⟩

@[simp] theorem setBarrier_reports (x : BarrierSupervisor) (h : Reports cls s g t) :
    Reports cls s g (t.setBarrier x) :=
  h.other (.of_fault_eq rfl) ⟨rfl, rfl⟩

@[simp] theorem setCmd_reports (x : CommandBlock) (h : Reports cls s g t) : Reports cls s g (t.setCmd x) :=
  h.other (.of_fault_eq rfl) ⟨rfl, rfl⟩

@[simp] theorem setPort_reports (p : Port) (x : PortState) (h : Reports cls s g t) :
    Reports cls s g (t.setPort p x) := by
  cases p <;> exact h.other (.of_fault_eq rfl) ⟨rfl, rfl⟩

/-- The status period is none of what reports act on. -/
@[simp] theorem setStatusExpiry_reports (e : Option Time) (h : Reports cls s g t) :
    Reports cls s g (t.setFault { t.fault with statusExpiry := e }) :=
  h.other ⟨rfl, rfl, rfl, rfl, rfl⟩ ⟨rfl, rfl⟩

@[simp] theorem raiseFault_reports (c : FaultClass) (x y : Nat) (hc : c ∈ cls) (h : Reports cls s g t) :
    Reports cls s g (raiseFault c x y t) := h.raised c x y hc

@[simp] theorem raiseNotice_reports (x y : Nat) (hc : .notice ∈ cls) (h : Reports cls s g t) :
    Reports cls s g (raiseNotice x y t) := h.noticed g x y hc

@[simp] theorem enterFault_reports (c : FaultClass) (x y : Nat) (hc : c ∈ cls) (he : c ∈ conditionClasses)
    (h : Reports cls s g t) : Reports cls s g (enterFault c x y t) := h.entered c x y hc (bit_and_eventClasses he)

@[simp] theorem endFault_reports (c : FaultClass) (hc : c ∈ cls) (h : Reports cls s g t) :
    Reports cls s g (endFault c t) := h.ended c hc

@[simp] theorem endFaultUnless_reports (c : FaultClass) (b : Bool) (hc : c ∈ cls) (h : Reports cls s g t) :
    Reports cls s g (endFaultUnless c b t) := by
  unfold endFaultUnless
  split
  · exact h
  · exact h.ended c hc

@[simp] theorem endFaults_reports (cs : List FaultClass) (hl : cs ⊆ cls) (h : Reports cls s g t) :
    Reports cls s g (endFaults cs t) := by
  induction cs generalizing t with
  | nil => exact h
  | cons c rest ih =>
    rw [List.cons_subset] at hl
    exact ih hl.2 (h.ended c hl.1)

@[simp] theorem evaluateGroups_reports (h : Reports cls s g t) : Reports cls s g (evaluateGroups t) :=
  h.regrouped g

@[simp] theorem joinQueue_reports (p : Port) (c : QueueClass) (tel : Telegram) (slot : Option Nat)
    (h : Reports cls s g t) : Reports cls s g (joinQueue p c tel slot t) := setPort_reports p _ h

@[simp] theorem sendReply_reports (a : Arrival) (kind : Byte) (payload : List Byte) (h : Reports cls s g t) :
    Reports cls s g (sendReply a kind payload t) :=
  joinQueue_reports _ _ _ _ h

theorem notThereClass_isCondition (c : BarrierCommand) : notThereClass c ∈ conditionClasses := by
  cases c <;> simp [notThereClass]

theorem notThereClass_mem (c : BarrierCommand) (hd : .barrierNotDown ∈ cls) (hu : .barrierNotUp ∈ cls) :
    notThereClass c ∈ cls := by
  cases c <;> assumption

theorem lampFailClass_isCondition (et : List Word) (l : Nat) : lampFailClass et l ∈ conditionClasses := by
  unfold lampFailClass
  split <;> simp

theorem lampFailClass_mem (et : List Word) (l : Nat) (hr : .redLampFailed ∈ cls) (ha : .amberLampFailed ∈ cls) :
    lampFailClass et l ∈ cls := by
  unfold lampFailClass
  split <;> assumption

@[simp] theorem enterLampFailed_reports (l v : Nat) (was now : LampRecord)
    (hl : [.redLampFailed, .amberLampFailed] ⊆ cls) (h : Reports cls s g t) :
    Reports cls s g (enterLampFailed l v was now t) := by
  unfold enterLampFailed
  split
  · exact enterFault_reports _ _ _ (lampFailClass_mem _ _ (hl (by simp)) (hl (by simp)))
      (lampFailClass_isCondition ..) h
  · exact h

@[simp] theorem enterNotThere_reports (b : Nat) (was now : BarrierRecord)
    (hl : [.barrierNotDown, .barrierNotUp] ⊆ cls) (h : Reports cls s g t) :
    Reports cls s g (enterNotThere b was now t) := by
  unfold enterNotThere
  split
  · exact enterFault_reports _ _ _ (notThereClass_mem _ (hl (by simp)) (hl (by simp)))
      (notThereClass_isCondition _) h
  · exact h

@[simp] theorem portGoesDown_reports (p : Port) (hl : .portDown ∈ cls) (h : Reports cls s g t) :
    Reports cls s g (portGoesDown p t) :=
  enterFault_reports _ _ _ hl (by simp) (setPort_reports p _ h)

@[simp] theorem noticeRoleMismatch_reports (p : Port) (src : Addr) (hl : [.notice] ⊆ cls)
    (h : Reports cls s g t) : Reports cls s g (noticeRoleMismatch p src t) := by
  simp only [List.cons_subset, List.nil_subset, and_true] at hl
  unfold noticeRoleMismatch
  simp (maxDischargeDepth := 40) [*]

@[simp] theorem noticeStranger_reports (p : Port) (src : Addr) (hl : [.notice] ⊆ cls)
    (h : Reports cls s g t) : Reports cls s g (noticeStranger p src t) := by
  simp only [List.cons_subset, List.nil_subset, and_true] at hl
  unfold noticeStranger
  simp (maxDischargeDepth := 40) [*]

@[simp] theorem removeBlock_reports (h : Reports cls s g t) :
    Reports cls s g (removeBlock t) :=
  h.frame (removeBlock_touches (L := [.portA, .portB, .queue .command]) (by decide) (Touches.refl _ t))

@[simp] theorem queueSlot_reports (sl : Slot) (i : Nat) (h : Reports cls s g t) :
    Reports cls s g (queueSlot t sl i) :=
  h.frame (queueSlot_touches (L := [.portA, .portB, .queue .command]) sl i (by decide) (Touches.refl _ t))

@[simp] theorem queueSlots_reports (l : List Slot) (i : Nat) (h : Reports cls s g t) :
    Reports cls s g (queueSlots l i t) :=
  h.frame (queueSlots_touches (L := [.portA, .portB, .queue .command]) l i (by decide) (Touches.refl _ t))

@[simp] theorem startBlock_reports (h : Reports cls s g t) :
    Reports cls s g (startBlock t) :=
  h.frame (startBlock_touches (L := [.portA, .portB, .cmd, .queue .command]) (by decide) (Touches.refl _ t))

@[simp] theorem writeSlot_reports (m : Nat) (c : SlotContent) (h : Reports cls s g t) :
    Reports cls s g (writeSlot m c t) :=
  h.frame (writeSlot_touches (L := [.portA, .portB, .cmd, .queue .command]) m c (by decide) (Touches.refl _ t))

@[simp] theorem refreshBlock_reports (hl : [.commandOverrun] ⊆ cls)
    (h : Reports cls s g t) : Reports cls s g (refreshBlock t) := by
  simp only [List.cons_subset, List.nil_subset, and_true] at hl
  unfold refreshBlock
  (repeat' split) <;> simp (maxDischargeDepth := 40) [*]

@[simp] theorem writeLampSlotsFrom_reports (l : List Nat) (i : Nat) (h : Reports cls s g t) :
    Reports cls s g (writeLampSlotsFrom l i t) :=
  h.frame (writeLampSlotsFrom_touches (L := [.portA, .portB, .cmd, .queue .command]) l i (by decide) (Touches.refl _ t))

@[simp] theorem writeLampSlots_reports (h : Reports cls s g t) :
    Reports cls s g (writeLampSlots t) :=
  h.frame (writeLampSlots_touches (L := [.portA, .portB, .cmd, .queue .command]) (by decide) (Touches.refl _ t))

@[simp] theorem enterRoadLights_reports (side : Nat) (hl : [.roadLightsFailed] ⊆ cls)
    (h : Reports cls s g t) : Reports cls s g (enterRoadLights side t) := by
  simp only [List.cons_subset, List.nil_subset, and_true] at hl
  unfold enterRoadLights
  (repeat' split) <;> simp (maxDischargeDepth := 40) [*]

@[simp] theorem evaluateRoadLights_reports (hl : [.roadLightsFailed] ⊆ cls)
    (h : Reports cls s g t) : Reports cls s g (evaluateRoadLights t) := by
  simp only [List.cons_subset, List.nil_subset, and_true] at hl
  unfold evaluateRoadLights
  simp (maxDischargeDepth := 40) [*]

@[simp] theorem endLampFaults_reports (hl : [.redLampFailed, .amberLampFailed, .lampStuckOn] ⊆ cls)
    (h : Reports cls s g t) : Reports cls s g (endLampFaults t) := by
  simp only [List.cons_subset, List.nil_subset, and_true] at hl
  unfold endLampFaults
  simp (maxDischargeDepth := 40) [*]

@[simp] theorem putLamp_reports (l : Nat) (r : LampRecord) (h : Reports cls s g t) :
    Reports cls s g (putLamp l r t) :=
  h.frame (putLamp_touches (L := [.lamp]) l r (by decide) (Touches.refl _ t))

@[simp] theorem unproveRedLamps_reports (hl : [.redLampFailed, .amberLampFailed, .lampStuckOn] ⊆ cls)
    (h : Reports cls s g t) : Reports cls s g (unproveRedLamps t) := by
  simp only [List.cons_subset, List.nil_subset, and_true] at hl
  unfold unproveRedLamps
  simp (maxDischargeDepth := 40) [*]

@[simp] theorem redBegins_reports (h : Reports cls s g t) :
    Reports cls s g (redBegins t) :=
  h.frame (redBegins_touches (L := [.lamp]) (by decide) (Touches.refl _ t))

@[simp] theorem lampsOnSeqState_reports (hl : [.roadLightsFailed] ⊆ cls)
    (h : Reports cls s g t) : Reports cls s g (lampsOnSeqState t) := by
  simp only [List.cons_subset, List.nil_subset, and_true] at hl
  unfold lampsOnSeqState
  simp (maxDischargeDepth := 40) [*]

@[simp] theorem enterLampStuck_reports (l v : Nat) (was now : LampRecord) (hl : [.lampStuckOn] ⊆ cls)
    (h : Reports cls s g t) : Reports cls s g (enterLampStuck l v was now t) := by
  simp only [List.cons_subset, List.nil_subset, and_true] at hl
  unfold enterLampStuck
  (repeat' split) <;> simp (maxDischargeDepth := 40) [*]

@[simp] theorem judgeLamp_reports (l : Nat) (k : SampleKind) (v : Nat)
    (hl : [.redLampFailed, .amberLampFailed, .lampStuckOn] ⊆ cls)
    (h : Reports cls s g t) : Reports cls s g (judgeLamp l k v t) := by
  simp only [List.cons_subset, List.nil_subset, and_true] at hl
  unfold judgeLamp
  dsimp only
  (repeat' split) <;> simp (maxDischargeDepth := 40) [*]

@[simp] theorem judgeChannel_reports (j c : Nat) (ch : ChannelReport)
    (hl : [.redLampFailed, .amberLampFailed, .lampStuckOn] ⊆ cls)
    (h : Reports cls s g t) : Reports cls s g (judgeChannel j c ch t) := by
  simp only [List.cons_subset, List.nil_subset, and_true] at hl
  unfold judgeChannel
  (repeat' split) <;> simp (maxDischargeDepth := 40) [*]

@[simp] theorem judgeChannels_reports (j : Nat) (l : List ChannelReport)
    (i : Nat) (hl : [.redLampFailed, .amberLampFailed, .lampStuckOn] ⊆ cls)
    (h : Reports cls s g t) : Reports cls s g (judgeChannels j l i t) := by
  simp only [List.cons_subset, List.nil_subset, and_true] at hl
  induction l generalizing t i with
  | nil => exact h
  | cons x xs ih => exact ih _ (by simp (maxDischargeDepth := 40) [*])

@[simp] theorem lampModuleHeard_reports (j timeout : Nat) (hl : [.lampModuleSilent] ⊆ cls)
    (h : Reports cls s g t) : Reports cls s g (lampModuleHeard j timeout t) := by
  simp only [List.cons_subset, List.nil_subset, and_true] at hl
  unfold lampModuleHeard
  dsimp only
  simp (maxDischargeDepth := 40) [*]

@[simp] theorem countRedReport_reports (j : Nat) (h : Reports cls s g t) :
    Reports cls s g (countRedReport j t) :=
  h.frame (countRedReport_touches (L := [.lamp]) j (by decide) (Touches.refl _ t))

@[simp] theorem takeLampReport_reports (j m : Nat) (chs : List ChannelReport) (hl : lampClasses ⊆ cls)
    (h : Reports cls s g t) : Reports cls s g (takeLampReport j m chs t) := by
  have hc := hl
  simp only [lampClasses, List.cons_subset, List.nil_subset, and_true] at hc
  unfold takeLampReport
  simp (maxDischargeDepth := 40) [*]

@[simp] theorem silenceLampModule_reports (j m : Nat) (hl : lampClasses ⊆ cls)
    (h : Reports cls s g t) : Reports cls s g (silenceLampModule j m t) := by
  have hc := hl
  simp only [lampClasses, List.cons_subset, List.nil_subset, and_true] at hc
  unfold silenceLampModule
  dsimp only
  simp (maxDischargeDepth := 40) [*]

@[simp] theorem lampModuleSilence_reports (j : Nat) (hl : lampClasses ⊆ cls)
    (h : Reports cls s g t) : Reports cls s g (lampModuleSilence j t) := by
  have hc := hl
  simp only [lampClasses, List.cons_subset, List.nil_subset, and_true] at hc
  unfold lampModuleSilence
  simp (maxDischargeDepth := 40) [*]

@[simp] theorem putBarrier_reports (b : Nat) (r : BarrierRecord) (h : Reports cls s g t) :
    Reports cls s g (putBarrier b r t) :=
  h.frame (putBarrier_touches (L := [.barrier]) b r (by decide) (Touches.refl _ t))

@[simp] theorem endBarrierFaults_reports (hl : [.barrierNotDown, .barrierNotUp] ⊆ cls)
    (h : Reports cls s g t) : Reports cls s g (endBarrierFaults t) := by
  simp only [List.cons_subset, List.nil_subset, and_true] at hl
  unfold endBarrierFaults
  simp (maxDischargeDepth := 40) [*]

@[simp] theorem changeBarrier_reports (b : Nat) (was now : BarrierRecord) (hl : [.barrierNotDown, .barrierNotUp] ⊆ cls)
    (h : Reports cls s g t) : Reports cls s g (changeBarrier b was now t) := by
  simp only [List.cons_subset, List.nil_subset, and_true] at hl
  unfold changeBarrier
  simp (maxDischargeDepth := 40) [*]

@[simp] theorem giveCommand_reports (c : BarrierCommand) (b : Nat) (hl : [.barrierNotDown, .barrierNotUp] ⊆ cls)
    (h : Reports cls s g t) : Reports cls s g (giveCommand c b t) := by
  simp only [List.cons_subset, List.nil_subset, and_true] at hl
  unfold giveCommand
  (repeat' split) <;> simp (maxDischargeDepth := 40) [*]

@[simp] theorem giveCommands_reports (c : BarrierCommand) (l : List Nat) (hl : [.barrierNotDown, .barrierNotUp] ⊆ cls)
    (h : Reports cls s g t) : Reports cls s g (giveCommands c l t) := by
  simp only [List.cons_subset, List.nil_subset, and_true] at hl
  induction l generalizing t with
  | nil => exact h
  | cons x xs ih => exact ih (by simp (maxDischargeDepth := 40) [*])

@[simp] theorem evaluateProof_reports (h : Reports cls s g t) :
    Reports cls s g (evaluateProof t) :=
  h.frame (evaluateProof_touches (L := [.barrier]) (by decide) (Touches.refl _ t))

@[simp] theorem barrierModuleHeard_reports (j timeout : Nat) (hl : [.barrierModuleSilent] ⊆ cls)
    (h : Reports cls s g t) : Reports cls s g (barrierModuleHeard j timeout t) := by
  simp only [List.cons_subset, List.nil_subset, and_true] at hl
  unfold barrierModuleHeard
  dsimp only
  simp (maxDischargeDepth := 40) [*]

@[simp] theorem takeBarrierReport_reports (j m : Nat)
    (pos : BarrierPosition) (echo : Option BarrierCommand) (hl : barrierClasses ⊆ cls)
    (h : Reports cls s g t) : Reports cls s g (takeBarrierReport j m pos echo t) := by
  have hc := hl
  simp only [barrierClasses, List.cons_subset, List.nil_subset, and_true] at hc
  unfold takeBarrierReport
  dsimp only
  (repeat' split) <;> simp (maxDischargeDepth := 40) [*]

@[simp] theorem expireProof_reports (b : Nat) (hl : [.barrierNotDown, .barrierNotUp] ⊆ cls)
    (h : Reports cls s g t) : Reports cls s g (expireProof b t) := by
  simp only [List.cons_subset, List.nil_subset, and_true] at hl
  unfold expireProof
  (repeat' split) <;> simp (maxDischargeDepth := 40) [*]

@[simp] theorem silenceBarrier_reports (b : Nat) (hl : [.barrierNotDown, .barrierNotUp] ⊆ cls)
    (h : Reports cls s g t) : Reports cls s g (silenceBarrier b t) := by
  simp only [List.cons_subset, List.nil_subset, and_true] at hl
  unfold silenceBarrier
  (repeat' split) <;> simp (maxDischargeDepth := 40) [*]

@[simp] theorem barrierModuleSilence_reports (j : Nat) (hl : barrierClasses ⊆ cls)
    (h : Reports cls s g t) : Reports cls s g (barrierModuleSilence j t) := by
  have hc := hl
  simp only [barrierClasses, List.cons_subset, List.nil_subset, and_true] at hc
  unfold barrierModuleSilence
  dsimp only
  (repeat' split) <;> simp (maxDischargeDepth := 40) [*]

@[simp] theorem holdBarrier_reports (b : Nat) (h : Reports cls s g t) :
    Reports cls s g (holdBarrier b t) :=
  h.frame (holdBarrier_touches (L := [.barrier]) b (by decide) (Touches.refl _ t))

@[simp] theorem holdBarriers_reports (l : List Nat) (h : Reports cls s g t) :
    Reports cls s g (holdBarriers l t) :=
  h.frame (holdBarriers_touches (L := [.barrier]) l (by decide) (Touches.refl _ t))

@[simp] theorem startExitHold_reports (hl : [.barrierNotDown, .barrierNotUp] ⊆ cls)
    (h : Reports cls s g t) : Reports cls s g (startExitHold t) := by
  simp only [List.cons_subset, List.nil_subset, and_true] at hl
  unfold startExitHold
  (repeat' split) <;> simp (maxDischargeDepth := 40) [*]

@[simp] theorem endObstructed_reports (hl : [.crossingObstructed] ⊆ cls)
    (h : Reports cls s g t) : Reports cls s g (endObstructed t) := by
  simp only [List.cons_subset, List.nil_subset, and_true] at hl
  unfold endObstructed
  simp (maxDischargeDepth := 40) [*]

@[simp] theorem releaseBarrier_reports (b : Nat) (hl : [.barrierNotDown, .barrierNotUp] ⊆ cls)
    (h : Reports cls s g t) : Reports cls s g (releaseBarrier b t) := by
  simp only [List.cons_subset, List.nil_subset, and_true] at hl
  unfold releaseBarrier
  (repeat' split) <;> simp (maxDischargeDepth := 40) [*]

@[simp] theorem releaseBarriers_reports (l : List Nat) (hl : [.barrierNotDown, .barrierNotUp] ⊆ cls)
    (h : Reports cls s g t) : Reports cls s g (releaseBarriers l t) := by
  simp only [List.cons_subset, List.nil_subset, and_true] at hl
  induction l generalizing t with
  | nil => exact h
  | cons x xs ih => exact ih (by simp (maxDischargeDepth := 40) [*])

@[simp] theorem takeBackBarrier_reports (b : Nat) (hl : [.barrierNotDown, .barrierNotUp] ⊆ cls)
    (h : Reports cls s g t) : Reports cls s g (takeBackBarrier b t) := by
  simp only [List.cons_subset, List.nil_subset, and_true] at hl
  unfold takeBackBarrier
  (repeat' split) <;> simp (maxDischargeDepth := 40) [*]

@[simp] theorem takeBackBarriers_reports (l : List Nat) (hl : [.barrierNotDown, .barrierNotUp] ⊆ cls)
    (h : Reports cls s g t) : Reports cls s g (takeBackBarriers l t) := by
  simp only [List.cons_subset, List.nil_subset, and_true] at hl
  induction l generalizing t with
  | nil => exact h
  | cons x xs ih => exact ih (by simp (maxDischargeDepth := 40) [*])

@[simp] theorem occupancyChanged_reports (was : Bool) (hl : [.barrierNotDown, .barrierNotUp, .crossingObstructed] ⊆ cls)
    (h : Reports cls s g t) : Reports cls s g (occupancyChanged was t) := by
  simp only [List.cons_subset, List.nil_subset, and_true] at hl
  unfold occupancyChanged
  (repeat' split) <;> simp (maxDischargeDepth := 40) [*]

@[simp] theorem presenceModuleHeard_reports (j timeout : Nat) (v : Presence) (hl : [.presenceModuleSilent] ⊆ cls)
    (h : Reports cls s g t) : Reports cls s g (presenceModuleHeard j timeout v t) := by
  simp only [List.cons_subset, List.nil_subset, and_true] at hl
  unfold presenceModuleHeard
  dsimp only
  simp (maxDischargeDepth := 40) [*]

@[simp] theorem takePresenceReport_reports (j m : Nat) (v : Presence)
    (hl : [.barrierNotDown, .barrierNotUp, .crossingObstructed, .presenceModuleSilent] ⊆ cls)
    (h : Reports cls s g t) : Reports cls s g (takePresenceReport j m v t) := by
  simp only [List.cons_subset, List.nil_subset, and_true] at hl
  unfold takePresenceReport
  simp (maxDischargeDepth := 40) [*]

@[simp] theorem presenceModuleSilence_reports (j : Nat)
    (hl : [.barrierNotDown, .barrierNotUp, .crossingObstructed, .presenceModuleSilent] ⊆ cls)
    (h : Reports cls s g t) : Reports cls s g (presenceModuleSilence j t) := by
  simp only [List.cons_subset, List.nil_subset, and_true] at hl
  unfold presenceModuleSilence
  dsimp only
  simp (maxDischargeDepth := 40) [*]

@[simp] theorem expireExitWait_reports (b : Nat) (hl : [.crossingObstructed] ⊆ cls)
    (h : Reports cls s g t) : Reports cls s g (expireExitWait b t) := by
  simp only [List.cons_subset, List.nil_subset, and_true] at hl
  unfold expireExitWait
  (repeat' split) <;> simp (maxDischargeDepth := 40) [*]

@[simp] theorem clearOverflow_reports (h : Reports cls s g t) :
    Reports cls s g (clearOverflow t) :=
  h.frame (clearOverflow_touches (L := [.tracker]) (by decide) (Touches.refl _ t))

@[simp] theorem warnUnsupervised_reports (h : Reports cls s g t) :
    Reports cls s g (warnUnsupervised t) :=
  h.frame (warnUnsupervised_touches (L := [.tracker]) (by decide) (Touches.refl _ t))

@[simp] theorem enterState_reports (st : SeqState) (hl : [.roadLightsFailed] ⊆ cls)
    (h : Reports cls s g t) : Reports cls s g (enterState st t) := by
  simp only [List.cons_subset, List.nil_subset, and_true] at hl
  unfold enterState
  simp (maxDischargeDepth := 40) [*]

@[simp] theorem setOnset_reports (hl : [.redLampFailed, .amberLampFailed, .lampStuckOn] ⊆ cls)
    (h : Reports cls s g t) : Reports cls s g (setOnset t) := by
  simp only [List.cons_subset, List.nil_subset, and_true] at hl
  unfold setOnset
  simp (maxDischargeDepth := 40) [*]

@[simp] theorem enterAmber_reports (hl : [.redLampFailed, .amberLampFailed, .lampStuckOn, .roadLightsFailed] ⊆ cls)
    (h : Reports cls s g t) : Reports cls s g (enterAmber t) := by
  simp only [List.cons_subset, List.nil_subset, and_true] at hl
  unfold enterAmber
  dsimp only
  simp (maxDischargeDepth := 40) [*]

@[simp] theorem enterRedFlash_reports (hl : [.roadLightsFailed] ⊆ cls)
    (h : Reports cls s g t) : Reports cls s g (enterRedFlash t) := by
  simp only [List.cons_subset, List.nil_subset, and_true] at hl
  unfold enterRedFlash
  dsimp only
  simp (maxDischargeDepth := 40) [*]

@[simp] theorem enterOpen_reports (hl : [.roadLightsFailed] ⊆ cls)
    (h : Reports cls s g t) : Reports cls s g (enterOpen t) := by
  simp only [List.cons_subset, List.nil_subset, and_true] at hl
  unfold enterOpen
  simp (maxDischargeDepth := 40) [*]

@[simp] theorem checkRaised_reports (hl : [.roadLightsFailed] ⊆ cls)
    (h : Reports cls s g t) : Reports cls s g (checkRaised t) := by
  simp only [List.cons_subset, List.nil_subset, and_true] at hl
  unfold checkRaised
  (repeat' split) <;> simp (maxDischargeDepth := 40) [*]

@[simp] theorem clearProlonged_reports (hl : [.prolongedClosure] ⊆ cls)
    (h : Reports cls s g t) : Reports cls s g (clearProlonged t) := by
  simp only [List.cons_subset, List.nil_subset, and_true] at hl
  unfold clearProlonged
  simp (maxDischargeDepth := 40) [*]

@[simp] theorem enterRaising_reports (hl : [.roadLightsFailed, .barrierNotDown, .barrierNotUp, .prolongedClosure] ⊆ cls)
    (h : Reports cls s g t) : Reports cls s g (enterRaising t) := by
  simp only [List.cons_subset, List.nil_subset, and_true] at hl
  unfold enterRaising
  dsimp only
  simp (maxDischargeDepth := 40) [*]

@[simp] theorem reopenDecision_reports
    (hl : [.roadLightsFailed, .barrierNotDown, .barrierNotUp, .prolongedClosure] ⊆ cls)
    (h : Reports cls s g t) : Reports cls s g (reopenDecision t) := by
  simp only [List.cons_subset, List.nil_subset, and_true] at hl
  unfold reopenDecision
  (repeat' split) <;> simp (maxDischargeDepth := 40) [*]

@[simp] theorem enterClosed_reports (hl : [.roadLightsFailed, .barrierNotDown, .barrierNotUp, .prolongedClosure] ⊆ cls)
    (h : Reports cls s g t) : Reports cls s g (enterClosed t) := by
  simp only [List.cons_subset, List.nil_subset, and_true] at hl
  unfold enterClosed
  dsimp only
  (repeat' split) <;> simp (maxDischargeDepth := 40) [*]

@[simp] theorem checkExitLowered_reports
    (hl : [.roadLightsFailed, .barrierNotDown, .barrierNotUp, .prolongedClosure] ⊆ cls)
    (h : Reports cls s g t) : Reports cls s g (checkExitLowered t) := by
  simp only [List.cons_subset, List.nil_subset, and_true] at hl
  unfold checkExitLowered
  (repeat' split) <;> simp (maxDischargeDepth := 40) [*]

@[simp] theorem startExitLowering_reports
    (hl : [.roadLightsFailed, .barrierNotDown, .barrierNotUp, .prolongedClosure] ⊆ cls)
    (h : Reports cls s g t) : Reports cls s g (startExitLowering t) := by
  simp only [List.cons_subset, List.nil_subset, and_true] at hl
  unfold startExitLowering
  simp (maxDischargeDepth := 40) [*]

@[simp] theorem enterExitLowering_reports
    (hl : [.roadLightsFailed, .barrierNotDown, .barrierNotUp, .prolongedClosure] ⊆ cls)
    (h : Reports cls s g t) : Reports cls s g (enterExitLowering t) := by
  simp only [List.cons_subset, List.nil_subset, and_true] at hl
  unfold enterExitLowering
  dsimp only
  (repeat' split) <;> simp (maxDischargeDepth := 40) [*]

@[simp] theorem checkEntryLowered_reports
    (hl : [.roadLightsFailed, .barrierNotDown, .barrierNotUp, .prolongedClosure] ⊆ cls)
    (h : Reports cls s g t) : Reports cls s g (checkEntryLowered t) := by
  simp only [List.cons_subset, List.nil_subset, and_true] at hl
  unfold checkEntryLowered
  (repeat' split) <;> simp (maxDischargeDepth := 40) [*]

@[simp] theorem enterEntryLowering_reports
    (hl : [.roadLightsFailed, .barrierNotDown, .barrierNotUp, .prolongedClosure] ⊆ cls)
    (h : Reports cls s g t) : Reports cls s g (enterEntryLowering t) := by
  simp only [List.cons_subset, List.nil_subset, and_true] at hl
  unfold enterEntryLowering
  simp (maxDischargeDepth := 40) [*]

@[simp] theorem leaveRedFlash_reports
    (hl : [.roadLightsFailed, .barrierNotDown, .barrierNotUp, .prolongedClosure] ⊆ cls)
    (h : Reports cls s g t) : Reports cls s g (leaveRedFlash t) := by
  simp only [List.cons_subset, List.nil_subset, and_true] at hl
  unfold leaveRedFlash
  simp (maxDischargeDepth := 40) [*]

@[simp] theorem relower_reports (hl : sequenceClasses ⊆ cls)
    (h : Reports cls s g t) : Reports cls s g (relower t) := by
  have hc := hl
  simp only [sequenceClasses, List.cons_subset, List.nil_subset, and_true] at hc
  unfold relower
  simp (maxDischargeDepth := 40) [*]

@[simp] theorem checkProlonged_reports (hl : [.prolongedClosure] ⊆ cls)
    (h : Reports cls s g t) : Reports cls s g (checkProlonged t) := by
  simp only [List.cons_subset, List.nil_subset, and_true] at hl
  unfold checkProlonged
  (repeat' split) <;> simp (maxDischargeDepth := 40) [*]

@[simp] theorem actOnDemand_reports (hl : sequenceClasses ⊆ cls)
    (h : Reports cls s g t) : Reports cls s g (actOnDemand t) := by
  have hc := hl
  simp only [sequenceClasses, List.cons_subset, List.nil_subset, and_true] at hc
  unfold actOnDemand
  (repeat' split) <;> simp (maxDischargeDepth := 40) [*]

@[simp] theorem react_reports (hl : sequenceClasses ⊆ cls)
    (h : Reports cls s g t) : Reports cls s g (react t) := by
  have hc := hl
  simp only [sequenceClasses, List.cons_subset, List.nil_subset, and_true] at hc
  unfold react
  simp (maxDischargeDepth := 40) [*]

@[simp] theorem barrierResolved_reports
    (hl : [.roadLightsFailed, .barrierNotDown, .barrierNotUp, .prolongedClosure] ⊆ cls)
    (h : Reports cls s g t) : Reports cls s g (barrierResolved t) := by
  simp only [List.cons_subset, List.nil_subset, and_true] at hl
  unfold barrierResolved
  (repeat' split) <;> simp (maxDischargeDepth := 40) [*]

@[simp] theorem tellEndedProofs_reports (before : State)
    (hl : [.roadLightsFailed, .barrierNotDown, .barrierNotUp, .prolongedClosure] ⊆ cls)
    (h : Reports cls s g t) : Reports cls s g (tellEndedProofs before t) := by
  simp only [List.cons_subset, List.nil_subset, and_true] at hl
  unfold tellEndedProofs
  (repeat' split) <;> simp (maxDischargeDepth := 40) [*]

@[simp] theorem leaveInitSafe_reports (hl : sequenceClasses ⊆ cls)
    (h : Reports cls s g t) : Reports cls s g (leaveInitSafe t) := by
  have hc := hl
  simp only [sequenceClasses, List.cons_subset, List.nil_subset, and_true] at hc
  unfold leaveInitSafe
  dsimp only
  simp (maxDischargeDepth := 40) [*]

@[simp] theorem longClosureReached_reports (hl : [.prolongedClosure] ⊆ cls)
    (h : Reports cls s g t) : Reports cls s g (longClosureReached t) := by
  simp only [List.cons_subset, List.nil_subset, and_true] at hl
  unfold longClosureReached
  dsimp only
  (repeat' split) <;> simp (maxDischargeDepth := 40) [*]

@[simp] theorem statusDue_reports (h : Reports cls s g t) :
    Reports cls s g (statusDue t) :=
  h.frame (statusDue_touches (L := [.portA, .portB, .queue .status]) (by decide) (Touches.refl _ t))

@[simp] theorem finish_reports (before : State) (due : Bool) (h : Reports cls s g t) :
    Reports cls s g (finish before due t) :=
  h.frame (finish_touches (L := [.portA, .portB, .queue .status]) before due (by decide) (Touches.refl _ t))

@[simp] theorem handPassageReport_reports (o : PassageOutcome)
    (r : TrainRecord) (hl : [.notice] ⊆ cls)
    (h : Reports cls s g t) : Reports cls s g (handPassageReport o r t) := by
  simp only [List.cons_subset, List.nil_subset, and_true] at hl
  unfold handPassageReport
  dsimp only
  (repeat' split) <;> simp (maxDischargeDepth := 40) [*]

@[simp] theorem speedStages_reports (w : WheelPassage) (creation : Bool)
    (r : TrainRecord) (hl : [.overspeed] ⊆ cls)
    (h : Reports cls s g t) : Reports cls s g (speedStages w creation r t).2 := by
  simp only [List.cons_subset, List.nil_subset, and_true] at hl
  unfold speedStages
  dsimp only
  (repeat' split) <;> simp (maxDischargeDepth := 40) [*]

@[simp] theorem judgePredicted_reports (tPass : Time) (tWorst : Nat)
    (r : TrainRecord) (hl : [.shortWarning] ⊆ cls)
    (h : Reports cls s g t) : Reports cls s g (judgePredicted tPass tWorst r t).2 := by
  simp only [List.cons_subset, List.nil_subset, and_true] at hl
  unfold judgePredicted
  dsimp only
  (repeat' split) <;> simp (maxDischargeDepth := 40) [*]

@[simp] theorem scheduleCall_reports (w : WheelPassage) (creation : Bool)
    (r : TrainRecord) (hl : [.shortWarning, .overspeed] ⊆ cls)
    (h : Reports cls s g t) : Reports cls s g (scheduleCall w creation r t).2 := by
  simp only [List.cons_subset, List.nil_subset, and_true] at hl
  unfold scheduleCall
  dsimp only
  simp (maxDischargeDepth := 40) [*]

@[simp] theorem checkCall_reports (w : WheelPassage) (r : TrainRecord) (hl : [.overspeed] ⊆ cls)
    (h : Reports cls s g t) : Reports cls s g (checkCall w r t).2 := by
  simp only [List.cons_subset, List.nil_subset, and_true] at hl
  unfold checkCall
  simp (maxDischargeDepth := 40) [*]

@[simp] theorem judgeAchieved_reports (achieved : Nat) (r : TrainRecord) (hl : [.shortWarning, .longWarning] ⊆ cls)
    (h : Reports cls s g t) : Reports cls s g (judgeAchieved achieved r t).2 := by
  simp only [List.cons_subset, List.nil_subset, and_true] at hl
  unfold judgeAchieved
  dsimp only
  (repeat' split) <;> simp (maxDischargeDepth := 40) [*]

@[simp] theorem islandCall_reports (w : WheelPassage) (creation : Bool)
    (r : TrainRecord) (hl : [.shortWarning, .longWarning, .overspeed] ⊆ cls)
    (h : Reports cls s g t) : Reports cls s g (islandCall w creation r t).2 := by
  simp only [List.cons_subset, List.nil_subset, and_true] at hl
  unfold islandCall
  dsimp only
  (repeat' split) <;> simp (maxDischargeDepth := 40) [*]

@[simp] theorem putRecord_reports (i : Nat) (r : TrainRecord) (h : Reports cls s g t) :
    Reports cls s g (putRecord i r t) :=
  h.frame (putRecord_touches (L := [.tracker]) i r (by decide) (Touches.refl _ t))

@[simp] theorem checkRetirement_reports (i : Nat) (hl : [.notice] ⊆ cls)
    (h : Reports cls s g t) : Reports cls s g (checkRetirement i t) := by
  simp only [List.cons_subset, List.nil_subset, and_true] at hl
  unfold checkRetirement
  dsimp only
  (repeat' split) <;> simp (maxDischargeDepth := 40) [*]

@[simp] theorem setOverflow_reports (a detail : Nat) (hl : [.trainTableFull] ⊆ cls)
    (h : Reports cls s g t) : Reports cls s g (setOverflow a detail t) := by
  simp only [List.cons_subset, List.nil_subset, and_true] at hl
  unfold setOverflow
  (repeat' split) <;> simp (maxDischargeDepth := 40) [*]

@[simp] theorem creationCall_reports (w : WheelPassage) (r : TrainRecord)
    (hl : [.shortWarning, .longWarning, .overspeed] ⊆ cls)
    (h : Reports cls s g t) : Reports cls s g (creationCall w r t).2 := by
  simp only [List.cons_subset, List.nil_subset, and_true] at hl
  unfold creationCall
  (repeat' split) <;> simp (maxDischargeDepth := 40) [*]

@[simp] theorem createRecord_reports (a : Nat) (w : WheelPassage) (hl : [.shortWarning, .longWarning, .overspeed] ⊆ cls)
    (h : Reports cls s g t) : Reports cls s g (createRecord a w t) := by
  simp only [List.cons_subset, List.nil_subset, and_true] at hl
  unfold createRecord
  dsimp only
  simp (maxDischargeDepth := 40) [*]

@[simp] theorem joinRecord_reports (i : Nat) (r : TrainRecord)
    (w : WheelPassage) (h : Reports cls s g t) :
    Reports cls s g (joinRecord i r w t) :=
  h.frame (joinRecord_touches (L := [.tracker]) i r w (by decide) (Touches.refl _ t))

@[simp] theorem mergeRecord_reports (i : Nat) (r : TrainRecord)
    (w : WheelPassage) (hl : [.shortWarning, .overspeed] ⊆ cls)
    (h : Reports cls s g t) : Reports cls s g (mergeRecord i r w t) := by
  simp only [List.cons_subset, List.nil_subset, and_true] at hl
  unfold mergeRecord
  dsimp only
  (repeat' split) <;> simp (maxDischargeDepth := 40) [*]

@[simp] theorem strikeIn_reports (a : Nat) (w : WheelPassage)
    (hl : [.trainTableFull, .shortWarning, .longWarning, .overspeed] ⊆ cls)
    (h : Reports cls s g t) : Reports cls s g (strikeIn a w t).1 := by
  simp only [List.cons_subset, List.nil_subset, and_true] at hl
  unfold strikeIn
  (repeat' split) <;> simp (maxDischargeDepth := 40) [*]

@[simp] theorem headCall_reports (w : WheelPassage) (k ke : Nat)
    (r : TrainRecord) (hl : [.shortWarning, .longWarning, .overspeed] ⊆ cls)
    (h : Reports cls s g t) : Reports cls s g (headCall w k ke r t).2 := by
  simp only [List.cons_subset, List.nil_subset, and_true] at hl
  unfold headCall
  (repeat' split) <;> simp (maxDischargeDepth := 40) [*]

@[simp] theorem headPassage_reports (w : WheelPassage) (k ke : Nat)
    (r : TrainRecord) (hl : [.shortWarning, .longWarning, .overspeed] ⊆ cls)
    (h : Reports cls s g t) : Reports cls s g (headPassage w k ke r t).2 := by
  simp only [List.cons_subset, List.nil_subset, and_true] at hl
  unfold headPassage
  dsimp only
  simp (maxDischargeDepth := 40) [*]

@[simp] theorem takeInward_reports (i k : Nat) (w : WheelPassage)
    (hl : [.notice, .shortWarning, .longWarning, .overspeed] ⊆ cls)
    (h : Reports cls s g t) : Reports cls s g (takeInward i k w t) := by
  simp only [List.cons_subset, List.nil_subset, and_true] at hl
  unfold takeInward
  dsimp only
  (repeat' split) <;> simp (maxDischargeDepth := 40) [*]

@[simp] theorem innerWheel_reports (a k : Nat) (w : WheelPassage)
    (hl : [.notice, .shortWarning, .longWarning, .overspeed] ⊆ cls)
    (h : Reports cls s g t) : Reports cls s g (innerWheel a k w t).1 := by
  simp only [List.cons_subset, List.nil_subset, and_true] at hl
  unfold innerWheel
  (repeat' split) <;> simp (maxDischargeDepth := 40) [*]

@[simp] theorem takeOutward_reports (i k : Nat) (hl : [.notice] ⊆ cls)
    (h : Reports cls s g t) : Reports cls s g (takeOutward i k t) := by
  simp only [List.cons_subset, List.nil_subset, and_true] at hl
  unfold takeOutward
  (repeat' split) <;> simp (maxDischargeDepth := 40) [*]

@[simp] theorem outwardWheel_reports (a k : Nat) (hl : [.notice] ⊆ cls)
    (h : Reports cls s g t) : Reports cls s g (outwardWheel a k t).1 := by
  simp only [List.cons_subset, List.nil_subset, and_true] at hl
  unfold outwardWheel
  (repeat' split) <;> simp (maxDischargeDepth := 40) [*]

@[simp] theorem unattributed_reports (w : WheelPassage) (hl : [.unexpectedWheel] ⊆ cls)
    (h : Reports cls s g t) : Reports cls s g (unattributed w t) := by
  simp only [List.cons_subset, List.nil_subset, and_true] at hl
  unfold unattributed
  (repeat' split) <;> simp (maxDischargeDepth := 40) [*]

@[simp] theorem offerOutward_reports (w : WheelPassage) (hl : [.notice, .unexpectedWheel] ⊆ cls)
    (h : Reports cls s g t) : Reports cls s g (offerOutward w t) := by
  simp only [List.cons_subset, List.nil_subset, and_true] at hl
  unfold offerOutward
  dsimp only
  (repeat' split) <;> simp (maxDischargeDepth := 40) [*]

@[simp] theorem attributeWheel_reports (w : WheelPassage)
    (hl : [.unexpectedWheel, .trainTableFull, .shortWarning, .longWarning, .overspeed, .notice] ⊆ cls)
    (h : Reports cls s g t) : Reports cls s g (attributeWheel w t) := by
  simp only [List.cons_subset, List.nil_subset, and_true] at hl
  unfold attributeWheel
  dsimp only
  (repeat' split) <;> simp (maxDischargeDepth := 40) [*]

@[simp] theorem trackWheel_reports (w : WheelPassage)
    (hl : ([.unexpectedWheel, .trainTableFull, .shortWarning, .longWarning, .overspeed, .notice] ++ sequenceClasses) ⊆ cls)
    (h : Reports cls s g t) : Reports cls s g (trackWheel w t) := by
  obtain ⟨hown, hseq⟩ := List.append_subset.mp hl
  simp only [List.cons_subset, List.nil_subset, and_true] at hown
  unfold trackWheel
  simp (maxDischargeDepth := 40) [*]

@[simp] theorem closeEntry_reports (i : Nat) (hl : (.notice :: sequenceClasses) ⊆ cls)
    (h : Reports cls s g t) : Reports cls s g (closeEntry i t) := by
  rw [List.cons_subset] at hl
  unfold closeEntry
  (repeat' split) <;> simp (maxDischargeDepth := 40) [*]

@[simp] theorem startReached_reports (i : Nat) (hl : sequenceClasses ⊆ cls)
    (h : Reports cls s g t) : Reports cls s g (startReached i t) := by
  have hc := hl
  simp only [sequenceClasses, List.cons_subset, List.nil_subset, and_true] at hc
  unfold startReached
  (repeat' split) <;> simp (maxDischargeDepth := 40) [*]

@[simp] theorem changeSection_reports (trk n : Nat)
    (f : TrackSection → TrackSection) (h : Reports cls s g t) :
    Reports cls s g (changeSection trk n f t) :=
  h.frame (changeSection_touches (L := [.axle]) trk n f (by decide) (Touches.refl _ t))

@[simp] theorem disturbSections_reports (trk : Nat) (l : List Nat) (h : Reports cls s g t) :
    Reports cls s g (disturbSections trk l t) :=
  h.frame (disturbSections_touches (L := [.axle]) trk l (by decide) (Touches.refl _ t))

@[simp] theorem disturbAdjacent_reports (d : Nat) (h : Reports cls s g t) :
    Reports cls s g (disturbAdjacent d t) :=
  h.frame (disturbAdjacent_touches (L := [.axle]) d (by decide) (Touches.refl _ t))

@[simp] theorem countOut_reports (d : Nat) (n : Option Nat) (hl : [.countUnderflow] ⊆ cls)
    (h : Reports cls s g t) : Reports cls s g (countOut d n t) := by
  simp only [List.cons_subset, List.nil_subset, and_true] at hl
  unfold countOut
  dsimp only
  (repeat' split) <;> simp (maxDischargeDepth := 40) [*]

@[simp] theorem countIn_reports (d : Nat) (n : Option Nat) (hl : [.countOverflow] ⊆ cls)
    (h : Reports cls s g t) : Reports cls s g (countIn d n t) := by
  simp only [List.cons_subset, List.nil_subset, and_true] at hl
  unfold countIn
  dsimp only
  (repeat' split) <;> simp (maxDischargeDepth := 40) [*]

@[simp] theorem moveAxle_reports (d : Nat) (dir : Direction) (hl : [.countUnderflow, .countOverflow] ⊆ cls)
    (h : Reports cls s g t) : Reports cls s g (moveAxle d dir t) := by
  simp only [List.cons_subset, List.nil_subset, and_true] at hl
  unfold moveAxle
  simp (maxDischargeDepth := 40) [*]

@[simp] theorem putDetector_reports (d : Nat) (r : DetectorRecord) (h : Reports cls s g t) :
    Reports cls s g (putDetector d r t) :=
  h.frame (putDetector_touches (L := [.axle]) d r (by decide) (Touches.refl _ t))

@[simp] theorem endDetectorFaults_reports (hl : [.detectorSilent, .detectorHeadFault] ⊆ cls)
    (h : Reports cls s g t) : Reports cls s g (endDetectorFaults t) := by
  simp only [List.cons_subset, List.nil_subset, and_true] at hl
  unfold endDetectorFaults
  simp (maxDischargeDepth := 40) [*]

@[simp] theorem enterDetectorFault_reports (d : Nat) (c : DetectorCause)
    (hl : [.detectorSilent, .detectorHeadFault] ⊆ cls)
    (h : Reports cls s g t) : Reports cls s g (enterDetectorFault d c t) := by
  simp only [List.cons_subset, List.nil_subset, and_true] at hl
  unfold enterDetectorFault
  (repeat' split) <;> simp (maxDischargeDepth := 40) [*]

@[simp] theorem failDetector_reports (d : Nat) (c : DetectorCause)
    (r : DetectorRecord) (hl : ([.detectorSilent, .detectorHeadFault] ++ sequenceClasses) ⊆ cls)
    (h : Reports cls s g t) : Reports cls s g (failDetector d c r t) := by
  obtain ⟨hown, hseq⟩ := List.append_subset.mp hl
  simp only [List.cons_subset, List.nil_subset, and_true] at hown
  unfold failDetector
  dsimp only
  (repeat' split) <;> simp (maxDischargeDepth := 40) [*]

@[simp] theorem passDetector_reports (d : Nat) (r : DetectorRecord)
    (hl : ([.detectorSilent, .detectorHeadFault] ++ sequenceClasses) ⊆ cls)
    (h : Reports cls s g t) : Reports cls s g (passDetector d r t) := by
  obtain ⟨hown, hseq⟩ := List.append_subset.mp hl
  simp only [List.cons_subset, List.nil_subset, and_true] at hown
  unfold passDetector
  simp (maxDischargeDepth := 40) [*]

@[simp] theorem sequenceGap_reports (d : Nat) (x y : Byte) (hl : (.wheelLoss :: sequenceClasses) ⊆ cls)
    (h : Reports cls s g t) : Reports cls s g (sequenceGap d x y t) := by
  rw [List.cons_subset] at hl
  unfold sequenceGap
  simp (maxDischargeDepth := 40) [*]

@[simp] theorem gapEffect_reports (d : Nat) (gap : Option Byte) (y : Byte) (hl : (.wheelLoss :: sequenceClasses) ⊆ cls)
    (h : Reports cls s g t) : Reports cls s g (gapEffect d gap y t) := by
  rw [List.cons_subset] at hl
  unfold gapEffect
  (repeat' split) <;> simp (maxDischargeDepth := 40) [*]

@[simp] theorem moveWheel_reports (d : Nat) (dir : Direction)
    (hl : ([.countUnderflow, .countOverflow] ++ sequenceClasses) ⊆ cls)
    (h : Reports cls s g t) : Reports cls s g (moveWheel d dir t) := by
  obtain ⟨hown, hseq⟩ := List.append_subset.mp hl
  simp only [List.cons_subset, List.nil_subset, and_true] at hown
  unfold moveWheel
  simp (maxDischargeDepth := 40) [*]

@[simp] theorem countWheel_reports (d : Nat) (r : DetectorRecord)
    (o i : Nat) (q : Byte) (hl : ([.wheelLoss, .countUnderflow, .countOverflow] ++ sequenceClasses) ⊆ cls)
    (h : Reports cls s g t) : Reports cls s g (countWheel d r o i q t).2 := by
  obtain ⟨hown, hseq⟩ := List.append_subset.mp hl
  simp only [List.cons_subset, List.nil_subset, and_true] at hown
  unfold countWheel
  dsimp only
  simp (maxDischargeDepth := 40) [*]

@[simp] theorem takeWheel_reports (d : Nat) (r : DetectorRecord)
    (o i : Nat) (q : Byte) (hl : (wheelClasses ++ sequenceClasses) ⊆ cls)
    (h : Reports cls s g t) : Reports cls s g (takeWheel d r o i q t) := by
  obtain ⟨hown, hseq⟩ := List.append_subset.mp hl
  have hc := hown
  simp only [wheelClasses, List.cons_subset, List.nil_subset, and_true] at hc
  unfold takeWheel
  dsimp only
  simp (maxDischargeDepth := 40) [*]

@[simp] theorem takeHeartbeat_reports (d : Nat) (r : DetectorRecord)
    (q : Byte) (good : Bool) (hl : ([.detectorSilent, .detectorHeadFault, .wheelLoss] ++ sequenceClasses) ⊆ cls)
    (h : Reports cls s g t) : Reports cls s g (takeHeartbeat d r q good t) := by
  obtain ⟨hown, hseq⟩ := List.append_subset.mp hl
  simp only [List.cons_subset, List.nil_subset, and_true] at hown
  unfold takeHeartbeat
  dsimp only
  (repeat' split) <;> simp (maxDischargeDepth := 40) [*]

@[simp] theorem detectorSilent_reports (d : Nat) (r : DetectorRecord)
    (hl : ([.detectorSilent, .detectorHeadFault] ++ sequenceClasses) ⊆ cls)
    (h : Reports cls s g t) : Reports cls s g (detectorSilent d r t) := by
  obtain ⟨hown, hseq⟩ := List.append_subset.mp hl
  simp only [List.cons_subset, List.nil_subset, and_true] at hown
  unfold detectorSilent
  simp (maxDischargeDepth := 40) [*]

@[simp] theorem wheelReport_reports (d : Nat) (payload : List Byte) (hl : (wheelClasses ++ sequenceClasses) ⊆ cls)
    (h : Reports cls s g t) : Reports cls s g (wheelReport d payload t) := by
  obtain ⟨hown, hseq⟩ := List.append_subset.mp hl
  have hc := hown
  simp only [wheelClasses, List.cons_subset, List.nil_subset, and_true] at hc
  unfold wheelReport
  (repeat' split) <;> simp (maxDischargeDepth := 40) [*]

@[simp] theorem heartbeatReport_reports (d : Nat) (payload : List Byte)
    (hl : ([.detectorSilent, .detectorHeadFault, .wheelLoss] ++ sequenceClasses) ⊆ cls)
    (h : Reports cls s g t) : Reports cls s g (heartbeatReport d payload t) := by
  obtain ⟨hown, hseq⟩ := List.append_subset.mp hl
  simp only [List.cons_subset, List.nil_subset, and_true] at hown
  unfold heartbeatReport
  (repeat' split) <;> simp (maxDischargeDepth := 40) [*]

@[simp] theorem restoreSection_reports (trk n : Nat) (st : SectionState) (h : Reports cls s g t) :
    Reports cls s g (restoreSection trk n st t) :=
  h.frame (restoreSection_touches (L := [.axle]) trk n st (by decide) (Touches.refl _ t))

@[simp] theorem restoreSweepAccepted_reports (trk n : Nat) (hl : sequenceClasses ⊆ cls)
    (h : Reports cls s g t) : Reports cls s g (restoreSweepAccepted trk n t) := by
  have hc := hl
  simp only [sequenceClasses, List.cons_subset, List.nil_subset, and_true] at hc
  unfold restoreSweepAccepted
  simp (maxDischargeDepth := 40) [*]

@[simp] theorem restoreDirectAccepted_reports (trk n : Nat) (hl : (.notice :: sequenceClasses) ⊆ cls)
    (h : Reports cls s g t) : Reports cls s g (restoreDirectAccepted trk n t) := by
  rw [List.cons_subset] at hl
  unfold restoreDirectAccepted
  simp (maxDischargeDepth := 40) [*]

@[simp] theorem restoreAccepted_reports (m : RestoreMode) (trk n : Nat) (hl : (.notice :: sequenceClasses) ⊆ cls)
    (h : Reports cls s g t) : Reports cls s g (restoreAccepted m trk n t) := by
  rw [List.cons_subset] at hl
  unfold restoreAccepted
  (repeat' split) <;> simp (maxDischargeDepth := 40) [*]

@[simp] theorem formSlots_reports (h : Reports cls s g t) :
    Reports cls s g (formSlots t) :=
  h.frame (formSlots_touches (L := [.portA, .portB, .cmd, .queue .command]) (by decide) (Touches.refl _ t))

@[simp] theorem discardRecords_reports (h : Reports cls s g t) :
    Reports cls s g (discardRecords t) :=
  h.frame (discardRecords_touches (L := [.tracker]) (by decide) (Touches.refl _ t))

@[simp] theorem stopBlock_reports (h : Reports cls s g t) :
    Reports cls s g (stopBlock t) :=
  h.frame (stopBlock_touches (L := [.portA, .portB, .cmd, .queue .command]) (by decide) (Touches.refl _ t))

@[simp] theorem sequenceAfterActivation_reports (hl : sequenceClasses ⊆ cls)
    (h : Reports cls s g t) : Reports cls s g (sequenceAfterActivation t) := by
  have hc := hl
  simp only [sequenceClasses, List.cons_subset, List.nil_subset, and_true] at hc
  unfold sequenceAfterActivation
  (repeat' split) <;> simp (maxDischargeDepth := 40) [*]

@[simp] theorem finishProof_reports (before : State) (due : Bool) (h : Reports cls s g t) :
    Reports cls s g (finishProof before due t) :=
  h.frame (finishProof_touches (L := [.portA, .portB, .barrier, .queue .status]) before due (by decide) (Touches.refl _ t))

@[simp] theorem removeStatus_reports (h : Reports cls s g t) :
    Reports cls s g (removeStatus t) :=
  h.frame (removeStatus_touches (L := [.portA, .portB, .queue .status]) (by decide) (Touches.refl _ t))

@[simp] theorem restoreEffect_reports (reason : Option Reason)
    (mode : Option RestoreMode) (trk n : Nat) (hl : (.notice :: sequenceClasses) ⊆ cls)
    (h : Reports cls s g t) : Reports cls s g (restoreEffect reason mode trk n t) := by
  rw [List.cons_subset] at hl
  unfold restoreEffect
  (repeat' split) <;> simp (maxDischargeDepth := 40) [*]

@[simp] theorem answerRestore_reports (a : Arrival) (payload : List Byte) (hl : (.notice :: sequenceClasses) ⊆ cls)
    (h : Reports cls s g t) : Reports cls s g (answerRestore a payload t) := by
  rw [List.cons_subset] at hl
  unfold answerRestore
  dsimp only
  (repeat' split) <;> simp (maxDischargeDepth := 40) [*]

@[simp] theorem answerHistoryRead_reports (a : Arrival) (payload : List Byte) (h : Reports cls s g t) :
    Reports cls s g (answerHistoryRead a payload t) :=
  h.frame (answerHistoryRead_touches (L := [.portA, .portB, .queue .reply]) a payload (by decide) (Touches.refl _ t))

@[simp] theorem answerIdentify_reports (a : Arrival) (payload : List Byte) (h : Reports cls s g t) :
    Reports cls s g (answerIdentify a payload t) :=
  h.frame (answerIdentify_touches (L := [.portA, .portB, .queue .reply]) a payload (by decide) (Touches.refl _ t))

@[simp] theorem useFree_reports (n : Nat) (h : Reports cls s g t) :
    Reports cls s g (useFree n t) :=
  h.frame (useFree_touches (L := [.freeCounter]) n (by decide) (Touches.refl _ t))

@[simp] theorem hearLink_reports (p : Port) (h : Reports cls s g t) :
    Reports cls s g (hearLink p t) :=
  h.frame (hearLink_touches (L := [.portA, .portB, .links]) p (by decide) (Touches.refl _ t))

@[simp] theorem portGoesUp_reports (p : Port) (before : State) (hl : [.portDown] ⊆ cls)
    (h : Reports cls s g t) : Reports cls s g (portGoesUp p before t) := by
  simp only [List.cons_subset, List.nil_subset, and_true] at hl
  unfold portGoesUp
  simp (maxDischargeDepth := 40) [*]

@[simp] theorem portHeard_reports (p : Port) (hl : [.portDown] ⊆ cls)
    (h : Reports cls s g t) : Reports cls s g (portHeard p t) := by
  simp only [List.cons_subset, List.nil_subset, and_true] at hl
  unfold portHeard
  (repeat' split) <;> simp (maxDischargeDepth := 40) [*]

@[simp] theorem passCopy_reports (p : Port) (tel : Telegram) (h : Reports cls s g t) :
    Reports cls s g (passCopy p tel t) :=
  h.frame (passCopy_touches (L := [.portA, .portB, .queue .forward]) p tel (by decide) (Touches.refl _ t))

@[simp] theorem mismatch_reports (p : Port) (src : Addr) (hl : [.notice] ⊆ cls)
    (h : Reports cls s g t) : Reports cls s g (mismatch p src t) := by
  simp only [List.cons_subset, List.nil_subset, and_true] at hl
  unfold mismatch
  simp (maxDischargeDepth := 40) [*]

@[simp] theorem strangerHeard_reports (p : Port) (src : Addr) (hl : [.notice] ⊆ cls)
    (h : Reports cls s g t) : Reports cls s g (strangerHeard p src t) := by
  simp only [List.cons_subset, List.nil_subset, and_true] at hl
  unfold strangerHeard
  (repeat' split) <;> simp (maxDischargeDepth := 40) [*]

@[simp] theorem idleReached_reports (p : Port) (h : Reports cls s g t) :
    Reports cls s g (idleReached p t) :=
  h.frame (idleReached_touches (L := [.portA, .portB, .links]) p (by decide) (Touches.refl _ t))

@[simp] theorem transmissionDone_reports (p : Port) (h : Reports cls s g t) :
    Reports cls s g (transmissionDone p t) :=
  h.frame (transmissionDone_touches (L := [.portA, .portB, .links, .queue .command, .queue .status, .queue .reply,
    .queue .forward]) p (by decide) (Touches.refl _ t))
/-! ## Activation and restarts -/

@[simp] theorem reinitialise_reports (st : SeqState) (l : List TrackSection) (hl : ownedClasses ⊆ cls)
    (h : Reports cls s g t) : Reports cls s g (reinitialise st l t) :=
  stopBlock_reports (endFaults_reports _ hl (setStatusExpiry_reports _ (setBarrier_reports _
    (setLamp_reports _ (setSeq_reports _ (discardRecords_reports (setAxle_reports _ h)))))))

@[simp] theorem reinitialiseEmpty_reports (hl : ownedClasses ⊆ cls) (h : Reports cls s g t) :
    Reports cls s g (reinitialiseEmpty t) :=
  stopBlock_reports (endFaults_reports _ hl (setStatusExpiry_reports _ (setBarrier_reports _
    (setLamp_reports _ (setSeq_reports _ (discardRecords_reports (setAxle_reports _ h)))))))

/-- A configuration unit put in place with the active tables as they were. -/
theorem setConfig_reports {x : ConfigUnit} (ht : x.tables = t.config.tables)
    (hi : x.activeIdentity = t.config.activeIdentity) (h : Reports cls s g t) : Reports cls s g (t.setConfig x) :=
  h.other (.of_fault_eq rfl) (.of_config ht hi)

@[simp] theorem cancelActivation_reports (h : Reports cls s g t) : Reports cls s g (cancelActivation t) :=
  setConfig_reports rfl rfl h

theorem sequenceClasses_subset_ownedClasses : sequenceClasses ⊆ ownedClasses := by decide

/-- The groups are evaluated at the NOTICE of the activation, whatever the tables were (R137, R176). -/
@[simp] theorem takeEffect_reports (identity crc : Word) (hl : .notice :: ownedClasses ⊆ cls)
    (h : Reports cls s g t) : Reports cls s g (takeEffect identity crc t) := by
  obtain ⟨hnotice, howned⟩ := List.cons_subset.mp hl
  have hcopied : Reports cls s false (tablesCopied identity crc t) := h.remapped (.of_fault_eq rfl)
  exact cancelActivation_reports (formSlots_reports (sequenceAfterActivation_reports
    (List.Subset.trans sequenceClasses_subset_ownedClasses howned)
    (reinitialise_reports _ _ howned (hcopied.noticed g _ _ hnotice))))

@[simp] theorem activateIfQuiescent_reports (hl : .notice :: ownedClasses ⊆ cls) (h : Reports cls s g t) :
    Reports cls s g (activateIfQuiescent t) := by
  unfold activateIfQuiescent
  split
  · split
    · exact takeEffect_reports _ _ hl h
    · exact h
  · exact h

@[simp] theorem settleDue_reports (before : State) (due : Bool) (hl : .notice :: ownedClasses ⊆ cls)
    (h : Reports cls s g t) : Reports cls s g (settleDue before due t) :=
  finishProof_reports _ _ (activateIfQuiescent_reports hl h)

@[simp] theorem settle_reports (before : State) (hl : .notice :: ownedClasses ⊆ cls)
    (h : Reports cls s g t) : Reports cls s g (settle before t) := settleDue_reports before false hl h

@[simp] theorem restartKept_reports (hl : .notice :: ownedClasses ⊆ cls) (h : Reports cls s g t) :
    Reports cls s g (restartKept t) := by
  obtain ⟨hnotice, howned⟩ := List.cons_subset.mp hl
  exact formSlots_reports (leaveInitSafe_reports
    (List.Subset.trans sequenceClasses_subset_ownedClasses howned)
    (reinitialise_reports _ _ howned (raiseNotice_reports _ _ hnotice h)))

/-- The groups are evaluated at the end, with no map (R137, R153). -/
@[simp] theorem restartEmptied_reports (code : Nat) (hl : .notice :: ownedClasses ⊆ cls) (h : Reports cls s g t) :
    Reports cls s g (restartEmptied code t) := by
  obtain ⟨hnotice, howned⟩ := List.cons_subset.mp hl
  have hempty : Reports cls s false (emptySafety (raiseNotice 33 code t)) :=
    (raiseNotice_reports _ _ hnotice h).remapped (.of_fault_eq rfl)
  exact removeStatus_reports ((reinitialiseEmpty_reports howned hempty).regrouped g)

@[simp] theorem restartKeepAccepted_reports (hl : .notice :: ownedClasses ⊆ cls) (h : Reports cls s g t) :
    Reports cls s g (restartKeepAccepted t) := by
  unfold restartKeepAccepted
  split
  · exact restartKept_reports hl h
  · exact restartEmptied_reports 0 hl h

@[simp] theorem restartDiscardAccepted_reports (hl : .notice :: ownedClasses ⊆ cls) (h : Reports cls s g t) :
    Reports cls s g (restartDiscardAccepted t) :=
  cancelActivation_reports (restartEmptied_reports 1 hl h)

/-! ## Requests -/

@[simp] theorem answerConfirm_reports (a : Arrival) (payload : List Byte) (hl : .notice :: ownedClasses ⊆ cls)
    (h : Reports cls s g t) : Reports cls s g (answerConfirm a payload t) := by
  unfold answerConfirm confirmEffect
  split
  · exact sendReply_reports _ _ _ h
  · dsimp only
    refine sendReply_reports _ _ _ ?_
    split
    · exact h
    · exact activateIfQuiescent_reports hl (setConfig_reports rfl rfl h)

@[simp] theorem restartEffect_reports (m : Option RestartMode) (hl : .notice :: ownedClasses ⊆ cls)
    (h : Reports cls s g t) : Reports cls s g (restartEffect m t) := by
  cases m with
  | none => exact h
  | some m =>
    cases m with
    | keep => exact restartKeepAccepted_reports hl h
    | discard => exact restartDiscardAccepted_reports hl h

@[simp] theorem answerRestart_reports (a : Arrival) (payload : List Byte) (hl : .notice :: ownedClasses ⊆ cls)
    (h : Reports cls s g t) : Reports cls s g (answerRestart a payload t) := by
  unfold answerRestart
  split
  · exact sendReply_reports _ _ _ h
  · exact sendReply_reports _ _ _ (restartEffect_reports _ hl h)

@[simp] theorem stageWriteEffect_reports (table : Option TableId) (start : Nat) (ws : List Word)
    (reason : Option Reason) (h : Reports cls s g t) : Reports cls s g (stageWriteEffect table start ws reason t) := by
  cases table with
  | none => rwa [stageWriteEffect_none]
  | some i =>
    cases reason with
    | none =>
      rw [stageWriteEffect_accepted]
      split
      · exact cancelActivation_reports (setConfig_reports rfl rfl h)
      · exact setConfig_reports rfl rfl h
    | some x =>
      rw [stageWriteEffect_refused]
      split
      · exact cancelActivation_reports h
      · exact h

@[simp] theorem answerStageWrite_reports (a : Arrival) (payload : List Byte) (h : Reports cls s g t) :
    Reports cls s g (answerStageWrite a payload t) := by
  unfold answerStageWrite
  split
  · exact sendReply_reports _ _ _ h
  · dsimp only
    refine sendReply_reports _ _ _ ?_
    split
    · exact useFree_reports 3 (stageWriteEffect_reports _ _ _ _ h)
    · exact stageWriteEffect_reports _ _ _ _ h

@[simp] theorem stageReadEffect_reports (table : Option TableId) (start count : Nat) (reason : Option Reason)
    (h : Reports cls s g t) : Reports cls s g (stageReadEffect table start count reason t) := by
  unfold stageReadEffect
  split
  · exact setConfig_reports rfl rfl h
  · exact h

@[simp] theorem answerStageRead_reports (a : Arrival) (payload : List Byte) (h : Reports cls s g t) :
    Reports cls s g (answerStageRead a payload t) := by
  unfold answerStageRead
  split
  · exact sendReply_reports _ _ _ h
  · dsimp only
    refine sendReply_reports _ _ _ ?_
    split
    · exact useFree_reports 2 (stageReadEffect_reports _ _ _ _ h)
    · exact stageReadEffect_reports _ _ _ _ h

@[simp] theorem answerActivate_reports (a : Arrival) (payload : List Byte) (h : Reports cls s g t) :
    Reports cls s g (answerActivate a payload t) := by
  unfold answerActivate activateEffect
  split
  · exact sendReply_reports _ _ _ h
  · dsimp only
    refine sendReply_reports _ _ _ ?_
    split
    · exact cancelActivation_reports h
    · exact setConfig_reports rfl rfl h

@[simp] theorem answerActivateLoop_reports (a : Arrival) (payload : List Byte) (h : Reports cls s g t) :
    Reports cls s g (answerActivateLoop a payload t) := by
  unfold answerActivateLoop activateLoopEffect
  split
  · exact sendReply_reports _ _ _ h
  · dsimp only
    refine sendReply_reports _ _ _ ?_
    split
    · exact h
    · exact cancelActivation_reports (setWindow_reports _ h)

@[simp] theorem nextStatusPeriod_reports (h : Reports cls s g t) : Reports cls s g (nextStatusPeriod t) :=
  setStatusExpiry_reports _ h

end

end Sys2Proof.Machine
end

section
/-! PROOFS. One rule for every step: what is to be shown of the events of the part, one by one, for a predicate to hold of
the state a step answers. -/

namespace Sys2Proof.Machine

/-- The port a request has arrived on is UP, with room for the reply (R155, R161). -/
def Answerable (a : Arrival) (u : State) : Prop := (u.port a.port).link = .up ∧ replyRoom a.port u = true

theorem portHeard_link (p : Port) (s : State) : ((portHeard p s).port p).link = .up := by
  cases h : (s.port p).link with
  | up => rw [portHeard_up h, hearLink_port]
  | down =>
    have hlink : ((hearLink p s).port p).link = .up := by rw [hearLink_port]
    exact (portHeard_up_link h).1.trans hlink

/-- The obligations of a predicate `Q` of the state answered, from a predicate `P` of the state before: every event takes
`P` to a predicate of its own end (`F` where it ends by comparing the reported content, `R` where it evaluates the
crossing proof first, `S` where a waiting activation may take effect first), and each end takes that to `Q`. `may` limits
the port and the kind of a telegram that arrives. -/
structure StepRule (may : Port → Byte → Prop) (P F R S Q : State → Prop) : Prop where
  kept : ∀ u, P u → Q u
  finished : ∀ before due u, P before → F u → Q (finish before due u)
  proofed : ∀ before due u, P before → R u → Q (finishProof before due u)
  settled : ∀ before due u, P before → S u → Q (settleDue before due u)
  heard : ∀ p kind u, may p kind → P u → P (portHeard p u)
  passed : ∀ p tel u, Q u → Q (passCopy p tel u)
  mismatched : ∀ p src u, P u → F (noticeRoleMismatch p src u)
  stranger : ∀ p src u, P u → src ∉ u.window.strangers →
    F (noticeStranger p src (u.setWindow { u.window with strangers := joinStrangers u.window.strangers src }))
  wheel : ∀ d payload u, P u → S (wheelReport d payload u)
  heartbeat : ∀ d payload u, P u → S (heartbeatReport d payload u)
  lampReport : ∀ j m chs u, P u → R (takeLampReport j m chs u)
  barrierReport : ∀ j m pos echo u, P u → S (tellEndedProofs u (takeBarrierReport j m pos echo u))
  presenceReport : ∀ j m v u, P u → R (takePresenceReport j m v u)
  acknowledge : ∀ a payload u, may a.port 0x40 → Answerable a u → P u → F (answerAcknowledge a payload u)
  restore : ∀ a payload u, Answerable a u → P u → S (answerRestore a payload u)
  confirm : ∀ a payload u, Answerable a u → P u → R (answerConfirm a payload u)
  restart : ∀ a payload u, may a.port 0x43 → Answerable a u → P u → R (answerRestart a payload u)
  historyRead : ∀ a payload u, Answerable a u → P u → F (answerHistoryRead a payload u)
  identify : ∀ a payload u, Answerable a u → P u → F (answerIdentify a payload u)
  stageWrite : ∀ a payload u, Answerable a u → P u → F (answerStageWrite a payload u)
  stageRead : ∀ a payload u, Answerable a u → P u → F (answerStageRead a payload u)
  activate : ∀ a payload u, Answerable a u → P u → F (answerActivate a payload u)
  activateLoop : ∀ a payload u, Answerable a u → P u → F (answerActivateLoop a payload u)
  detectorSilence : ∀ d r u, P u → u.detectorRecord d = some r → r.silence = some u.now → S (detectorSilent d r u)
  entryGap : ∀ i r u, P u → u.tracker.records[i]? = some r → entryGapExpiry u.crTab r = some u.now →
    S (closeEntry i u)
  scheduledStart : ∀ i r u, P u → u.tracker.records[i]? = some r → approachingStart r = some u.now →
    S (startReached i u)
  amber : ∀ u, P u → u.seq.amber = some u.now → S (enterRedFlash u)
  red : ∀ u, P u → u.seq.red = some u.now → S (leaveRedFlash u)
  exitDelay : ∀ u, P u → u.seq.exitDelay = some u.now → S (startExitLowering u)
  longClosure : ∀ u, P u → u.seq.longClosure = some u.now → S (longClosureReached u)
  lampSilence : ∀ j u, P u → R (lampModuleSilence j u)
  proving : ∀ b r u, P u → u.barrierRecord b = some r → r.provingExpiry = some u.now →
    S (tellEndedProofs u (expireProof b u))
  barrierSilence : ∀ j u, P u → S (tellEndedProofs u (barrierModuleSilence j u))
  presenceSilence : ∀ j u, P u → R (presenceModuleSilence j u)
  exitWait : ∀ b r u, P u → u.barrierRecord b = some r → r.exitWait = some u.now → R (expireExitWait b u)
  statusPeriod : ∀ u, P u → F (nextStatusPeriod u)
  activation : ∀ u, P u → S u
  portSilence : ∀ p u, P u → F (portGoesDown p u)
  idle : ∀ p u, P u → Q (idleReached p u)
  transmission : ∀ p u, P u → (u.port p).transmitter.isSome → Q (transmissionDone p u)
  refresh : ∀ u, P u → F (refreshBlock u)

namespace StepRule

variable {may : Port → Byte → Prop} {P F R S Q : State → Prop} {s t : State}

theorem mismatch (h : StepRule may P F R S Q) (p : Port) (src : Addr) (hp : P s) : Q (mismatch p src s) :=
  h.finished _ _ _ hp (h.mismatched p src s hp)

theorem strangerHeard (h : StepRule may P F R S Q) (p : Port) (src : Addr) (hp : P s) :
    Q (strangerHeard p src s) := by
  unfold Machine.strangerHeard
  split
  · exact h.kept s hp
  next hlisted =>
    refine h.finished _ _ _ hp (h.stranger p src s hp fun hmem => hlisted ?_)
    exact List.contains_iff_mem.mpr hmem

theorem takeField (h : StepRule may P F R S Q) (k : FieldKind) (p : Port) (src : Addr) (payload : List Byte)
    (hp : P s) : Q (takeField k p src payload s) := by
  cases k with
  | wheel =>
    show Q (takeWheelTelegram p src payload s)
    unfold takeWheelTelegram
    split
    · exact h.mismatch p src hp
    · exact h.settled _ _ _ hp (h.wheel _ payload s hp)
  | heartbeat =>
    show Q (takeHeartbeatTelegram p src payload s)
    unfold takeHeartbeatTelegram
    split
    · exact h.mismatch p src hp
    · exact h.settled _ _ _ hp (h.heartbeat _ payload s hp)
  | lampReport =>
    show Q (takeLampTelegram p src payload s)
    unfold takeLampTelegram
    split
    · exact h.mismatch p src hp
    · split
      · exact h.kept s hp
      · exact h.proofed _ _ _ hp (h.lampReport _ _ _ s hp)
  | barrierReport =>
    show Q (takeBarrierTelegram p src payload s)
    unfold takeBarrierTelegram
    split
    · exact h.mismatch p src hp
    · split
      · exact h.kept s hp
      · exact h.settled _ _ _ hp (h.barrierReport _ _ _ _ s hp)
  | presenceReport =>
    show Q (takePresenceTelegram p src payload s)
    unfold takePresenceTelegram
    split
    · exact h.mismatch p src hp
    · split
      · exact h.kept s hp
      · exact h.proofed _ _ _ hp (h.presenceReport _ _ _ s hp)

theorem takeRequest (h : StepRule may P F R S Q) (k : RequestKind) (a : Arrival) (payload : List Byte)
    (hmay : may a.port k.code) (ha : Answerable a s) (hp : P s) : Q (takeRequest k a payload s) := by
  cases k with
  | acknowledge => exact h.finished _ _ _ hp (h.acknowledge a payload s hmay ha hp)
  | restore => exact h.settled _ _ _ hp (h.restore a payload s ha hp)
  | confirm => exact h.proofed _ _ _ hp (h.confirm a payload s ha hp)
  | restart => exact h.proofed _ _ _ hp (h.restart a payload s hmay ha hp)
  | historyRead => exact h.finished _ _ _ hp (h.historyRead a payload s ha hp)
  | identify => exact h.finished _ _ _ hp (h.identify a payload s ha hp)
  | stageWrite => exact h.finished _ _ _ hp (h.stageWrite a payload s ha hp)
  | stageRead => exact h.finished _ _ _ hp (h.stageRead a payload s ha hp)
  | activate => exact h.finished _ _ _ hp (h.activate a payload s ha hp)
  | activateLoop => exact h.finished _ _ _ hp (h.activateLoop a payload s ha hp)

theorem requestKindOf_code {kind : Byte} {k : RequestKind} (h : requestKindOf kind = some k) : k.code = kind := by
  have := List.find?_some h
  simpa using this

theorem consumeRequest (h : StepRule may P F R S Q) (r : Role) (p : Port) (tel : Telegram)
    (hmay : may p tel.kind) (hup : (s.port p).link = .up) (hp : P s) : Q (consumeRequest r p tel s) := by
  unfold Machine.consumeRequest
  split
  · exact h.mismatch p tel.src hp
  next k hk =>
    split
    · unfold requestWithRoom
      split
      next hroom => exact h.takeRequest k _ _ (by rwa [requestKindOf_code hk]) ⟨hup, hroom⟩ hp
      · exact h.kept s hp
    · exact h.mismatch p tel.src hp

theorem consume (h : StepRule may P F R S Q) (p : Port) (tel : Telegram) (role : Option Role)
    (hmay : may p tel.kind) (hup : (s.port p).link = .up) (hp : P s) : Q (consume p tel role s) := by
  unfold Machine.consume
  split
  · exact h.mismatch p tel.src hp
  · unfold consumeField
    split
    · exact h.mismatch p tel.src hp
    · split
      · exact h.takeField _ p _ _ hp
      · exact h.strangerHeard p _ hp
  · exact h.consumeRequest _ p tel hmay hup hp
  · exact h.consumeRequest _ p tel hmay hup hp

theorem route (h : StepRule may P F R S Q) (p : Port) (tel : Telegram) (w : Option Window)
    (hmay : may p tel.kind) (hup : (s.port p).link = .up) (hp : P s) : Q (route p tel w s) := by
  unfold Machine.route
  split
  · exact h.passed p tel s (h.kept s hp)
  · split
    · exact h.consume p tel _ hmay hup hp
    · exact h.passed p _ s (h.kept s hp)
    · exact h.passed p _ _ (h.consume p tel _ hmay hup hp)
    · exact h.kept s hp

theorem receiveGood (h : StepRule may P F R S Q) (p : Port) (tel : Telegram) (hmay : may p tel.kind) (hp : P s) :
    Q (receiveGood p tel s) := by
  unfold Machine.receiveGood handleGood
  split
  · exact h.kept s hp
  · have hheard := h.heard p tel.kind s hmay hp
    split
    · exact h.kept _ hheard
    · split
      · exact h.kept _ hheard
      · exact h.route p tel _ hmay (portHeard_link p s) hheard

/-- An expiry that is not due changes nothing. -/
theorem atExpiry (h : StepRule may P F R S Q) {e : Option Time} {f : State → State} (hp : P s)
    (hf : e = some s.now → Q (f s)) : Q (atExpiry e f s) := by
  unfold Machine.atExpiry
  split
  next hdue => exact hf (of_decide_eq_true hdue)
  next => exact h.kept s hp

/-- A timer of no record changes nothing. -/
theorem withRecord (h : StepRule may P F R S Q) {α : Type} {r : Option α} {f : α → State → State} (hp : P s)
    (hf : ∀ x, r = some x → Q (f x s)) : Q (withRecord r f s) := by
  cases r with
  | none => exact h.kept s hp
  | some x => exact hf x rfl

theorem recordWithTag_place {tag : Byte} {x : Nat × TrainRecord} (h : s.recordWithTag tag = some x) :
    s.tracker.records[x.1]? = some x.2 := by
  obtain ⟨i, hi, hx⟩ := Option.bind_eq_some_iff.mp h
  obtain ⟨r, hr, rfl⟩ := Option.map_eq_some_iff.mp hx
  exact hr

/-- Every command but a hardware reset. -/
theorem exec (h : StepRule may P F R S Q) {c : Instr} (hc : ∀ strap, c ≠ .hardwareReset strap)
    (hmay : ∀ p tel, carried s.ownAddress c = some (p, tel) → may p tel.kind) (hp : P s)
    (ht : exec c s = .next t) : Q t := by
  cases hcar : carried s.ownAddress c with
  | some x =>
    obtain ⟨p, tel⟩ := x
    rw [exec_of_carried hcar] at ht
    obtain rfl := Host.Outcome.next.inj ht
    exact h.receiveGood p tel (hmay p tel hcar) hp
  | none =>
    cases c with
    | hardwareReset strap => exact absurd rfl (hc strap)
    | discardedTelegram p frame =>
      obtain rfl := Host.Outcome.next.inj ht
      have hnone : parseFrame frame = none := by simpa [carried] using hcar
      show Q (receiveFrame p frame s)
      rw [receiveFrame, hnone]
      exact h.kept s hp
    | fill | ownTelegramReturned | passedCopy | roleMismatch | wheel | heartbeat | lampReport | barrierReport
      | presenceReport | acknowledge | restoreSweep | restoreDirect | historyRead | identify | restartKeep
      | restartDiscard | stageWrite | stageRead | activate | activateLoop | confirm => cases hcar
    | detectorSilenceExpiry d =>
      obtain rfl := Host.Outcome.next.inj ht
      exact h.withRecord hp fun r hr => h.atExpiry hp fun hdue =>
        h.settled _ _ _ hp (h.detectorSilence d r s hp hr hdue)
    | entryGapExpiry tag =>
      obtain rfl := Host.Outcome.next.inj ht
      exact h.withRecord hp fun x hx => h.atExpiry hp fun hdue =>
        h.settled _ _ _ hp (h.entryGap x.1 x.2 s hp (recordWithTag_place hx) hdue)
    | scheduledStartExpiry tag =>
      obtain rfl := Host.Outcome.next.inj ht
      exact h.withRecord hp fun x hx => h.atExpiry hp fun hdue =>
        h.settled _ _ _ hp (h.scheduledStart x.1 x.2 s hp (recordWithTag_place hx) hdue)
    | amberExpiry =>
      obtain rfl := Host.Outcome.next.inj ht
      exact h.atExpiry hp fun hdue => h.settled _ _ _ hp (h.amber s hp hdue)
    | redExpiry =>
      obtain rfl := Host.Outcome.next.inj ht
      exact h.atExpiry hp fun hdue => h.settled _ _ _ hp (h.red s hp hdue)
    | exitDelayExpiry =>
      obtain rfl := Host.Outcome.next.inj ht
      exact h.atExpiry hp fun hdue => h.settled _ _ _ hp (h.exitDelay s hp hdue)
    | longClosureExpiry =>
      obtain rfl := Host.Outcome.next.inj ht
      exact h.atExpiry hp fun hdue => h.settled _ _ _ hp (h.longClosure s hp hdue)
    | lampModuleSilenceExpiry j =>
      obtain rfl := Host.Outcome.next.inj ht
      exact h.withRecord hp fun m _ => h.atExpiry hp fun _ => h.proofed _ _ _ hp (h.lampSilence j s hp)
    | provingExpiry b =>
      obtain rfl := Host.Outcome.next.inj ht
      exact h.withRecord hp fun r hr => h.atExpiry hp fun hdue =>
        h.settled _ _ _ hp (h.proving b r s hp hr hdue)
    | barrierModuleSilenceExpiry j =>
      obtain rfl := Host.Outcome.next.inj ht
      exact h.withRecord hp fun m _ => h.atExpiry hp fun _ => h.settled _ _ _ hp (h.barrierSilence j s hp)
    | presenceModuleSilenceExpiry j =>
      obtain rfl := Host.Outcome.next.inj ht
      exact h.withRecord hp fun m _ => h.atExpiry hp fun _ => h.proofed _ _ _ hp (h.presenceSilence j s hp)
    | exitWaitExpiry b =>
      obtain rfl := Host.Outcome.next.inj ht
      exact h.withRecord hp fun r hr => h.atExpiry hp fun hdue =>
        h.proofed _ _ _ hp (h.exitWait b r s hp hr hdue)
    | statusPeriodExpiry =>
      obtain rfl := Host.Outcome.next.inj ht
      exact h.atExpiry hp fun _ => h.finished _ _ _ hp (h.statusPeriod s hp)
    | activationTakesEffect =>
      obtain rfl := Host.Outcome.next.inj ht
      exact h.settled _ _ _ hp (h.activation s hp)
    | portSilenceExpiry p =>
      obtain rfl := Host.Outcome.next.inj ht
      exact h.atExpiry hp fun _ => h.finished _ _ _ hp (h.portSilence p s hp)
    | idleExpiry p =>
      obtain rfl := Host.Outcome.next.inj ht
      exact h.atExpiry hp fun _ => h.idle p s hp
    | transmissionComplete p =>
      obtain rfl := Host.Outcome.next.inj ht
      show Q (if _ then _ else _)
      split
      next hbusy => exact h.transmission p s hp hbusy
      next => exact h.kept s hp
    | refreshExpiry =>
      obtain rfl := Host.Outcome.next.inj ht
      exact h.atExpiry hp fun _ => h.finished _ _ _ hp (h.refresh s hp)

/-- Every step: the command at the front of the queue, or time, or the first due expiry. -/
theorem step (h : StepRule (fun _ _ => True) P F R S Q) (hreset : ∀ strap u, P u → Q (hardwareReset strap u))
    (hpending : ∀ l u, P u → P (u.setPending l)) (htick : ∀ u, P u → Q (tick u)) (hp : P s)
    (ht : step s = .next t) : Q t := by
  have hexec : ∀ c u, P u → Machine.exec c u = .next t → Q t := by
    intro c u hu hcu
    cases c with
    | hardwareReset strap =>
      obtain rfl := Host.Outcome.next.inj hcu
      exact hreset strap u hu
    | _ => exact h.exec (fun _ => by simp) (fun _ _ _ => trivial) hu hcu
  unfold Machine.step at ht
  split at ht
  · unfold idleStep at ht
    split at ht
    · obtain rfl := Host.Outcome.next.inj ht
      exact htick s hp
    · exact hexec _ s hp ht
  · exact hexec _ _ (hpending _ s hp) ht

end StepRule

end Sys2Proof.Machine
end

section
/-! PROOFS. What the reports keep in every step (section 7): the history, the flags and the groups. -/

namespace Sys2Proof.Machine

/-! ## Reports of every event -/

@[simp] theorem mem_classesByNumber (c : FaultClass) : c ∈ classesByNumber := by cases c <;> decide

@[simp] theorem subset_classesByNumber (l : List FaultClass) : l ⊆ classesByNumber := fun c _ => mem_classesByNumber c

section
variable {may : Port → Byte → Prop} {I : State → Prop}

/-- Every event but an ACKNOWLEDGE changes the fault unit by reports alone. -/
theorem stepRule_of_reports (hrep : ∀ {s t}, Reports classesByNumber s true t → I s → I t)
    (hack : ∀ named s p, may p 0x40 → I s → I (acknowledgeFlags named s)) : StepRule may I I I I I where
  kept _ h := h
  finished _ _ u _ h := hrep (finish_reports _ _ (.refl true)) h
  proofed _ _ u _ h := hrep (finishProof_reports _ _ (.refl true)) h
  settled _ _ u _ h := hrep (settleDue_reports _ _ (by simp) (.refl true)) h
  heard p _ u _ h := hrep (portHeard_reports p (by simp) (.refl true)) h
  passed p tel u h := hrep (passCopy_reports p tel (.refl true)) h
  mismatched p src u h := hrep (noticeRoleMismatch_reports p src (by simp) (.refl true)) h
  stranger p src u h _ := hrep (noticeStranger_reports p src (by simp) (setWindow_reports _ (.refl true))) h
  wheel d payload u h := hrep (wheelReport_reports d payload (by simp) (.refl true)) h
  heartbeat d payload u h := hrep (heartbeatReport_reports d payload (by simp) (.refl true)) h
  lampReport j m chs u h := hrep (takeLampReport_reports j m chs (by simp) (.refl true)) h
  barrierReport j m pos echo u h := hrep (tellEndedProofs_reports u (by simp)
    (takeBarrierReport_reports j m pos echo (by simp) (.refl true))) h
  presenceReport j m v u h := hrep (takePresenceReport_reports j m v (by simp) (.refl true)) h
  acknowledge a payload u hmay _ h := by
    unfold answerAcknowledge
    split
    · exact hrep (sendReply_reports _ _ _ (.refl true)) h
    · exact hrep (sendReply_reports _ _ _ (.refl true)) (hack _ _ _ hmay h)
  restore a payload u _ h := hrep (answerRestore_reports a payload (by simp) (.refl true)) h
  confirm a payload u _ h := hrep (answerConfirm_reports a payload (by simp) (.refl true)) h
  restart a payload u _ _ h := hrep (answerRestart_reports a payload (by simp) (.refl true)) h
  historyRead a payload u _ h := hrep (answerHistoryRead_reports a payload (.refl true)) h
  identify a payload u _ h := hrep (answerIdentify_reports a payload (.refl true)) h
  stageWrite a payload u _ h := hrep (answerStageWrite_reports a payload (.refl true)) h
  stageRead a payload u _ h := hrep (answerStageRead_reports a payload (.refl true)) h
  activate a payload u _ h := hrep (answerActivate_reports a payload (.refl true)) h
  activateLoop a payload u _ h := hrep (answerActivateLoop_reports a payload (.refl true)) h
  detectorSilence d r u h _ _ := hrep (detectorSilent_reports d r (by simp) (.refl true)) h
  entryGap i r u h _ _ := hrep (closeEntry_reports i (by simp) (.refl true)) h
  scheduledStart i r u h _ _ := hrep (startReached_reports i (by simp) (.refl true)) h
  amber u h _ := hrep (enterRedFlash_reports (by simp) (.refl true)) h
  red u h _ := hrep (leaveRedFlash_reports (by simp) (.refl true)) h
  exitDelay u h _ := hrep (startExitLowering_reports (by simp) (.refl true)) h
  longClosure u h _ := hrep (longClosureReached_reports (by simp) (.refl true)) h
  lampSilence j u h := hrep (lampModuleSilence_reports j (by simp) (.refl true)) h
  proving b r u h _ _ := hrep (tellEndedProofs_reports u (by simp) (expireProof_reports b (by simp) (.refl true))) h
  barrierSilence j u h := hrep (tellEndedProofs_reports u (by simp)
    (barrierModuleSilence_reports j (by simp) (.refl true))) h
  presenceSilence j u h := hrep (presenceModuleSilence_reports j (by simp) (.refl true)) h
  exitWait b r u h _ _ := hrep (expireExitWait_reports b (by simp) (.refl true)) h
  statusPeriod u h := hrep (nextStatusPeriod_reports (.refl true)) h
  activation _ h := h
  portSilence p u h := hrep (portGoesDown_reports p (by simp) (.refl true)) h
  idle p u h := hrep (setPort_reports p _ (.refl true)) h
  transmission p u h _ := hrep (setPort_reports p _ (.refl true)) h
  refresh u h := hrep (refreshBlock_reports (by simp) (.refl true)) h

end

theorem setPending_reports (l : List Instr) (s : State) : Reports classesByNumber s true (s.setPending l) :=
  .other (.refl true) (.of_fault_eq rfl) ⟨rfl, rfl⟩

theorem tick_reports (s : State) : Reports classesByNumber s true (tick s) :=
  .other (.refl true) (.of_fault_eq rfl) ⟨rfl, rfl⟩

/-! ## The history and the flags -/

/-- Only latched flags of classes not active go (R139). -/
theorem acknowledgeFlags_marksSound {s : State} (named : BitVec 24) (h : MarksSound s) :
    MarksSound (acknowledgeFlags named s) := by
  obtain ⟨hevent, hlatched⟩ := h
  rw [MarksSound, acknowledgeFlags_fault]
  refine ⟨hevent, (and_not_eq_zero_iff _ _).mpr fun i hi hx => ?_⟩
  have hkept := (and_not_eq_zero_iff _ _).mp hlatched i hi hx
  rw [setFlags_active] at hx
  simp [acknowledged, hi, hx, hkept]

theorem acknowledgeFlags_flagsSound {s : State} (named : BitVec 24) (h : FlagsSound s) :
    FlagsSound (acknowledgeFlags named s) := by
  rw [flagsSound_iff] at h ⊢
  refine ⟨acknowledgeFlags_marksSound named h.1, ?_⟩
  have hT := acknowledgeFlags_touched named s
  rw [GroupsSound, State.crTab, State.safetyActive, hT.config_eq, acknowledgeFlags_fault]
  rfl

theorem acknowledgeFlags_historySound {s : State} (named : BitVec 24) (h : HistorySound s) :
    HistorySound (acknowledgeFlags named s) :=
  h.of_same (by rw [acknowledgeFlags_fault]; rfl) (by rw [acknowledgeFlags_fault]; rfl)

theorem hardwareReset_historySound (strap : BitVec 12) (s : State) : HistorySound (hardwareReset strap s) :=
  reset_historySound.of_same rfl rfl

theorem hardwareReset_flagsSound (strap : BitVec 12) (s : State) : FlagsSound (hardwareReset strap s) :=
  (flagsSound_iff _).mpr ⟨⟨by show faultsReset.active &&& eventClasses = 0; decide,
    by show faultsReset.active &&& ~~~faultsReset.latched = 0; decide⟩, rfl⟩

theorem historySound_step {s t : State} (h : HistorySound s) (ht : step s = .next t) : HistorySound t :=
  (stepRule_of_reports (I := HistorySound) (fun hr hs => hr.historySound hs)
    fun named _ _ _ hs => acknowledgeFlags_historySound named hs).step
    (fun strap u _ => hardwareReset_historySound strap u) (fun l u hu => (setPending_reports l u).historySound hu)
    (fun u hu => (tick_reports u).historySound hu) h ht

theorem flagsSound_step {s t : State} (h : FlagsSound s) (ht : step s = .next t) : FlagsSound t :=
  (stepRule_of_reports (I := FlagsSound) (fun hr hs => hr.flagsSound hs)
    fun named _ _ _ hs => acknowledgeFlags_flagsSound named hs).step
    (fun strap u _ => hardwareReset_flagsSound strap u) (fun l u hu => (setPending_reports l u).flagsSound hu)
    (fun u hu => (tick_reports u).flagsSound hu) h ht

/-! ## What only some commands change -/

/-- Every block but the timebase and the waiting commands. -/
abbrev eventBlocks : List Block :=
  [.portA, .portB, .window, .axle, .tracker, .seq, .lamp, .barrier, .cmd, .fault, .config, .freeCounter, .links,
   .queue .command, .queue .status, .queue .reply, .queue .forward, .statusPeriod]

/-- No event takes the waiting commands or the timebase on (section 4.1). -/
theorem stepRule_eventBlocks (may : Port → Byte → Prop) (s : State) :
    StepRule may (Touches eventBlocks s) (Touches eventBlocks s) (Touches eventBlocks s) (Touches eventBlocks s)
      (Touches eventBlocks s) where
  kept _ h := h
  finished _ _ u _ h := finish_touches _ _ (by decide) h
  proofed _ _ u _ h := finishProof_touches _ _ (by decide) h
  settled _ _ u _ h := settleDue_touches _ _ (by decide) h
  heard p _ u _ h := portHeard_touches p (by decide) h
  passed p tel u h := passCopy_touches p tel (by decide) h
  mismatched p src u h := noticeRoleMismatch_touches p src (by decide) h
  stranger p src u h _ := noticeStranger_touches p src (by decide) (State.setWindow_touches _ (by decide) h)
  wheel d payload u h := wheelReport_touches d payload (by decide) h
  heartbeat d payload u h := heartbeatReport_touches d payload (by decide) h
  lampReport j m chs u h := takeLampReport_touches j m chs (by decide) h
  barrierReport j m pos echo u h := tellEndedProofs_touches u (by decide)
    (takeBarrierReport_touches j m pos echo (by decide) h)
  presenceReport j m v u h := takePresenceReport_touches j m v (by decide) h
  acknowledge a payload u _ _ h := answerAcknowledge_touches a payload (by decide) h
  restore a payload u _ h := answerRestore_touches a payload (by decide) h
  confirm a payload u _ h := answerConfirm_touches a payload (by decide) h
  restart a payload u _ _ h := answerRestart_touches a payload (by decide) h
  historyRead a payload u _ h := answerHistoryRead_touches a payload (by decide) h
  identify a payload u _ h := answerIdentify_touches a payload (by decide) h
  stageWrite a payload u _ h := answerStageWrite_touches a payload (by decide) h
  stageRead a payload u _ h := answerStageRead_touches a payload (by decide) h
  activate a payload u _ h := answerActivate_touches a payload (by decide) h
  activateLoop a payload u _ h := answerActivateLoop_touches a payload (by decide) h
  detectorSilence d r u h _ _ := detectorSilent_touches d r (by decide) h
  entryGap i r u h _ _ := closeEntry_touches i (by decide) h
  scheduledStart i r u h _ _ := startReached_touches i (by decide) h
  amber u h _ := enterRedFlash_touches (by decide) h
  red u h _ := leaveRedFlash_touches (by decide) h
  exitDelay u h _ := startExitLowering_touches (by decide) h
  longClosure u h _ := longClosureReached_touches (by decide) h
  lampSilence j u h := lampModuleSilence_touches j (by decide) h
  proving b r u h _ _ := tellEndedProofs_touches u (by decide) (expireProof_touches b (by decide) h)
  barrierSilence j u h := tellEndedProofs_touches u (by decide) (barrierModuleSilence_touches j (by decide) h)
  presenceSilence j u h := presenceModuleSilence_touches j (by decide) h
  exitWait b r u h _ _ := expireExitWait_touches b (by decide) h
  statusPeriod u h := nextStatusPeriod_touches (by decide) h
  activation _ h := h
  portSilence p u h := portGoesDown_touches p (by decide) h
  idle p u h := idleReached_touches p (by decide) h
  transmission p u h _ := transmissionDone_touches p (by decide) h
  refresh u h := refreshBlock_touches (by decide) h

/-- Since `s`, no latched flag has gone but those of classes not active, and those only where `acked` holds. -/
def LatchedKept (acked : Prop) (s u : State) : Prop :=
  ∀ x : FaultClass, s.fault.isLatched x = true → u.fault.isLatched x = true ∨ (u.fault.isActive x = false ∧ acked)

/-- A class that becomes active is latched from then on (R135). -/
theorem Reports.latched_of_active {cls : List FaultClass} {g : Bool} {s t : State} {c : FaultClass}
    (h : Reports cls s g t) (hs : s.fault.isActive c = false) (ht : t.fault.isActive c = true) :
    t.fault.isLatched c = true := by
  induction h with
  | refl => rw [hs] at ht; cases ht
  | other _ hf _ ih =>
    rw [FaultUnit.isActive, hf.active] at ht
    rw [FaultUnit.isLatched, hf.latched]
    exact ih ht
  | remapped _ hf ih =>
    rw [FaultUnit.isActive, hf.active] at ht
    rw [FaultUnit.isLatched, hf.latched]
    exact ih ht
  | raised d x y _ _ ih => simp [ih (by simpa using ht)]
  | noticed _ x y _ _ ih => simp [ih (by simpa using ht)]
  | @entered _ t d x y _ _ _ ih =>
    cases hact : t.fault.isActive c with
    | true => exact enterFault_isLatched_mono x y (ih hact)
    | false =>
      obtain rfl : d = c := by simpa [hact] using ht
      rw [FaultUnit.isLatched, enterFault_latched x y hact]
      simp
  | ended d _ _ ih =>
    rw [endFault_isActive, Bool.and_eq_true] at ht
    simpa using ih ht.1
  | regrouped _ _ ih => exact ih ht

theorem LatchedKept.reports {acked : Prop} {s t u : State} {g : Bool} (hr : Reports classesByNumber t g u)
    (h : LatchedKept acked s t) : LatchedKept acked s u := by
  intro x hx
  rcases h x hx with hlatched | ⟨hactive, hacked⟩
  · exact .inl (hr.latched_mono hlatched)
  · cases hu : u.fault.isActive x with
    | true => exact .inl (hr.latched_of_active hactive hu)
    | false => exact .inr ⟨rfl, hacked⟩

theorem LatchedKept.acknowledge {acked : Prop} {s t : State} (named : BitVec 24) (hacked : acked)
    (h : LatchedKept acked s t) : LatchedKept acked s (acknowledgeFlags named t) := by
  intro x hx
  rw [acknowledgeFlags_fault]
  simp only [FaultUnit.isLatched, FaultUnit.isActive, setFlags_latched, setFlags_active]
  rcases h x hx with hlatched | hgone
  · cases hact : t.fault.active.getLsbD x.number with
    | false => exact .inr ⟨rfl, hacked⟩
    | true =>
      rw [FaultUnit.isLatched] at hlatched
      have hlt := x.number_lt
      left
      simp [acknowledged, hact, hlatched, hlt]
  · exact .inr hgone

/-- The active tables of a state answered: those of before, the pending set, or none by a RESTART (R152, R176, R178). -/
def TablesFollow (restarted : Prop) (s u : State) : Prop :=
  u.config.tables = s.config.tables
    ∨ (∃ pid crc, s.config.pendingSet = some (pid, crc) ∧ u.config.activeIdentity = pid ∧ u.config.activeCrc = crc
        ∧ u.config.tables = s.stagedSafety)
    ∨ (u.config.activeIdentity = 0 ∧ restarted)

theorem TablesFollow.of_config {restarted : Prop} {s t u : State} (h : TablesFollow restarted s t)
    (hc : u.config = t.config) : TablesFollow restarted s u := by
  rw [TablesFollow, hc]
  exact h

/-- The set that takes effect is the one pending (R176). -/
theorem activateIfQuiescent_tablesFollow (restarted : Prop) (s : State) :
    TablesFollow restarted s (activateIfQuiescent s) := by
  unfold activateIfQuiescent
  split
  next pid crc _ hpend =>
    split
    · refine .inr (.inl ⟨pid, crc, hpend, ?_, ?_, ?_⟩) <;> rw [takeEffect_config]
    · exact .inl rfl
  · exact .inl rfl

theorem answerConfirm_tablesFollow (restarted : Prop) (a : Arrival) (payload : List Byte) (s : State) :
    TablesFollow restarted s (answerConfirm a payload s) := by
  unfold answerConfirm confirmEffect
  split
  · exact .inl (by rw [(sendReply_touched _ _ _ _).config_eq])
  · refine TablesFollow.of_config ?_ (sendReply_touched _ _ _ _).config_eq
    split
    · exact .inl rfl
    · exact activateIfQuiescent_tablesFollow restarted (confirmed s)

theorem restartEmptied_config (code : Nat) (s : State) : (restartEmptied code s).config
    = { s.config with tables := safetyEmpty, activeIdentity := 0, activeCrc := 0 } := by
  have hkept : Touches [.portA, .portB, .axle, .tracker, .seq, .lamp, .barrier, .cmd, .fault, .queue .command,
      .queue .status, .statusPeriod] (emptySafety (raiseNotice 33 code s)) (restartEmptied code s) :=
    removeStatus_touches (by decide) (evaluateGroups_touches (by decide)
      (reinitialiseEmpty_touches (by decide) (Touches.refl _ _)))
  rw [hkept.config_eq]
  have hnotice : (raiseNotice 33 code s).config = s.config := rfl
  simp only [emptySafety, State.setConfig_config, hnotice]

theorem restartKept_config (s : State) : (restartKept s).config = s.config :=
  (restartKept_touches (L := [.portA, .portB, .axle, .tracker, .seq, .lamp, .barrier, .cmd, .fault, .queue .command,
    .statusPeriod]) (by decide) (Touches.refl _ s)).config_eq

theorem answerRestart_tablesFollow {restarted : Prop} (hr : restarted) (a : Arrival) (payload : List Byte)
    (s : State) : TablesFollow restarted s (answerRestart a payload s) := by
  unfold answerRestart
  split
  · exact .inl (by rw [(sendReply_touched _ _ _ _).config_eq])
  · refine TablesFollow.of_config ?_ (sendReply_touched _ _ _ _).config_eq
    cases restartModeOfCode (byteAt payload 0).toNat with
    | none => exact .inl rfl
    | some m =>
      cases m with
      | discard => exact .inr (.inr ⟨congrArg ConfigUnit.activeIdentity (restartEmptied_config 1 s), hr⟩)
      | keep =>
        show TablesFollow restarted s (restartKeepAccepted s)
        unfold restartKeepAccepted
        split
        · exact .inl (by rw [restartKept_config])
        · exact .inr (.inr ⟨by rw [restartEmptied_config], hr⟩)

theorem answerStageWrite_tables (a : Arrival) (payload : List Byte) (s : State) :
    (answerStageWrite a payload s).config.tables = s.config.tables := by
  have heffect : ∀ table start ws reason, (stageWriteEffect table start ws reason s).config.tables = s.config.tables := by
    intro table start ws reason
    cases table with
    | none => rw [stageWriteEffect_none]
    | some i => rw [stageWriteEffect_config]
  unfold answerStageWrite
  split
  · rw [(sendReply_touched _ _ _ _).config_eq]
  · dsimp only
    rw [(sendReply_touched _ _ _ _).config_eq]
    split
    · rw [(useFree_touched _ _).config_eq, heffect]
    · rw [heffect]

theorem answerStageRead_tables (a : Arrival) (payload : List Byte) (s : State) :
    (answerStageRead a payload s).config.tables = s.config.tables := by
  have heffect : ∀ table start n reason, (stageReadEffect table start n reason s).config.tables = s.config.tables := by
    intro table start n reason
    cases table <;> cases reason <;> rfl
  unfold answerStageRead
  split
  · rw [(sendReply_touched _ _ _ _).config_eq]
  · dsimp only
    rw [(sendReply_touched _ _ _ _).config_eq]
    split
    · rw [(useFree_touched _ _).config_eq, heffect]
    · rw [heffect]

theorem answerActivate_tables (a : Arrival) (payload : List Byte) (s : State) :
    (answerActivate a payload s).config.tables = s.config.tables := by
  unfold answerActivate activateEffect
  split
  · rw [(sendReply_touched _ _ _ _).config_eq]
  · dsimp only
    rw [(sendReply_touched _ _ _ _).config_eq]
    split <;> rfl

theorem answerActivateLoop_tables (a : Arrival) (payload : List Byte) (s : State) :
    (answerActivateLoop a payload s).config.tables = s.config.tables := by
  unfold answerActivateLoop activateLoopEffect
  split
  · rw [(sendReply_touched _ _ _ _).config_eq]
  · dsimp only
    rw [(sendReply_touched _ _ _ _).config_eq]
    split <;> rfl

/-- What follows from a state follows from any with the same configuration unit. -/
theorem TablesFollow.from_config {restarted : Prop} {s t u : State} (hc : t.config = s.config)
    (h : TablesFollow restarted t u) : TablesFollow restarted s u := by
  rw [TablesFollow, State.stagedSafety, ← hc]
  exact h

/-- The blocks a field report, an expiry or a RESTORE changes: all but the configuration unit (R152). -/
abbrev plantBlocks : List Block :=
  [.portA, .portB, .window, .axle, .tracker, .seq, .lamp, .barrier, .cmd, .fault, .freeCounter, .links,
   .queue .command, .queue .status, .queue .reply, .queue .forward, .statusPeriod]

theorem stepRule_tablesFollow {may : Port → Byte → Prop} {restarted : Prop} (hmay : ∀ p, may p 0x43 → restarted)
    (s : State) : StepRule may (fun u => u.config = s.config) (TablesFollow restarted s) (TablesFollow restarted s)
      (fun u => u.config = s.config) (TablesFollow restarted s) :=
  have frame : ∀ {u v : State}, Touches plantBlocks u v → u.config = s.config → v.config = s.config :=
    fun hT hu => hT.config_eq.trans hu
  have same : ∀ {u v : State}, Touches plantBlocks u v → u.config = s.config → TablesFollow restarted s v :=
    fun hT hu => .inl (by rw [hT.config_eq, hu])
  have kept : ∀ {u v : State}, u.config = s.config → v.config.tables = u.config.tables →
      TablesFollow restarted s v := fun hu hv => .inl (by rw [hv, hu])
  { kept := fun u h => .inl (by rw [h])
    finished := fun _ _ u _ h => h.of_config (finish_touches _ _ (by decide) (Touches.refl plantBlocks u)).config_eq
    proofed := fun _ _ u _ h =>
      h.of_config (finishProof_touches _ _ (by decide) (Touches.refl plantBlocks u)).config_eq
    settled := fun _ _ u _ h => TablesFollow.of_config
      ((activateIfQuiescent_tablesFollow restarted u).from_config h)
      (finishProof_touches _ _ (by decide) (Touches.refl plantBlocks _)).config_eq
    heard := fun p _ u _ h => frame (portHeard_touches p (by decide) (.refl _ u)) h
    passed := fun p tel u h => h.of_config (passCopy_touches p tel (by decide) (Touches.refl plantBlocks u)).config_eq
    mismatched := fun p src u h => same (noticeRoleMismatch_touches p src (by decide) (.refl _ u)) h
    stranger := fun p src u h _ =>
      same (noticeStranger_touches p src (by decide) (State.setWindow_touches _ (by decide) (.refl _ u))) h
    wheel := fun d payload u h => frame (wheelReport_touches d payload (by decide) (.refl _ u)) h
    heartbeat := fun d payload u h => frame (heartbeatReport_touches d payload (by decide) (.refl _ u)) h
    lampReport := fun j m chs u h => same (takeLampReport_touches j m chs (by decide) (.refl _ u)) h
    barrierReport := fun j m pos echo u h => frame (tellEndedProofs_touches u (by decide)
      (takeBarrierReport_touches j m pos echo (by decide) (.refl _ u))) h
    presenceReport := fun j m v u h => same (takePresenceReport_touches j m v (by decide) (.refl _ u)) h
    acknowledge := fun a payload u _ _ h => same (answerAcknowledge_touches a payload (by decide) (.refl _ u)) h
    restore := fun a payload u _ h => frame (answerRestore_touches a payload (by decide) (.refl _ u)) h
    confirm := fun a payload u _ h => (answerConfirm_tablesFollow restarted a payload u).from_config h
    restart := fun a payload u hm _ h => (answerRestart_tablesFollow (hmay _ hm) a payload u).from_config h
    historyRead := fun a payload u _ h => same (answerHistoryRead_touches a payload (by decide) (.refl _ u)) h
    identify := fun a payload u _ h => same (answerIdentify_touches a payload (by decide) (.refl _ u)) h
    stageWrite := fun a payload u _ h => kept h (answerStageWrite_tables a payload u)
    stageRead := fun a payload u _ h => kept h (answerStageRead_tables a payload u)
    activate := fun a payload u _ h => kept h (answerActivate_tables a payload u)
    activateLoop := fun a payload u _ h => kept h (answerActivateLoop_tables a payload u)
    detectorSilence := fun d r u h _ _ => frame (detectorSilent_touches d r (by decide) (.refl _ u)) h
    entryGap := fun i r u h _ _ => frame (closeEntry_touches i (by decide) (.refl _ u)) h
    scheduledStart := fun i r u h _ _ => frame (startReached_touches i (by decide) (.refl _ u)) h
    amber := fun u h _ => frame (enterRedFlash_touches (by decide) (.refl _ u)) h
    red := fun u h _ => frame (leaveRedFlash_touches (by decide) (.refl _ u)) h
    exitDelay := fun u h _ => frame (startExitLowering_touches (by decide) (.refl _ u)) h
    longClosure := fun u h _ => frame (longClosureReached_touches (by decide) (.refl _ u)) h
    lampSilence := fun j u h => same (lampModuleSilence_touches j (by decide) (.refl _ u)) h
    proving := fun b r u h _ _ =>
      frame (tellEndedProofs_touches u (by decide) (expireProof_touches b (by decide) (.refl _ u))) h
    barrierSilence := fun j u h =>
      frame (tellEndedProofs_touches u (by decide) (barrierModuleSilence_touches j (by decide) (.refl _ u))) h
    presenceSilence := fun j u h => same (presenceModuleSilence_touches j (by decide) (.refl _ u)) h
    exitWait := fun b r u h _ _ => same (expireExitWait_touches b (by decide) (.refl _ u)) h
    statusPeriod := fun u h => same (nextStatusPeriod_touches (by decide) (.refl _ u)) h
    activation := fun _ h => h
    portSilence := fun p u h => same (portGoesDown_touches p (by decide) (.refl _ u)) h
    idle := fun p u h => same (idleReached_touches p (by decide) (.refl _ u)) h
    transmission := fun p u h _ => same (transmissionDone_touches p (by decide) (.refl _ u)) h
    refresh := fun u h => same (refreshBlock_touches (by decide) (.refl _ u)) h }

/-- The command carries a telegram of this kind to this port. -/
def carries (s : State) (c : Instr) (p : Port) (kind : Byte) : Prop :=
  ∃ tel, carried s.ownAddress c = some (p, tel) ∧ tel.kind = kind

/-- Settles O54: the flags change by reports but at an ACKNOWLEDGE, the tables at the two places that copy them. -/
theorem whatOnlySomeCommandsChange : Obligations.WhatOnlySomeCommandsChange := by
  intro c s t ht hreset
  have hcarried : ∀ p tel, carried s.ownAddress c = some (p, tel) → carries s c p tel.kind :=
    fun p tel h => ⟨tel, h, rfl⟩
  have hlatched : LatchedKept (∃ p, carries s c p 0x40) s t :=
    (stepRule_of_reports (may := carries s c) (fun hr h => h.reports hr)
      fun named u p hp h => h.acknowledge named ⟨p, hp⟩).exec hreset hcarried (fun _ h => .inl h) ht
  have htables : TablesFollow (∃ p, carries s c p 0x43) s t :=
    (stepRule_tablesFollow (may := carries s c) (fun p hp => ⟨p, hp⟩) s).exec hreset hcarried rfl ht
  have hblocks : Touches eventBlocks s t :=
    (stepRule_eventBlocks (carries s c) s).exec hreset hcarried (Touches.refl _ s) ht
  refine ⟨fun x hx hgone => ?_, fun hne => ?_, hblocks .pending (by decide), hblocks .timebase (by decide)⟩
  · rcases hlatched x hx with h | ⟨hactive, p, tel, hacked⟩
    · rw [hgone] at h
      cases h
    · exact ⟨hactive, p, tel, hacked⟩
  · rcases htables with h | h | ⟨hzero, p, tel, hrestarted⟩
    · exact absurd h hne
    · exact .inl h
    · exact .inr ⟨hzero, p, tel, hrestarted⟩

end Sys2Proof.Machine
end

section
/-! PROOFS. The axle counter (chapter 1): the detectors and sections after each operation, and what every step keeps of
the sections. -/

namespace Sys2Proof.Machine

/-! ## Sections after each operation -/

theorem mapSection_eq (trk n : Nat) (f : TrackSection → TrackSection) (l : List TrackSection) :
    mapSection trk n f l = l.map fun x => if x.track = trk ∧ x.number = n then f x else x := rfl

/-- A section with the disturbance of a run of sections of a track (R9). -/
def disturbedIn (trk : Nat) (ns : List Nat) (x : TrackSection) : TrackSection :=
  if x.track = trk ∧ x.number ∈ ns then disturbed x else x

theorem disturbedIn_nil (trk : Nat) (x : TrackSection) : disturbedIn trk [] x = x := if_neg (by simp)

theorem disturbedIn_cons (trk n : Nat) (ns : List Nat) (x : TrackSection) :
    disturbedIn trk ns (if x.track = trk ∧ x.number = n then disturbed x else x) = disturbedIn trk (n :: ns) x := by
  simp only [disturbedIn, List.mem_cons]
  by_cases htrk : x.track = trk <;> by_cases hn : x.number = n <;> by_cases hns : x.number ∈ ns <;>
    simp [htrk, hn, hns, disturbed]

theorem disturbSections_axle (trk : Nat) (ns : List Nat) (s : State) : (disturbSections trk ns s).axle
    = { s.axle with sections := s.axle.sections.map (disturbedIn trk ns) } := by
  induction ns generalizing s with
  | nil =>
    have hid : disturbedIn trk [] = id := funext (disturbedIn_nil trk)
    rw [hid, List.map_id]
    rfl
  | cons n rest ih =>
    show (disturbSections trk rest (changeSection trk n disturbed s)).axle = _
    rw [ih]
    simp only [changeSection, State.setAxle_axle, mapSection_eq, List.map_map]
    congr 2
    funext x
    exact disturbedIn_cons trk n rest x

theorem disturbAdjacent_axle (d : Nat) (s : State) : (disturbAdjacent d s).axle
    = { s.axle with sections := s.axle.sections.map (disturbedIn (s.trackOf d) (adjacentSections s.detTab d)) } :=
  disturbSections_axle ..

theorem react_axle (s : State) : (react s).axle = s.axle :=
  (react_touches (L := [.portA, .portB, .tracker, .seq, .lamp, .barrier, .cmd, .fault, .queue .command]) (by decide)
    (Touches.refl _ s)).axle_eq

theorem react_config (s : State) : (react s).config = s.config :=
  (react_touches (L := [.portA, .portB, .tracker, .seq, .lamp, .barrier, .cmd, .fault, .queue .command]) (by decide)
    (Touches.refl _ s)).config_eq

/-- A section with an axle counted by `f` where `n` is its number on the track (R19). -/
def countedAt (trk : Nat) (n : Option Nat) (f : TrackSection → TrackSection) (x : TrackSection) : TrackSection :=
  if x.track = trk ∧ n = some x.number then f x else x

theorem countedAt_none (trk : Nat) (f : TrackSection → TrackSection) : countedAt trk none f = id :=
  funext fun _ => if_neg (by simp)

theorem countedAt_some (trk n : Nat) (f : TrackSection → TrackSection) :
    countedAt trk (some n) f = fun x => if x.track = trk ∧ x.number = n then f x else x := by
  funext x
  simp only [countedAt, Option.some.injEq, eq_comm]

theorem countOut_axle_eq (d : Nat) (n : Option Nat) (s : State) : (countOut d n s).axle
    = { s.axle with sections := s.axle.sections.map (countedAt (s.trackOf d) n axleOut) } := by
  cases n with
  | none => rw [countedAt_none, List.map_id]; rfl
  | some n =>
    have hchange : (changeSection (s.trackOf d) n axleOut s).axle
        = { s.axle with sections := s.axle.sections.map (countedAt (s.trackOf d) (some n) axleOut) } := by
      rw [countedAt_some]
      rfl
    show (match s.sectionAt (s.trackOf d) n with | some x => _ | none => _ : State).axle = _
    split
    · split
      · rw [raiseFault_axle, hchange]
      · exact hchange
    · exact hchange

theorem countIn_axle_eq (d : Nat) (n : Option Nat) (s : State) : (countIn d n s).axle
    = { s.axle with sections := s.axle.sections.map (countedAt (s.trackOf d) n axleIn) } := by
  cases n with
  | none => rw [countedAt_none, List.map_id]; rfl
  | some n =>
    have hchange : (changeSection (s.trackOf d) n axleIn s).axle
        = { s.axle with sections := s.axle.sections.map (countedAt (s.trackOf d) (some n) axleIn) } := by
      rw [countedAt_some]
      rfl
    show (match s.sectionAt (s.trackOf d) n with | some x => _ | none => _ : State).axle = _
    split
    · split
      · rw [raiseFault_axle, hchange]
      · exact hchange
    · exact hchange

theorem countOut_config (d : Nat) (n : Option Nat) (s : State) : (countOut d n s).config = s.config :=
  (countOut_touches (L := [.axle, .fault]) d n (by decide) (Touches.refl _ s)).config_eq

theorem State.detTab_congr {s t : State} (h : t.config = s.config) : t.detTab = s.detTab := by
  rw [State.detTab, h]; rfl

theorem State.trackOf_congr {s t : State} (h : t.config = s.config) : t.trackOf = s.trackOf := by
  funext d
  rw [State.trackOf, State.detTab_congr h]
  rfl

theorem moveAxle_axle (d : Nat) (dir : Direction) (s : State) : (moveAxle d dir s).axle
    = { s.axle with sections := s.axle.sections.map (countedAt (s.trackOf d) (sectionIn s.detTab d dir) axleIn ∘
          countedAt (s.trackOf d) (sectionOut s.detTab d dir) axleOut) } := by
  rw [moveAxle, countIn_axle_eq, countOut_axle_eq, State.trackOf_congr (countOut_config ..), List.map_map]

theorem sectionDisturbed_true (s : State) (d : Nat) :
    sectionDisturbed s d true = disturbedIn (s.trackOf d) (adjacentSections s.detTab d) := by
  funext x
  simp [sectionDisturbed, disturbedIn]

theorem sequenceGap_axle (d : Nat) (x y : Byte) (s : State) : (sequenceGap d x y s).axle
    = (disturbAdjacent d s).axle := by
  rw [sequenceGap, react_axle, raiseFault_axle]

theorem gapEffect_axle (d : Nat) (gap : Option Byte) (seq : Byte) (s : State) : (gapEffect d gap seq s).axle
    = { s.axle with sections := s.axle.sections.map (sectionDisturbed s d gap.isSome) } := by
  cases gap with
  | none =>
    have hid : sectionDisturbed s d (none : Option Byte).isSome = id := by
      funext x
      simp [sectionDisturbed]
    rw [hid, List.map_id]
    rfl
  | some expected =>
    rw [gapEffect, sequenceGap_axle, disturbAdjacent_axle, Option.isSome_some, sectionDisturbed_true]

theorem gapEffect_config (d : Nat) (gap : Option Byte) (seq : Byte) (s : State) :
    (gapEffect d gap seq s).config = s.config :=
  (gapEffect_touches (L := [.portA, .portB, .axle, .tracker, .seq, .lamp, .barrier, .cmd, .fault, .queue .command])
    d gap seq (by decide) (Touches.refl _ s)).config_eq

/-! ## A WHEEL and a HEARTBEAT -/

section
variable (d : Nat) (r : DetectorRecord) (s : State)

/-- The record of a detector heard now, with the number it sent (R11, R16, R17). -/
def heardDetector (seq : Byte) : DetectorRecord :=
  { r with lastSeq := some seq, silence := some (timePlus s.now (detectorOf s.detTab d).silence) }

theorem sectionAfterWheel_eq (gap : Bool) (dir : Direction) : sectionAfterWheel s d gap dir
    = (countedAt (s.trackOf d) (sectionIn s.detTab d dir) axleIn
        ∘ countedAt (s.trackOf d) (sectionOut s.detTab d dir) axleOut) ∘ sectionDisturbed s d gap := by
  have hout : ∀ y : TrackSection, (axleOut y).track = y.track ∧ (axleOut y).number = y.number := axleOut_keepsIdentity
  funext x
  have hdist : (sectionDisturbed s d gap x).track = x.track ∧ (sectionDisturbed s d gap x).number = x.number := by
    unfold sectionDisturbed
    split <;> exact ⟨rfl, rfl⟩
  obtain ⟨htrack, hnumber⟩ := hdist
  by_cases htrk : x.track = s.trackOf d
  · have hdis : (if gap && (adjacentSections s.detTab d).contains x.number then disturbed x else x)
        = sectionDisturbed s d gap x := by simp [sectionDisturbed, htrk]
    simp only [sectionAfterWheel, hdis, Function.comp_apply, countedAt, htrack, hnumber, htrk, true_and]
    split_ifs <;> simp_all
  · have hsame : sectionDisturbed s d gap x = x := by simp [sectionDisturbed, htrk]
    simp [sectionAfterWheel, htrk, hsame, countedAt]

theorem countWheel_axle (order interval : Nat) (seq : Byte) :
    (countWheel d r order interval seq s).2.axle
      = { detectors := s.axle.detectors.set d (some (heardDetector d r s seq))
          sections := s.axle.sections.map
            (sectionAfterWheel s d (wheelGap r seq).isSome (wheelDirection s.detTab d order)) } := by
  show (moveWheel d _ (gapEffect d _ seq (putDetector d _ s))).axle = _
  rw [moveWheel, react_axle, moveAxle_axle, gapEffect_axle, State.trackOf_congr (gapEffect_config ..),
    State.detTab_congr (gapEffect_config ..), sectionAfterWheel_eq]
  simp only [putDetector, State.setAxle_axle, List.map_map]
  rfl

theorem failDetector_axle (c : DetectorCause) : (failDetector d c r s).axle
    = { detectors := s.axle.detectors.set d (some { r with state := .failed c })
        sections := s.axle.sections.map (sectionDisturbed s d (!isFailed r.state)) } := by
  have hput : (putDetector d { r with state := .failed c } s).axle
      = { s.axle with detectors := s.axle.detectors.set d (some { r with state := .failed c }) } := rfl
  have hsame : sectionDisturbed s d false = id := funext fun _ => rfl
  have henter : ∀ u, (endDetectorFaults (enterDetectorFault d c u)).axle = u.axle := fun u =>
    (endDetectorFaults_touches (L := [.fault, .queue .command]) (by decide)
      (enterDetectorFault_touches d c (by decide) (Touches.refl _ u))).axle_eq
  have hconfig : ∀ u, (endDetectorFaults (enterDetectorFault d c u)).config = u.config := fun u =>
    (endDetectorFaults_touches (L := [.fault, .queue .command]) (by decide)
      (enterDetectorFault_touches d c (by decide) (Touches.refl _ u))).config_eq
  unfold failDetector
  dsimp only
  split
  next hc =>
    rw [hput, hc, isFailed, Bool.not_true, hsame, List.map_id]
  next =>
    rw [react_axle]
    cases hf : isFailed r.state with
    | true => rw [if_pos rfl, henter, hput, Bool.not_true, hsame, List.map_id]
    | false =>
      rw [if_neg Bool.false_ne_true, disturbAdjacent_axle, henter, hput, State.trackOf_congr (hconfig _),
        State.detTab_congr (hconfig _), Bool.not_false, sectionDisturbed_true]
      rfl

theorem passDetector_axle : (passDetector d r s).axle
    = { s.axle with detectors := s.axle.detectors.set d (some { r with state := .ok }) } := by
  have hend : ∀ u, (endDetectorFaults u).axle = u.axle := fun u =>
    (endDetectorFaults_touches (L := [.fault, .queue .command]) (by decide) (Touches.refl _ u)).axle_eq
  rw [passDetector, react_axle, hend]
  rfl

theorem sectionDisturbed_congr {s t : State} (h : t.config = s.config) : sectionDisturbed t = sectionDisturbed s := by
  funext d b x
  simp only [sectionDisturbed, State.trackOf_congr h, State.detTab_congr h]

/-- A section disturbed twice at one detector is disturbed once. -/
theorem sectionDisturbed_comp (a b : Bool) :
    sectionDisturbed s d b ∘ sectionDisturbed s d a = sectionDisturbed s d (a || b) := by
  funext x
  cases a with
  | false => rfl
  | true =>
    cases b with
    | false => rfl
    | true =>
      simp only [Function.comp_apply, sectionDisturbed_true, Bool.or_self, disturbedIn]
      split_ifs <;> rfl

theorem takeHeartbeat_axle (seq : Byte) (good : Bool) : (takeHeartbeat d r seq good s).axle
    = { detectors := s.axle.detectors.set d
          (some { heardDetector d r s seq with state := if good then .ok else .failed .headFault })
        sections := s.axle.sections.map
          (sectionDisturbed s d ((heartbeatGap r seq).isSome || (!good && !isFailed r.state))) } := by
  let u := gapEffect d (heartbeatGap r seq) seq (putDetector d (heardDetector d r s seq) s)
  have hgap : u.axle = { detectors := s.axle.detectors.set d (some (heardDetector d r s seq))
                         sections := s.axle.sections.map (sectionDisturbed s d (heartbeatGap r seq).isSome) } :=
    gapEffect_axle d (heartbeatGap r seq) seq (putDetector d (heardDetector d r s seq) s)
  have hdist : sectionDisturbed u = sectionDisturbed s := sectionDisturbed_congr (s := s) (gapEffect_config ..)
  show (if good then passDetector d (heardDetector d r s seq) u
    else failDetector d .headFault (heardDetector d r s seq) u).axle = _
  cases good with
  | true =>
    rw [if_pos rfl, passDetector_axle, hgap]
    simp only [List.set_set, Bool.not_true, Bool.false_and, Bool.or_false, if_true]
  | false =>
    rw [if_neg Bool.false_ne_true, failDetector_axle, hgap, hdist]
    simp only [List.set_set, List.map_map, sectionDisturbed_comp, Bool.not_false, Bool.true_and, if_false,
      Bool.false_eq_true]
    rfl

theorem detectorSilent_axle : (detectorSilent d r s).axle
    = { detectors := s.axle.detectors.set d (some { r with state := .failed .silent, silence := none })
        sections := s.axle.sections.map (sectionDisturbed s d (!isFailed r.state)) } := failDetector_axle ..

end

/-! ## The sections are kept sound -/

/-- A section of R6. -/
def SectionSound (x : TrackSection) : Prop :=
  x.balance ≤ 1023 ∧ (x.state = .clear → x.balance = 0) ∧ (x.state = .occupied → 0 < x.balance)

theorem SectionsSound.of_axle {s t : State} (h : SectionsSound s) (hs : t.axle.sections = s.axle.sections) :
    SectionsSound t := by
  rw [SectionsSound, hs]
  exact h

theorem SectionsSound.frame {L : List Block} {s t : State} (h : SectionsSound s) (hT : Touches L s t)
    (hL : .axle ∉ L := by decide) : SectionsSound t := h.of_axle (by rw [hT.axle_eq hL])

theorem SectionsSound.of_map {s t : State} {f : TrackSection → TrackSection} (h : SectionsSound s)
    (hf : ∀ x, SectionSound x → SectionSound (f x)) (hs : t.axle.sections = s.axle.sections.map f) :
    SectionsSound t := by
  intro x hx
  rw [hs] at hx
  obtain ⟨y, hy, rfl⟩ := List.mem_map.mp hx
  exact hf y (h y hy)

theorem disturbed_sound {x : TrackSection} (h : SectionSound x) : SectionSound (disturbed x) :=
  ⟨h.1, fun hc => (by cases hc), fun hc => (by cases hc)⟩

theorem sectionDisturbed_sound {x : TrackSection} (s : State) (d : Nat) (b : Bool) (h : SectionSound x) :
    SectionSound (sectionDisturbed s d b x) := by
  unfold sectionDisturbed
  split
  · exact disturbed_sound h
  · exact h

theorem axleIn_sound {x : TrackSection} (h : SectionSound x) : SectionSound (axleIn x) := by
  obtain ⟨hb, hc, ho⟩ := h
  unfold axleIn maxBalance
  split
  · exact ⟨hb, fun h => (by cases h), fun h => (by cases h)⟩
  next hlow =>
    refine ⟨by simp only; omega, fun h => ?_, fun _ => Nat.succ_pos _⟩
    revert h
    cases x.state <;> simp

theorem axleOut_sound {x : TrackSection} (h : SectionSound x) : SectionSound (axleOut x) := by
  obtain ⟨hb, hc, ho⟩ := h
  unfold axleOut
  split
  next hzero =>
    refine ⟨hb, fun h => ?_, fun h => ?_⟩ <;> revert h <;> cases x.state <;> simp
  next hpos =>
    refine ⟨by simp only; omega, fun h => ?_, fun h => ?_⟩
    · revert h
      cases hx : x.state <;> simp only [reduceCtorEq, false_implies]
      all_goals split_ifs with h1 <;> simp_all
    · revert h
      cases hx : x.state <;> simp only [reduceCtorEq, false_implies]
      all_goals split_ifs with h1 <;> simp_all <;> omega

theorem countedAt_sound {x : TrackSection} {f : TrackSection → TrackSection} (trk : Nat) (n : Option Nat)
    (hf : ∀ x, SectionSound x → SectionSound (f x)) (h : SectionSound x) : SectionSound (countedAt trk n f x) := by
  unfold countedAt
  split
  · exact hf x h
  · exact h

theorem sectionAfterWheel_sound {x : TrackSection} (s : State) (d : Nat) (gap : Bool) (dir : Direction)
    (h : SectionSound x) : SectionSound (sectionAfterWheel s d gap dir x) := by
  rw [sectionAfterWheel_eq]
  exact countedAt_sound _ _ (fun _ => axleIn_sound) (countedAt_sound _ _ (fun _ => axleOut_sound)
    (sectionDisturbed_sound s d gap h))

/-! ## Activation and restarts -/

/-- The end of a reinitialisation: the classes owned ended, the block stopped. -/
theorem reinitialised_touched (s : State) :
    Touches [.portA, .portB, .cmd, .fault, .queue .command] s (stopBlock (endFaults ownedClasses s)) :=
  stopBlock_touches (by decide) (endFaults_touches _ (by decide) (Touches.refl _ s))

theorem reinitialise_axle (st : SeqState) (l : List TrackSection) (s : State) :
    (reinitialise st l s).axle = { detectors := detectorsInitial s, sections := l } :=
  (reinitialised_touched _).axle_eq

theorem reinitialiseEmpty_axle (s : State) : (reinitialiseEmpty s).axle = axleEmpty :=
  (reinitialised_touched _).axle_eq

theorem formSlots_axle (s : State) : (formSlots s).axle = s.axle :=
  (formSlots_touches (L := [.portA, .portB, .cmd, .queue .command]) (by decide) (Touches.refl _ s)).axle_eq

theorem sequenceAfterActivation_touched (s : State) : Touches
    [.portA, .portB, .seq, .lamp, .barrier, .cmd, .fault, .queue .command] s (sequenceAfterActivation s) :=
  sequenceAfterActivation_touches (by decide) (Touches.refl _ s)

theorem leaveInitSafe_touched (s : State) : Touches
    [.portA, .portB, .seq, .lamp, .barrier, .cmd, .fault, .queue .command] s (leaveInitSafe s) :=
  leaveInitSafe_touches (by decide) (Touches.refl _ s)

theorem takeEffect_axle (identity crc : Word) (s : State) : (takeEffect identity crc s).axle
    = { detectors := detectorsInitial (tablesCopied identity crc s)
        sections := sectionsInitial s.stagedSafety.detector (sectionStateAtActivation s.seq.state) } := by
  show (formSlots (sequenceAfterActivation _)).axle = _
  rw [formSlots_axle, (sequenceAfterActivation_touched _).axle_eq, reinitialise_axle]
  rfl

theorem restartKept_axle (s : State) : (restartKept s).axle
    = { detectors := detectorsInitial s, sections := s.axle.sections.map disturbed } := by
  show (formSlots (leaveInitSafe _)).axle = _
  rw [formSlots_axle, (leaveInitSafe_touched _).axle_eq, reinitialise_axle]
  rfl

theorem restartEmptied_axle (code : Nat) (s : State) : (restartEmptied code s).axle = axleEmpty := by
  have hend : ∀ u, (removeStatus (evaluateGroups u)).axle = u.axle := fun u =>
    (removeStatus_touches (L := [.portA, .portB, .fault, .queue .status]) (by decide)
      (evaluateGroups_touches (by decide) (Touches.refl _ u))).axle_eq
  show (removeStatus (evaluateGroups (reinitialiseEmpty _))).axle = _
  rw [hend, reinitialiseEmpty_axle]

theorem sectionsInitial_sound (t : List Word) {st : SectionState} (hst : st = .clear ∨ st = .disturbed) :
    ∀ x ∈ sectionsInitial t st, SectionSound x := by
  intro x hx
  obtain ⟨y, _, rfl⟩ := List.mem_map.mp hx
  refine ⟨Nat.zero_le _, fun _ => rfl, fun h => ?_⟩
  rcases hst with rfl | rfl <;> cases h

/-! ## RESTORE -/

theorem restoreSection_axle (trk n : Nat) (st : SectionState) (s : State) : (restoreSection trk n st s).axle
    = { s.axle with sections := s.axle.sections.map fun x =>
          if x.track = trk ∧ x.number = n then { x with balance := 0, state := st } else x } := rfl

/-- The state an accepted RESTORE leaves its section in (R23, R24). -/
def restoredState : RestoreMode → SectionState
  | .sweep => .prepared
  | .direct => .clear

theorem restoreAccepted_axle (m : RestoreMode) (trk n : Nat) (s : State) : (restoreAccepted m trk n s).axle
    = (restoreSection trk n (restoredState m) s).axle := by
  cases m with
  | sweep => exact react_axle _
  | direct => exact react_axle _

theorem restoreSection_sectionsSound {s : State} (trk n : Nat) (m : RestoreMode) (h : SectionsSound s) :
    SectionsSound (restoreSection trk n (restoredState m) s) := by
  refine h.of_map (fun x hx => ?_) (congrArg AxleCounter.sections (restoreSection_axle ..))
  split
  · exact ⟨Nat.zero_le _, fun _ => rfl, fun hc => by cases m <;> cases hc⟩
  · exact hx

/-! ## Wheels and heartbeats -/

theorem trackWheel_axle (w : WheelPassage) (s : State) : (trackWheel w s).axle = s.axle :=
  (trackWheel_touches (L := [.portA, .portB, .tracker, .seq, .lamp, .barrier, .cmd, .fault, .queue .command,
    .queue .status]) w (by decide) (Touches.refl _ s)).axle_eq

theorem takeWheel_axle (d : Nat) (r : DetectorRecord) (order interval : Nat) (seq : Byte) (s : State) :
    (takeWheel d r order interval seq s).axle
      = { detectors := s.axle.detectors.set d (some (heardDetector d r s seq))
          sections := s.axle.sections.map
            (sectionAfterWheel s d (wheelGap r seq).isSome (wheelDirection s.detTab d order)) } := by
  rw [← countWheel_axle d r s order interval seq]
  exact trackWheel_axle ..

theorem wheelReport_sectionsSound {s : State} (d : Nat) (payload : List Byte) (h : SectionsSound s) :
    SectionsSound (wheelReport d payload s) := by
  unfold wheelReport
  split
  · exact h
  · split
    · exact h.of_map (fun _ => sectionAfterWheel_sound s d _ _)
        (congrArg AxleCounter.sections (takeWheel_axle ..))
    · exact h

theorem heartbeatReport_sectionsSound {s : State} (d : Nat) (payload : List Byte) (h : SectionsSound s) :
    SectionsSound (heartbeatReport d payload s) := by
  unfold heartbeatReport
  split
  · exact h
  · split
    · exact h
    · split
      · exact h.of_map (fun _ => sectionDisturbed_sound s d _)
          (congrArg AxleCounter.sections (takeHeartbeat_axle ..))
      · exact h

/-- A predicate of the axle counter and the tables: what is left to show for every step to keep it. -/
structure AxleRule (I : State → Prop) : Prop where
  stay : ∀ {u v}, v.config.tables = u.config.tables → v.axle = u.axle → I u → I v
  wheel : ∀ d payload u, I u → I (wheelReport d payload u)
  heartbeat : ∀ d payload u, I u → I (heartbeatReport d payload u)
  silence : ∀ d r u, I u → u.detectorRecord d = some r → I (detectorSilent d r u)
  restored : ∀ reason mode trk n u, I u → I (restoreEffect reason mode trk n u)
  anew : ∀ identity crc u, I (takeEffect identity crc u)
  kept : ∀ u, I u → I (restartKept u)
  emptied : ∀ code u, I (restartEmptied code u)

/-- The blocks an event that is no counting and no activation changes: all but the axle counter and the tables. -/
abbrev offAxleBlocks : List Block :=
  [.portA, .portB, .window, .tracker, .seq, .lamp, .barrier, .cmd, .fault, .freeCounter, .links,
   .queue .command, .queue .status, .queue .reply, .queue .forward, .statusPeriod]

namespace AxleRule

variable {I : State → Prop} {u v : State}

theorem frame (hI : AxleRule I) (h : I u) {L : List Block} (hT : Touches L u v) (hC : .config ∉ L := by decide)
    (hA : .axle ∉ L := by decide) : I v := hI.stay (by rw [hT.config_eq hC]) (hT.axle_eq hA) h

theorem replied (hI : AxleRule I) (a : Arrival) (kind : Byte) (payload : List Byte) (h : I u) :
    I (sendReply a kind payload u) := hI.frame h (sendReply_touched a kind payload u)

theorem activated (hI : AxleRule I) (h : I u) : I (activateIfQuiescent u) := by
  unfold activateIfQuiescent
  split
  · split
    · exact hI.anew _ _ u
    · exact h
  · exact h

theorem restarted (hI : AxleRule I) (m : Option RestartMode) (h : I u) : I (restartEffect m u) := by
  unfold restartEffect
  split
  · unfold restartKeepAccepted
    split
    · exact hI.kept u h
    · exact hI.emptied 0 u
  · exact hI.stay (u := restartEmptied 1 u) rfl rfl (hI.emptied 1 u)
  · exact h

theorem answerRestore (hI : AxleRule I) (a : Arrival) (payload : List Byte) (h : I u) : I (answerRestore a payload u) := by
  unfold Machine.answerRestore
  split
  · exact hI.replied _ _ _ h
  · exact hI.replied _ _ _ (hI.restored _ _ _ _ u h)

theorem answerConfirm (hI : AxleRule I) (a : Arrival) (payload : List Byte) (h : I u) : I (answerConfirm a payload u) := by
  unfold Machine.answerConfirm confirmEffect
  split
  · exact hI.replied _ _ _ h
  · refine hI.replied _ _ _ ?_
    split
    · exact h
    · exact hI.activated (hI.stay (u := u) rfl rfl h)

theorem answerRestart (hI : AxleRule I) (a : Arrival) (payload : List Byte) (h : I u) : I (answerRestart a payload u) := by
  unfold Machine.answerRestart
  split
  · exact hI.replied _ _ _ h
  · exact hI.replied _ _ _ (hI.restarted _ h)

theorem stepRule (hI : AxleRule I) (may : Port → Byte → Prop) : StepRule may I I I I I :=
  have frame : ∀ {u v : State}, Touches offAxleBlocks u v → I u → I v := fun hT h => hI.frame h hT
  have answered : ∀ {u v : State}, Touches (.config :: offAxleBlocks) u v → v.config.tables = u.config.tables →
      I u → I v := fun hT hc h => hI.stay hc hT.axle_eq h
  { kept := fun _ h => h
    finished := fun _ _ u _ h => frame (finish_touches _ _ (by decide) (.refl _ u)) h
    proofed := fun _ _ u _ h => frame (finishProof_touches _ _ (by decide) (.refl _ u)) h
    settled := fun _ _ u _ h => frame (finishProof_touches _ _ (by decide) (.refl _ _)) (hI.activated h)
    heard := fun p _ u _ h => frame (portHeard_touches p (by decide) (.refl _ u)) h
    passed := fun p tel u h => frame (passCopy_touches p tel (by decide) (.refl _ u)) h
    mismatched := fun p src u h => frame (noticeRoleMismatch_touches p src (by decide) (.refl _ u)) h
    stranger := fun p src u h _ =>
      frame (noticeStranger_touches p src (by decide) (State.setWindow_touches _ (by decide) (.refl _ u))) h
    wheel := hI.wheel
    heartbeat := hI.heartbeat
    lampReport := fun j m chs u h => frame (takeLampReport_touches j m chs (by decide) (.refl _ u)) h
    barrierReport := fun j m pos echo u h => frame (tellEndedProofs_touches u (by decide)
      (takeBarrierReport_touches j m pos echo (by decide) (.refl _ u))) h
    presenceReport := fun j m v u h => frame (takePresenceReport_touches j m v (by decide) (.refl _ u)) h
    acknowledge := fun a payload u _ _ h => frame (answerAcknowledge_touches a payload (by decide) (.refl _ u)) h
    restore := fun a payload _ _ h => hI.answerRestore a payload h
    confirm := fun a payload _ _ h => hI.answerConfirm a payload h
    restart := fun a payload _ _ _ h => hI.answerRestart a payload h
    historyRead := fun a payload u _ h => frame (answerHistoryRead_touches a payload (by decide) (.refl _ u)) h
    identify := fun a payload u _ h => frame (answerIdentify_touches a payload (by decide) (.refl _ u)) h
    stageWrite := fun a payload u _ h => answered (answerStageWrite_touches a payload (by decide) (.refl _ u))
      (answerStageWrite_tables a payload u) h
    stageRead := fun a payload u _ h => answered (answerStageRead_touches a payload (by decide) (.refl _ u))
      (answerStageRead_tables a payload u) h
    activate := fun a payload u _ h => answered (answerActivate_touches a payload (by decide) (.refl _ u))
      (answerActivate_tables a payload u) h
    activateLoop := fun a payload u _ h => answered (answerActivateLoop_touches a payload (by decide) (.refl _ u))
      (answerActivateLoop_tables a payload u) h
    detectorSilence := fun d r u h hr _ => hI.silence d r u h hr
    entryGap := fun i r u h _ _ => frame (closeEntry_touches i (by decide) (.refl _ u)) h
    scheduledStart := fun i r u h _ _ => frame (startReached_touches i (by decide) (.refl _ u)) h
    amber := fun u h _ => frame (enterRedFlash_touches (by decide) (.refl _ u)) h
    red := fun u h _ => frame (leaveRedFlash_touches (by decide) (.refl _ u)) h
    exitDelay := fun u h _ => frame (startExitLowering_touches (by decide) (.refl _ u)) h
    longClosure := fun u h _ => frame (longClosureReached_touches (by decide) (.refl _ u)) h
    lampSilence := fun j u h => frame (lampModuleSilence_touches j (by decide) (.refl _ u)) h
    proving := fun b r u h _ _ =>
      frame (tellEndedProofs_touches u (by decide) (expireProof_touches b (by decide) (.refl _ u))) h
    barrierSilence := fun j u h =>
      frame (tellEndedProofs_touches u (by decide) (barrierModuleSilence_touches j (by decide) (.refl _ u))) h
    presenceSilence := fun j u h => frame (presenceModuleSilence_touches j (by decide) (.refl _ u)) h
    exitWait := fun b r u h _ _ => frame (expireExitWait_touches b (by decide) (.refl _ u)) h
    statusPeriod := fun u h => frame (nextStatusPeriod_touches (by decide) (.refl _ u)) h
    activation := fun _ h => h
    portSilence := fun p u h => frame (portGoesDown_touches p (by decide) (.refl _ u)) h
    idle := fun p u h => frame (idleReached_touches p (by decide) (.refl _ u)) h
    transmission := fun p u h _ => frame (transmissionDone_touches p (by decide) (.refl _ u)) h
    refresh := fun u h => frame (refreshBlock_touches (by decide) (.refl _ u)) h }

theorem step (hI : AxleRule I) (hreset : ∀ strap u, I (hardwareReset strap u)) (h : I u)
    (ht : Machine.step u = .next v) : I v :=
  (hI.stepRule _).step (fun strap u _ => hreset strap u) (fun _ w hu => hI.stay (u := w) rfl rfl hu)
    (fun w hu => hI.stay (u := w) rfl rfl hu) h ht

end AxleRule

theorem sectionsSound_rule : AxleRule SectionsSound where
  stay _ ha h := h.of_axle (by rw [ha])
  wheel d payload _ h := wheelReport_sectionsSound d payload h
  heartbeat d payload _ h := heartbeatReport_sectionsSound d payload h
  silence d r u h _ := h.of_map (fun _ => sectionDisturbed_sound u d _)
    (congrArg AxleCounter.sections (detectorSilent_axle d r u))
  restored _ _ trk n u h := by
    unfold restoreEffect
    split
    · exact (restoreSection_sectionsSound _ _ _ h).of_axle (by rw [restoreAccepted_axle])
    · exact h
  anew identity crc u := by
    rw [SectionsSound, takeEffect_axle]
    exact sectionsInitial_sound _ (by cases u.seq.state <;> simp [sectionStateAtActivation])
  kept u h := h.of_map (fun _ => disturbed_sound) (congrArg AxleCounter.sections (restartKept_axle u))
  emptied code u := by
    rw [SectionsSound, restartEmptied_axle]
    simp [axleEmpty]

/-- Settles O55: the sections change by counting, disturbance, RESTORE, activation and restart alone, and each leaves
every section within R6. -/
theorem sectionsKept : Obligations.SectionsKept := fun _ _ =>
  sectionsSound_rule.step (fun _ _ x hx => by cases hx)

end Sys2Proof.Machine
end

section
/-! PROOFS. A WHEEL and a HEARTBEAT taken in, and the silence of a detector (sections 1.4, 1.5): the statements O14, O19
and O20. -/

namespace Sys2Proof.Machine

/-! ## The end of an event -/

/-- The blocks the end of an event changes. -/
abbrev endBlocks : List Block := [.portA, .portB, .barrier, .queue .status]

/-- The blocks the end of an event and the copy of its telegram change. -/
abbrev copyBlocks : List Block := [.portA, .portB, .barrier, .queue .status, .queue .forward]

/-- From the state `u` an event's effect leaves, its end evaluates the crossing proof and sends what is due; it changes
no block but `E`. -/
structure Ended (E : List Block) (u t : State) : Prop where
  touches : Touches E u t
  barrier : t.barrier = { u.barrier with proved := u.crossingProof }
  blocks : E ⊆ copyBlocks

section
variable {u t : State} {E : List Block}

theorem Ended.of_finishProof (before : State) (due : Bool) (u : State) : Ended endBlocks u (finishProof before due u) :=
  ⟨finishProof_touches _ _ (by decide) (Touches.refl _ u), finishProof_barrier before due u, by decide⟩

theorem Ended.withCopy (p : Port) (copy : Option Telegram) (h : Ended E u t) :
    Ended copyBlocks u (withCopy p copy t) := by
  refine ⟨withCopy_touches p copy (by decide) (h.touches.mono h.blocks), Eq.trans ?_ h.barrier, List.Subset.refl _⟩
  exact (withCopy_touches (L := [.portA, .portB, .queue .forward]) p copy (by decide) (Touches.refl _ t)).barrier_eq

theorem Ended.of_settleDue {before : State} {due : Bool} (hn : NotAwaiting u) :
    Ended endBlocks u (settleDue before due u) := by
  rw [settleDue_notAwaiting hn]
  exact .of_finishProof before due u

theorem Ended.of_settle {before : State} (hn : NotAwaiting u) : Ended endBlocks u (settle before u) :=
  .of_settleDue hn

theorem Ended.copied (h : Ended E u t) : Touches copyBlocks u t := h.touches.mono h.blocks

theorem Ended.axle_eq (h : Ended E u t) : t.axle = u.axle := h.copied.axle_eq

theorem Ended.fault_eq (h : Ended E u t) : t.fault = u.fault := h.copied.fault_eq

theorem Ended.tracker_eq (h : Ended E u t) : t.tracker = u.tracker := h.copied.tracker_eq

theorem Ended.seq_eq (h : Ended E u t) : t.seq = u.seq := h.copied.seq_eq

theorem Ended.onlyClasses {l : List FaultClass} {s : State} (h : Ended E u t) (hu : OnlyClasses l s u) :
    OnlyClasses l s t := hu.trans (.of_fault_eq h.fault_eq)

/-- An end of an event whose effect touches `L`, no more. -/
theorem Ended.touched {L M : List Block} {s : State} (h : Ended E u t) (hu : Touches L s u) (hL : L ⊆ M)
    (hM : E ⊆ M) : Touches M s t := (hu.mono hL).trans (h.touches.mono hM)

end

theorem Reports.from_heard {cls : List FaultClass} {g : Bool} {p : Port} {s t : State}
    (h : Reports cls (hearLink p s) g t) : OnlyClasses cls s t :=
  (OnlyClasses.of_fault_eq (hearLink_fault p s)).trans h.onlyClasses

/-! ## Events of a detector -/

section
variable {a : Arrival} {payload : List Byte} {s : State} {d : Nat} {r : DetectorRecord}

theorem hearLink_detectorRecord (p : Port) (s : State) (d : Nat) :
    (hearLink p s).detectorRecord d = s.detectorRecord d := by
  simp only [State.detectorRecord, hearLink_axle]

/-- The blocks a detector's report changes (R14). -/
abbrev detectorBlocks : List Block :=
  [.portA, .portB, .axle, .tracker, .seq, .lamp, .barrier, .cmd, .fault, .queue .command, .queue .status]

theorem wheelReport_fit (hr : s.detectorRecord d = some r) (hlen : payload.length = 4)
    (horder : byteAt payload 0 = 1 ∨ byteAt payload 0 = 2) : wheelReport d payload s
      = takeWheel d r (byteAt payload 0).toNat (wordAt payload 1).toNat (byteAt payload 3) s := by
  simp only [wheelReport, hr]
  rw [if_pos ⟨hlen, headOrderValid_iff.mpr horder⟩]

/-- A WHEEL taken in, with no activation waiting. -/
theorem exec_wheel_taken (hn : NotAwaiting s) (hc : Consumed .field s a) (hd : detectorAt s.detTab a.src = some d)
    (hr : s.detectorRecord d = some r) (hlen : payload.length = 4)
    (horder : byteAt payload 0 = 1 ∨ byteAt payload 0 = 2) :
    ∃ t, exec (.wheel a payload) s = .next t
      ∧ Ended copyBlocks (takeWheel d r (byteAt payload 0).toNat (wordAt payload 1).toNat (byteAt payload 3)
          (hearLink a.port s)) t := by
  obtain ⟨copy, hcopy⟩ := receiveField_known .wheel payload hc (knownSource_of_detector hd) (by omega)
  refine ⟨_, congrArg Host.Outcome.next hcopy, ?_⟩
  have hd' : detectorAt (hearLink a.port s).detTab a.src = some d := by rw [hearLink_detTab, hd]
  have hr' : (hearLink a.port s).detectorRecord d = some r := by rw [hearLink_detectorRecord, hr]
  simp only [takeField, takeWheelTelegram, hd', wheelReport_fit hr' hlen horder]
  have htouch := takeWheel_touches d r (byteAt payload 0).toNat (wordAt payload 1).toNat (byteAt payload 3)
    (List.Subset.refl detectorBlocks) (Touches.refl _ (hearLink a.port s))
  exact (Ended.of_settleDue (hn.heard.of_touches (by decide) htouch)).withCopy _ _

theorem healthOfCode_of_valid {b : Byte} (h : b = 1 ∨ b = 2) : healthOfCode b.toNat = some (decide (b = 1)) := by
  rcases h with rfl | rfl <;> rfl

theorem heartbeatReport_fit (hr : s.detectorRecord d = some r) (hlen : payload.length = 2)
    (hhealth : byteAt payload 1 = 1 ∨ byteAt payload 1 = 2) : heartbeatReport d payload s
      = takeHeartbeat d r (byteAt payload 0) (decide (byteAt payload 1 = 1)) s := by
  simp only [heartbeatReport, hr, healthOfCode_of_valid hhealth, hlen, if_true]

/-- A HEARTBEAT taken in, with no activation waiting. -/
theorem exec_heartbeat_taken (hn : NotAwaiting s) (hc : Consumed .field s a)
    (hd : detectorAt s.detTab a.src = some d) (hr : s.detectorRecord d = some r) (hlen : payload.length = 2)
    (hhealth : byteAt payload 1 = 1 ∨ byteAt payload 1 = 2) :
    ∃ t, exec (.heartbeat a payload) s = .next t
      ∧ Ended copyBlocks (takeHeartbeat d r (byteAt payload 0) (decide (byteAt payload 1 = 1)) (hearLink a.port s)) t := by
  obtain ⟨copy, hcopy⟩ := receiveField_known .heartbeat payload hc (knownSource_of_detector hd) (by omega)
  refine ⟨_, congrArg Host.Outcome.next hcopy, ?_⟩
  have hd' : detectorAt (hearLink a.port s).detTab a.src = some d := by rw [hearLink_detTab, hd]
  have hr' : (hearLink a.port s).detectorRecord d = some r := by rw [hearLink_detectorRecord, hr]
  simp only [takeField, takeHeartbeatTelegram, hd', heartbeatReport_fit hr' hlen hhealth]
  have htouch := takeHeartbeat_touches d r (byteAt payload 0) (decide (byteAt payload 1 = 1))
    (L := detectorBlocks) (by decide) (Touches.refl _ (hearLink a.port s))
  exact (Ended.of_settle (hn.heard.of_touches (by decide) htouch)).withCopy _ _

end

/-! ## What a wheel latches -/

section
variable {s t : State} {d : Nat} {r : DetectorRecord}

theorem sectionAt_of_map {f : TrackSection → TrackSection} (hf : KeepsIdentity f)
    (ht : t.axle.sections = s.axle.sections.map f) (trk n : Nat) : t.sectionAt trk n = (s.sectionAt trk n).map f := by
  simp only [State.sectionAt, ht, List.find?_map]
  congr 2
  funext x
  obtain ⟨htrack, hnumber⟩ := hf x
  simp only [Function.comp_apply, htrack, hnumber]

theorem sectionDisturbed_keepsIdentity (s : State) (d : Nat) (b : Bool) :
    KeepsIdentity (sectionDisturbed s d b) := by
  intro x
  unfold sectionDisturbed
  split <;> exact ⟨rfl, rfl⟩

theorem sectionDisturbed_balance (s : State) (d : Nat) (b : Bool) (x : TrackSection) :
    (sectionDisturbed s d b x).balance = x.balance := by
  unfold sectionDisturbed
  split <;> rfl

/-- A disturbed section underflows as before it was disturbed, or even where it was PREPARED (R8). -/
theorem underflows_sectionDisturbed {x : TrackSection} (b : Bool) (h : underflows x = true) :
    underflows (sectionDisturbed s d b x) = true := by
  rw [underflows_iff] at h ⊢
  rw [sectionDisturbed_balance]
  refine ⟨h.1, ?_⟩
  unfold sectionDisturbed
  split
  · simp [disturbed]
  · exact h.2

theorem countedAt_keepsIdentity {f : TrackSection → TrackSection} (trk : Nat) (n : Option Nat)
    (hf : KeepsIdentity f) : KeepsIdentity (countedAt trk n f) := by
  intro x
  unfold countedAt
  split
  · exact hf x
  · exact ⟨rfl, rfl⟩

/-- The sections on the two sides of a detector are two sections (R3). -/
theorem sectionIn_ne_sectionOut {tab : List Word} {dir : Direction} {n : Nat}
    (h : sectionIn tab d dir = some n) : sectionOut tab d dir ≠ some n := by
  cases dir <;> simp only [sectionIn, sectionOut, westSection, eastSection] at h ⊢ <;> split_ifs at h ⊢ <;>
    simp_all <;> omega

theorem gapEffect_latched (gap : Option Byte) (seq : Byte) (h : gap.isSome = true) :
    (gapEffect d gap seq s).fault.isLatched .wheelLoss = true := by
  obtain ⟨expected, rfl⟩ := Option.isSome_iff_exists.mp h
  have hraised : ∀ u, (raiseFault .wheelLoss d (256 * expected.toNat + seq.toNat) u).fault.isLatched .wheelLoss
      = true := by simp
  exact (react_reports (cls := sequenceClasses) (by simp) (.refl true)).latched_mono (hraised _)

theorem moveAxle_latched_underflow {dir : Direction} {n : Nat} {x : TrackSection}
    (hn : sectionOut s.detTab d dir = some n) (hx : s.sectionAt (s.trackOf d) n = some x)
    (h : underflows x = true) : (moveAxle d dir s).fault.isLatched .countUnderflow = true := by
  rw [moveAxle, hn]
  exact (countIn_reports (cls := [.countOverflow]) d _ (by simp) (.refl true)).latched_mono
    (countOut_isLatched_of_underflows hx h)

theorem moveAxle_latched_overflow {dir : Direction} {n : Nat} {x : TrackSection}
    (hn : sectionIn s.detTab d dir = some n) (hx : s.sectionAt (s.trackOf d) n = some x)
    (h : overflows x = true) : (moveAxle d dir s).fault.isLatched .countOverflow = true := by
  have hother := sectionIn_ne_sectionOut hn
  have hconfig : (countOut d (sectionOut s.detTab d dir) s).config = s.config := countOut_config ..
  have hkept : (countOut d (sectionOut s.detTab d dir) s).sectionAt (s.trackOf d) n = some x := by
    rw [sectionAt_of_map (countedAt_keepsIdentity _ _ axleOut_keepsIdentity)
      (congrArg AxleCounter.sections (countOut_axle_eq d (sectionOut s.detTab d dir) s)), hx, Option.map_some]
    have hnumber : x.number = n := by
      have := List.find?_some hx
      simp only [Bool.and_eq_true, decide_eq_true_eq] at this
      exact this.2
    rw [countedAt, if_neg]
    rintro ⟨_, hout⟩
    exact hother (hout.trans (by rw [hnumber]))
  rw [moveAxle, hn]
  refine countIn_isLatched_of_overflows ?_ h
  rw [State.trackOf_congr hconfig]
  exact hkept

/-- The state in which a wheel's axle is moved: the number taken, the disturbance of a gap done. -/
def wheelChecked (d : Nat) (r : DetectorRecord) (seq : Byte) (s : State) : State :=
  gapEffect d (wheelGap r seq) seq (putDetector d (heardDetector d r s seq) s)

theorem wheelChecked_config (seq : Byte) : (wheelChecked d r seq s).config = s.config :=
  gapEffect_config _ _ _ (putDetector d (heardDetector d r s seq) s)

theorem wheelChecked_sectionAt (seq : Byte) (trk n : Nat) : (wheelChecked d r seq s).sectionAt trk n
    = (s.sectionAt trk n).map (sectionDisturbed s d (wheelGap r seq).isSome) :=
  sectionAt_of_map (sectionDisturbed_keepsIdentity s d _) (congrArg AxleCounter.sections
    (gapEffect_axle d (wheelGap r seq) seq (putDetector d (heardDetector d r s seq) s))) trk n

/-- What is latched when the axle has moved is latched when the wheel is taken in. -/
theorem takeWheel_latched_of_moved {order interval : Nat} {seq : Byte} {c : FaultClass}
    (h : (moveAxle d (wheelDirection s.detTab d order) (wheelChecked d r seq s)).fault.isLatched c = true) :
    (takeWheel d r order interval seq s).fault.isLatched c = true := by
  refine Reports.latched_mono (l := classesByNumber) (g := true) ?_ h
  exact trackWheel_reports _ (by simp) (react_reports (by simp) (.refl true))

theorem takeWheel_latched_gap {order interval : Nat} {seq : Byte} (h : (wheelGap r seq).isSome = true) :
    (takeWheel d r order interval seq s).fault.isLatched .wheelLoss = true :=
  takeWheel_latched_of_moved ((moveAxle_reports (cls := classesByNumber) d _ (by simp) (.refl true)).latched_mono
    (gapEffect_latched _ _ h))

theorem takeWheel_latched_underflow {order interval n : Nat} {seq : Byte} {x : TrackSection}
    (hn : sectionOut s.detTab d (wheelDirection s.detTab d order) = some n)
    (hx : s.sectionAt (s.trackOf d) n = some x) (h : underflows x = true) :
    (takeWheel d r order interval seq s).fault.isLatched .countUnderflow = true := by
  refine takeWheel_latched_of_moved (moveAxle_latched_underflow (n := n)
    (x := sectionDisturbed s d (wheelGap r seq).isSome x) ?_ ?_ (underflows_sectionDisturbed _ h))
  · rw [State.detTab_congr (wheelChecked_config seq), hn]
  · rw [State.trackOf_congr (wheelChecked_config seq), wheelChecked_sectionAt, hx, Option.map_some]

theorem takeWheel_latched_overflow {order interval n : Nat} {seq : Byte} {x : TrackSection}
    (hn : sectionIn s.detTab d (wheelDirection s.detTab d order) = some n)
    (hx : s.sectionAt (s.trackOf d) n = some x) (h : overflows x = true) :
    (takeWheel d r order interval seq s).fault.isLatched .countOverflow = true := by
  refine takeWheel_latched_of_moved (moveAxle_latched_overflow (n := n)
    (x := sectionDisturbed s d (wheelGap r seq).isSome x) ?_ ?_ ?_)
  · rw [State.detTab_congr (wheelChecked_config seq), hn]
  · rw [State.trackOf_congr (wheelChecked_config seq), wheelChecked_sectionAt, hx, Option.map_some]
  · rw [overflows_iff, sectionDisturbed_balance]
    exact overflows_iff.mp h

theorem wheelGap_isSome (seq : Byte) : (wheelGap r seq).isSome = r.lastSeq.any fun q => seq ≠ q + 1 := by
  unfold wheelGap
  cases r.lastSeq with
  | none => rfl
  | some l => by_cases h : seq = l + 1#8 <;> simp [h]

theorem heartbeatGap_isSome (seq : Byte) : (heartbeatGap r seq).isSome = r.lastSeq.any fun q => seq ≠ q := by
  unfold heartbeatGap
  cases r.lastSeq with
  | none => rfl
  | some l => by_cases h : seq = l <;> simp [h]

end

/-- Settles O14: the detector, the sections and the latches of `takeWheel`; the end of the event leaves them. -/
theorem wheelCounted : Obligations.WheelCounted := by
  intro a payload s d r hn hc hd hr hlen horder number gap dir
  obtain ⟨t, hexec, hend⟩ := exec_wheel_taken hn hc hd hr hlen horder
  have htracks : (hearLink a.port s).trackOf = s.trackOf := State.trackOf_congr (hearLink_config ..)
  have hgap : (wheelGap r number).isSome = gap := wheelGap_isSome number
  have haxle := hend.axle_eq.trans (takeWheel_axle ..)
  refine ⟨t, hexec, ?_, ?_, fun hg => ?_, fun n x hout hx hb hs => ?_, fun n x hin hx hb => ?_, ?_,
    hend.touched (takeWheel_touches _ _ _ _ _ (List.Subset.refl _) (Touches.refl _ _)) (by decide) (by decide)⟩
  · rw [haxle]
    simp only [heardDetector, hearLink_axle, hearLink_now, hearLink_detTab]
    rfl
  · rw [haxle, hgap]
    simp only [hearLink_axle]
    congr 1
    simp only [sectionAfterWheel_eq, sectionDisturbed_congr (hearLink_config a.port s), htracks, hearLink_detTab]
    rfl
  · rw [hend.fault_eq]
    exact takeWheel_latched_gap (hgap.trans hg)
  · rw [hend.fault_eq]
    refine takeWheel_latched_underflow (n := n) (x := x) ?_ ?_ (underflows_iff.mpr ⟨hb, hs⟩)
    · rw [hearLink_detTab]; exact hout
    · rw [htracks, State.sectionAt, hearLink_axle]; exact hx
  · rw [hend.fault_eq]
    refine takeWheel_latched_overflow (n := n) (x := x) ?_ ?_ (overflows_iff.mpr hb.ge)
    · rw [hearLink_detTab]; exact hin
    · rw [htracks, State.sectionAt, hearLink_axle]; exact hx
  · exact hend.onlyClasses (takeWheel_reports d r _ _ _ (List.Subset.refl _) (.refl true)).from_heard

/-! ## The classes of a detector -/

/-- The class a cause belongs to (R13). -/
def detectorClass : DetectorCause → FaultClass
  | .silent => .detectorSilent
  | .headFault => .detectorHeadFault

section
variable {s t : State} {d : Nat} {r : DetectorRecord}

theorem detectorClass_not_mem_sequenceClasses (k : DetectorCause) : detectorClass k ∉ sequenceClasses := by
  cases k <;> decide

theorem anyDetectorFailed_congr (h : t.axle.detectors = s.axle.detectors) (k : DetectorCause) :
    t.anyDetectorFailed k = s.anyDetectorFailed k := by rw [State.anyDetectorFailed, h]; rfl

theorem endDetectorFaults_isActive (k : DetectorCause) : (endDetectorFaults s).fault.isActive (detectorClass k)
    = (s.fault.isActive (detectorClass k) && s.anyDetectorFailed k) := by
  cases k <;> simp [endDetectorFaults, detectorClass]

theorem enterDetectorFault_isActive (c k : DetectorCause) :
    (enterDetectorFault d c s).fault.isActive (detectorClass k)
      = (s.fault.isActive (detectorClass k) || decide (c = k)) := by
  cases c <;> cases k <;> simp [enterDetectorFault, detectorClass]

theorem react_isActive_detectorClass (k : DetectorCause) :
    (react s).fault.isActive (detectorClass k) = s.fault.isActive (detectorClass k) :=
  ((react_reports (cls := sequenceClasses) (by simp) (.refl true)).onlyClasses _
    (detectorClass_not_mem_sequenceClasses k)).1

theorem lt_of_detectorRecord (hr : s.detectorRecord d = some r) : d < s.axle.detectors.length := by
  by_contra hge
  rw [State.detectorRecord, List.getElem?_eq_none (by omega)] at hr
  cases hr

theorem anyDetectorFailed_of_put {k : DetectorCause} (hlt : d < s.axle.detectors.length)
    (ht : t.axle.detectors = s.axle.detectors.set d (some { r with state := .failed k })) :
    t.anyDetectorFailed k = true := by
  rw [State.anyDetectorFailed, ht, List.any_eq_true]
  exact ⟨_, List.mem_set hlt _, by simp⟩

theorem endDetectorFaults_enterDetectorFault_isActive (c k : DetectorCause) :
    (endDetectorFaults (enterDetectorFault d c s)).fault.isActive (detectorClass k)
      = ((s.fault.isActive (detectorClass k) || decide (c = k)) && s.anyDetectorFailed k) := by
  have henter := (enterDetectorFault_touches (L := [.fault]) d c (by decide) (.refl _ s)).axle_eq
  rw [endDetectorFaults_isActive, enterDetectorFault_isActive,
    anyDetectorFailed_congr (congrArg AxleCounter.detectors henter)]

theorem failDetector_of_new {c : DetectorCause} (h : r.state ≠ .failed c) : failDetector d c r s
    = react (if isFailed r.state then
        endDetectorFaults (enterDetectorFault d c (putDetector d { r with state := .failed c } s))
      else disturbAdjacent d
        (endDetectorFaults (enterDetectorFault d c (putDetector d { r with state := .failed c } s)))) := if_neg h

theorem failDetector_isActive {c : DetectorCause} (k : DetectorCause) (h : r.state ≠ .failed c) :
    (failDetector d c r s).fault.isActive (detectorClass k)
      = ((s.fault.isActive (detectorClass k) || decide (c = k)) && (failDetector d c r s).anyDetectorFailed k) := by
  have hdet : (failDetector d c r s).axle.detectors = (putDetector d { r with state := .failed c } s).axle.detectors := by
    rw [failDetector_axle]
    rfl
  have hentered := endDetectorFaults_enterDetectorFault_isActive (d := d)
    (s := putDetector d { r with state := .failed c } s) c k
  rw [anyDetectorFailed_congr hdet, failDetector_of_new h, react_isActive_detectorClass]
  split
  · exact hentered
  · rw [(disturbAdjacent_touches (L := [.axle]) d (by decide) (.refl _ _)).fault_eq]
    exact hentered

/-- Failing with a cause leaves its class active, whether or not the detector held it before (R13). -/
theorem failDetector_isActive_self {c : DetectorCause} (hr : d < s.axle.detectors.length) (h : r.state ≠ .failed c) :
    (failDetector d c r s).fault.isActive (detectorClass c) = true := by
  have hany : (failDetector d c r s).anyDetectorFailed c = true :=
    anyDetectorFailed_of_put hr (r := r) (by rw [failDetector_axle])
  rw [failDetector_isActive c h, hany]
  simp

theorem passDetector_isActive (k : DetectorCause) : (passDetector d r s).fault.isActive (detectorClass k)
    = (s.fault.isActive (detectorClass k) && (passDetector d r s).anyDetectorFailed k) := by
  have hdet : (passDetector d r s).axle.detectors = (putDetector d { r with state := .ok } s).axle.detectors := by
    rw [passDetector_axle]
    rfl
  rw [anyDetectorFailed_congr hdet, passDetector, react_isActive_detectorClass, endDetectorFaults_isActive]
  rfl

theorem gapEffect_isActive_detectorClass (gap : Option Byte) (seq : Byte) (k : DetectorCause) :
    (gapEffect d gap seq s).fault.isActive (detectorClass k) = s.fault.isActive (detectorClass k) :=
  ((gapEffect_reports (cls := .wheelLoss :: sequenceClasses) d gap seq (by simp) (.refl true)).onlyClasses _
    (by cases k <;> decide)).1

end

section
variable {s : State} {d : Nat} {r : DetectorRecord} {seq : Byte} {good : Prop} [Decidable good]

/-- The state in which a heartbeat's health is judged: the number taken, the disturbance of a gap done. -/
def heartbeatChecked (d : Nat) (r : DetectorRecord) (seq : Byte) (s : State) : State :=
  gapEffect d (heartbeatGap r seq) seq (putDetector d (heardDetector d r s seq) s)

theorem heartbeatChecked_length :
    (heartbeatChecked d r seq s).axle.detectors.length = s.axle.detectors.length := by
  rw [heartbeatChecked, gapEffect_axle]
  simp [putDetector]

theorem heartbeatChecked_isActive (k : DetectorCause) :
    (heartbeatChecked d r seq s).fault.isActive (detectorClass k) = s.fault.isActive (detectorClass k) :=
  gapEffect_isActive_detectorClass ..

theorem takeHeartbeat_of_good (h : good) : takeHeartbeat d r seq (decide good) s
    = passDetector d (heardDetector d r s seq) (heartbeatChecked d r seq s) := by
  rw [decide_eq_true h]
  rfl

theorem takeHeartbeat_of_bad (h : ¬ good) : takeHeartbeat d r seq (decide good) s
    = failDetector d .headFault (heardDetector d r s seq) (heartbeatChecked d r seq s) := by
  rw [decide_eq_false h]
  rfl

theorem takeHeartbeat_latched_gap (h : (heartbeatGap r seq).isSome = true) :
    (takeHeartbeat d r seq (decide good) s).fault.isLatched .wheelLoss = true := by
  have hlatched : (heartbeatChecked d r seq s).fault.isLatched .wheelLoss = true := gapEffect_latched _ _ h
  by_cases hg : good
  · rw [takeHeartbeat_of_good hg]
    exact (passDetector_reports (cls := classesByNumber) d _ (by simp) (.refl true)).latched_mono hlatched
  · rw [takeHeartbeat_of_bad hg]
    exact (failDetector_reports (cls := classesByNumber) d _ _ (by simp) (.refl true)).latched_mono hlatched

end

/-- Settles O19: the detector's record and sections by `takeHeartbeat_axle`; the classes by what a pass or a failure of the
detector makes of them. -/
theorem heartbeat : Obligations.Heartbeat := by
  intro a payload s d r hn hc hd hr hlen hhealth number good gap
  obtain ⟨t, hexec, hend⟩ := exec_heartbeat_taken hn hc hd hr hlen hhealth
  have hdist : sectionDisturbed (hearLink a.port s) = sectionDisturbed s := sectionDisturbed_congr (hearLink_config ..)
  have hgap : (heartbeatGap r number).isSome = gap := heartbeatGap_isSome number
  have haxle := hend.axle_eq.trans (takeHeartbeat_axle (seq := byteAt payload 0) (good := decide good) ..)
  have hany := fun k => anyDetectorFailed_congr (congrArg AxleCounter.detectors hend.axle_eq) k
  refine ⟨t, hexec, ?_, ?_, fun hg => ?_, fun hbad hstate => ?_, fun hgood => ?_, ?_,
    hend.touched (takeHeartbeat_touches (L := detectorBlocks) _ _ _ _ (by decide) (Touches.refl _ _)) (by decide) (by decide)⟩
  · rw [haxle]
    simp only [heardDetector, hearLink_axle, hearLink_now, hearLink_detTab, decide_eq_true_eq]
    rfl
  · rw [haxle, hgap, hdist]
    simp only [hearLink_axle]
  · rw [hend.fault_eq]
    exact takeHeartbeat_latched_gap (hgap.trans hg)
  · rw [hend.fault_eq, takeHeartbeat_of_bad hbad]
    exact failDetector_isActive_self (by rw [heartbeatChecked_length, hearLink_axle]; exact lt_of_detectorRecord hr) hstate
  · have hactive : ∀ k, t.fault.isActive (detectorClass k)
        = (s.fault.isActive (detectorClass k) && t.anyDetectorFailed k) := fun k => by
      rw [hend.fault_eq, hany, takeHeartbeat_of_good hgood, passDetector_isActive, heartbeatChecked_isActive,
        hearLink_fault]
    intro c hc
    simp only [List.mem_cons, List.not_mem_nil, or_false] at hc
    rcases hc with rfl | rfl
    · exact hactive .silent
    · exact hactive .headFault
  · exact hend.onlyClasses (takeHeartbeat_reports d r _ _ (List.Subset.refl _) (.refl true)).from_heard

/-- Settles O20: a detector's silence is `failDetector` with cause SILENT. -/
theorem detectorSilence : Obligations.DetectorSilence := by
  intro d s r hn hr hdue
  have hend : Ended endBlocks (detectorSilent d.val r s) (settle s (detectorSilent d.val r s)) :=
    .of_settle (hn.of_touches (by decide) (detectorSilent_touches (L := detectorBlocks) d.val r (by decide) (Touches.refl _ s)))
  refine ⟨_, congrArg Host.Outcome.next (Eq.trans (by rw [hr]; rfl) (atExpiry_of_due hdue _)), ?_, ?_, fun h => ?_, ?_, ?_⟩
  · rw [hend.axle_eq, detectorSilent_axle]
  · rw [hend.axle_eq, detectorSilent_axle]
  · rw [hend.fault_eq]
    exact failDetector_isActive_self (lt_of_detectorRecord hr) h
  · exact hend.onlyClasses (detectorSilent_reports d.val r (List.Subset.refl _) (.refl true)).onlyClasses
  · exact hend.touched (detectorSilent_touches (L := detectorBlocks) d.val r (by decide) (Touches.refl _ s)) (by decide) (by decide)

end Sys2Proof.Machine
end

section
/-! PROOFS. Expiries of the sequence, of a held barrier and of a port (sections 4.5, 4.6, 4.9, 6.5, 8.2): the statements
O24, O26, O27, O37 and O51. -/

namespace Sys2Proof.Machine

/-! ## The end of an expiry -/

theorem Ended.seq_state {E : List Block} {u t : State} (h : Ended E u t) : t.seq.state = u.seq.state := by
  rw [h.seq_eq]

/-- In a state of the sequence that is not quiescent no activation takes effect. -/
theorem Ended.of_settle_state {before u : State} (hi : u.seq.state ≠ .initSafe) (ho : u.seq.state ≠ .opened) :
    Ended endBlocks u (settle before u) := by
  rw [settle_of_no_activation before (activateIfQuiescent_of_state hi ho)]
  exact .of_finishProof before false u

/-- A capture is read of two fault units and a time. -/
theorem Captured.of_fault {c : FaultClass} {x : Byte} {d : Word} {s s' t t' : State} (h : Captured c x d s t)
    (hs : s.fault = s'.fault) (hn : s.now = s'.now) (ht : t'.fault = t.fault) : Captured c x d s' t' := by
  rw [Captured, ht, ← hs, ← hn]
  exact h

/-- ENTERED of a class not active leaves it latched (R135). -/
theorem enterFault_isLatched_self {c : FaultClass} {s : State} (x y : Nat) (h : s.fault.isActive c = false) :
    (enterFault c x y s).fault.isLatched c = true := by
  rw [FaultUnit.isLatched, enterFault_latched x y h, BitVec.getLsbD_or, FaultClass.bit_getLsbD,
    decide_eq_true rfl, Bool.or_true]

theorem crossingProof_of_not_closed {s : State} (h : s.seq.state ≠ .closed) : s.crossingProof = false := by
  simp [State.crossingProof, h]

theorem barrierDown_congr {s t : State} (h : ∀ b, (t.barrierRecord b).map (·.state) = (s.barrierRecord b).map (·.state)) :
    t.barrierDown = s.barrierDown := by
  funext b
  have hb := h b
  unfold State.barrierDown
  cases hs : s.barrierRecord b <;> cases ht : t.barrierRecord b <;> simp_all

/-- The crossing proof reads no more of a barrier's record than its state (R129). -/
theorem crossingProof_congr_states {s t : State} (hconfig : t.config = s.config) (hlamp : t.lamp = s.lamp)
    (hseq : t.seq.state = s.seq.state)
    (hrec : ∀ b, (t.barrierRecord b).map (·.state) = (s.barrierRecord b).map (·.state)) :
    t.crossingProof = s.crossingProof := by
  have hproved : t.lampProved = s.lampProved := by funext l; simp only [State.lampProved, State.lampRecord, hlamp]
  have heq : t.eqTab = s.eqTab := by simp only [State.eqTab, hconfig]
  have hcr : t.crTab = s.crTab := by simp only [State.crTab, hconfig]
  have hside : t.sideProved = s.sideProved := by
    funext k
    rw [State.sideProved, State.sideProved, State.provedRed, State.provedRed, hproved, heq, hcr]
  rw [State.crossingProof, State.crossingProof, hseq, heq, barrierDown_congr hrec, hside]

/-! ## The amber expiry -/

theorem enterRedFlash_seq (s : State) : (enterRedFlash s).seq
    = { s.seq with state := .redFlash, amber := none, red := some (timePlus s.now (tRedPreOf s.crTab)) } :=
  enterState_seq ..

theorem enterRedFlash_barrier (s : State) : (enterRedFlash s).barrier = s.barrier := enterState_barrier ..

theorem enterRedFlash_lamp (s : State) : (enterRedFlash s).lamp
    = { s.lamp with modules := s.lamp.modules.map fun m => { m with redCount := 0 } } :=
  (enterState_touches (L := [.portA, .portB, .seq, .cmd, .fault, .queue .command]) _ (by decide)
    (Touches.refl _ _)).lamp_eq

theorem enterRedFlash_onlyClasses (s : State) : OnlyClasses [.roadLightsFailed] s (enterRedFlash s) :=
  enterState_onlyClasses _ (by decide) (.of_fault_eq rfl)

/-- Settles O24: RED_FLASH is not quiescent, so no activation takes effect; what is left is the state entered. -/
theorem amberExpiry : Obligations.AmberExpiry := by
  intro s hdue
  have hstate : (enterRedFlash s).seq.state = .redFlash := congrArg Sequencer.state (enterRedFlash_seq s)
  have hend : Ended endBlocks (enterRedFlash s) (settle s (enterRedFlash s)) :=
    .of_settle_state (by simp [hstate]) (by simp [hstate])
  have hlamp := hend.touches.lamp_eq.trans (enterRedFlash_lamp s)
  refine ⟨_, congrArg Host.Outcome.next (atExpiry_of_due hdue _), hend.seq_eq.trans (enterRedFlash_seq s), ?_, ?_, ?_,
    hend.onlyClasses (enterRedFlash_onlyClasses s), ?_⟩
  · rw [hlamp]
  · rw [hlamp]
  · rw [hend.barrier, enterRedFlash_barrier, crossingProof_of_not_closed (by simp [hstate])]
  · exact hend.touched (enterRedFlash_touches (L := [.portA, .portB, .seq, .lamp, .cmd, .fault, .queue .command])
      (by decide) (Touches.refl _ s)) (by decide) (by decide)

/-! ## The exit delay expiry -/

/-- With a barrier in use exit lowering, started, ends in no quiescent state. -/
theorem startExitLowering_state {s : State} (h : barriersInUse s.eqTab ≠ []) (hi : s.seq.state ≠ .initSafe)
    (ho : s.seq.state ≠ .opened) :
    (startExitLowering s).seq.state ≠ .initSafe ∧ (startExitLowering s).seq.state ≠ .opened := by
  have hframe := exitLoweringBegun_sequenceFrame (SequenceFrame.refl _ s)
  rw [startExitLowering_eq]
  split
  · rcases enterClosed_state (s := exitLoweringBegun s) (by rwa [hframe.eqTab_eq]) with hst | hst <;> simp [hst]
  · rw [exitLoweringBegun_seq]
    exact ⟨hi, ho⟩

/-- With no EXIT barrier in use exit lowering, started, is over at once. -/
theorem startExitLowering_of_none {s : State} (h : exitBarriers s.eqTab = []) :
    startExitLowering s = enterClosed (exitLoweringBegun s) := by
  rw [startExitLowering_eq, h]
  exact if_pos rfl

/-- Settles O26: an EXIT barrier commanded up is not resolved for lowering, so exit lowering goes on; with none in use
CLOSED is entered at once. -/
theorem exitDelayExpiry : Obligations.ExitDelayExpiry := by
  constructor
  · intro s hn hdue hraised
    have hframe := startExitLowering_sequenceFrame (SequenceFrame.refl _ s)
    obtain ⟨hseq, hrec⟩ := (startExitLowering_started s).1 hraised
    obtain ⟨hmodules, hpresence, hclasses, htouches⟩ := hframe.after_finishProof s false
    refine ⟨finishProof s false (startExitLowering s), ?_, ?_, fun b hb => ?_, hmodules, hpresence, hclasses, htouches⟩
    · exact congrArg Host.Outcome.next ((atExpiry_of_due hdue _).trans
        (settle_notAwaiting (hn.of_touches (by decide) hframe.touches)))
    · rw [finishProof_seq, hseq]
    · rw [finishProof_barrierRecord, hrec b hb]
      rfl
  · intro s hquiet hdue hnone
    have hframe := startExitLowering_sequenceFrame (SequenceFrame.refl _ s)
    have hclosed := (startExitLowering_started s).2 hnone
    obtain ⟨hmodules, hpresence, hclasses, htouches⟩ := hframe.after_finishProof s false
    refine ⟨finishProof s false (startExitLowering s), ?_, ?_, hmodules, hpresence, hclasses, htouches⟩
    · refine congrArg Host.Outcome.next ((atExpiry_of_due hdue _).trans (settle_of_no_activation s ?_))
      rcases hquiet with hidle | huse
      · exact activateIfQuiescent_notAwaiting (hidle.of_touches (by decide) hframe.touches)
      · have hbegun := exitLoweringBegun_sequenceFrame (SequenceFrame.refl _ s)
        rw [startExitLowering_of_none hnone]
        rcases enterClosed_state (s := exitLoweringBegun s) (by rwa [hbegun.eqTab_eq]) with hst | hst <;>
          exact activateIfQuiescent_of_state (by simp [hst]) (by simp [hst])
    · simpa only [ClosedEntered, finishProof_seq, finishProof_fault, finishProof_barrierRecord] using hclosed

/-! ## The long closure expiry -/

section
variable {s : State}

theorem longClosureReached_seq (s : State) : (longClosureReached s).seq
    = { s.seq with longClosure := none, prolonged := s.seq.prolonged || s.demand } := by
  have hdemand : (s.setSeq { s.seq with longClosure := none }).demand = s.demand :=
    (setSeq_sequenceFrame _ (SequenceFrame.refl sequenceClasses s)).demand_eq
  have henter : ∀ (u : State) (x y : Nat), (enterFault .prolongedClosure x y u).seq = u.seq := fun u x y =>
    (enterFault_touches (L := [.fault]) _ x y (by decide) (Touches.refl _ u)).seq_eq
  unfold longClosureReached checkProlonged
  dsimp only
  rw [hdemand]
  cases s.demand <;> cases hp : s.seq.prolonged <;> simp [henter]

theorem longClosureReached_of_no_demand (h : s.demand = false) :
    longClosureReached s = s.setSeq { s.seq with longClosure := none } := by
  have hdemand : (s.setSeq { s.seq with longClosure := none }).demand = s.demand :=
    (setSeq_sequenceFrame _ (SequenceFrame.refl sequenceClasses s)).demand_eq
  unfold longClosureReached
  dsimp only
  rw [hdemand, h, if_neg Bool.false_ne_true]

/-- With demand, a closure not prolonged before becomes so, with PROLONGED_CLOSURE entered (R92). -/
theorem longClosureReached_of_demand (h : s.demand = true) (hp : s.seq.prolonged = false) :
    longClosureReached s = enterFault .prolongedClosure 0 s.demandDetail
      (s.setSeq { s.seq with longClosure := none, prolonged := true }) := by
  have hdemand : (s.setSeq { s.seq with longClosure := none }).demand = s.demand :=
    (setSeq_sequenceFrame _ (SequenceFrame.refl sequenceClasses s)).demand_eq
  unfold longClosureReached checkProlonged
  dsimp only
  rw [hdemand, h, if_pos rfl, if_pos (by simp [hp])]
  rfl

end

/-- Settles O27: with demand the expiry enters PROLONGED_CLOSURE, without it only the expiry is removed. -/
theorem longClosureExpiry : Obligations.LongClosureExpiry := by
  intro s hn hdue
  have htouch := longClosureReached_touches (L := [.seq, .fault]) (by decide) (Touches.refl _ s)
  have hend : Ended endBlocks (longClosureReached s) (settle s (longClosureReached s)) :=
    .of_settle (hn.of_touches (by decide) htouch)
  have hseq := longClosureReached_seq s
  refine ⟨_, congrArg Host.Outcome.next (atExpiry_of_due hdue _), hend.seq_eq.trans hseq, fun hd hp => ?_,
    fun hd hp ha hl => ?_, fun hd => ?_, ?_, ?_, hend.touched htouch (by decide) (by decide)⟩
  · rw [hend.fault_eq, longClosureReached_of_demand hd hp, enterFault_isActive]
    simp
  · have hcaptured : Captured .prolongedClosure 0 (BitVec.ofNat 16 s.demandDetail)
        (s.setSeq { s.seq with longClosure := none, prolonged := true }) (longClosureReached s) := by
      rw [longClosureReached_of_demand hd hp]
      exact enterFault_captured 0 _ ha hl
    exact hcaptured.of_fault rfl rfl hend.fault_eq
  · rw [hend.fault_eq, longClosureReached_of_no_demand hd]
    rfl
  · rw [hend.barrier, htouch.barrier_eq]
    rw [crossingProof_congr_states htouch.config_eq htouch.lamp_eq (by rw [hseq])
      (fun b => by rw [State.barrierRecord_congr htouch.barrier_eq])]
  · refine hend.onlyClasses ?_
    exact (longClosureReached_reports (cls := [.prolongedClosure]) (by decide) (.refl true)).onlyClasses

/-! ## The exit wait expiry -/

/-- Settles O37: the hold stands without its expiry, and CROSSING_OBSTRUCTED is entered. -/
theorem exitWaitExpiry : Obligations.ExitWaitExpiry := by
  intro b s r hr hdue
  have hexpire : expireExitWait b.val s
      = enterFault .crossingObstructed b.val s.presenceMask (putBarrier b.val { r with exitWait := none } s) := by
    simp only [expireExitWait, hr]
  have htouch := expireExitWait_touches (L := [.barrier, .fault]) b.val (by decide) (Touches.refl _ s)
  have hend := Ended.of_finishProof s false (expireExitWait b.val s)
  have hbarrier : (expireExitWait b.val s).barrier = (putBarrier b.val { r with exitWait := none } s).barrier := by
    rw [hexpire]
    exact (enterFault_touches (L := [.fault]) _ _ _ (by decide) (Touches.refl _ _)).barrier_eq
  have hproof : (expireExitWait b.val s).crossingProof = s.crossingProof := by
    refine crossingProof_congr_states htouch.config_eq htouch.lamp_eq (by rw [htouch.seq_eq]) fun x => ?_
    rw [State.barrierRecord_congr hbarrier, putBarrier_barrierRecord hr]
    split
    next hx => rw [hx, hr]; rfl
    next => rfl
  refine ⟨_, congrArg Host.Outcome.next (Eq.trans (by rw [hr]; rfl) (atExpiry_of_due hdue _)), ?_, ?_, fun ha hl => ?_,
    ?_, ?_⟩
  · rw [hend.barrier, hproof, hbarrier]
    rfl
  · rw [hend.fault_eq, hexpire, enterFault_isActive]
    simp
  · have hmask : ((if s.presenceTaken 0 then 1 else 0) + (if s.presenceTaken 1 then 2 else 0) : Word)
        = BitVec.ofNat 16 s.presenceMask := by
      unfold State.presenceMask
      split <;> split <;> rfl
    have hcaptured := enterFault_captured (s := putBarrier b.val { r with exitWait := none } s) b.val s.presenceMask ha hl
    rw [hmask]
    exact hcaptured.of_fault rfl rfl (by rw [hend.fault_eq, hexpire])
  · refine hend.onlyClasses ?_
    rw [hexpire]
    exact enterFault_onlyClasses _ _ (by decide) (.of_fault_eq rfl)
  · exact hend.touched htouch (by decide) (by decide)

/-! ## A port's silence expiry -/

section
variable {q : Port} {s : State}

/-- No status telegram joins a queue of a DOWN port. -/
theorem statusDue_port_of_down (h : (s.port q).link = .down) : (statusDue s).port q = s.port q := by
  unfold statusDue
  dsimp only
  split
  · rfl
  next hup =>
    have hne : q ≠ s.signallerPort := fun heq => hup (.inr (heq ▸ h))
    split
    · rw [State.setPort_port, if_neg hne]
    · rw [joinQueue, State.setPort_port, if_neg hne]

theorem finish_port_of_down (before : State) (due : Bool) (h : (s.port q).link = .down) :
    (finish before due s).port q = s.port q := by
  rcases finish_cases before due s with heq | heq
  · rw [heq]
  · rw [heq, statusDue_port_of_down h]

end

theorem Port.other_ne (p : Port) : p.other ≠ p := by cases p <;> decide

/-- Settles O51: what is left of the port is `portDownState`; PORT_DOWN is entered, and the end of the event can only
put a status telegram on the other port. -/
theorem portSilence : Obligations.PortSilence := by
  intro p s hdue
  have hport := portGoesDown_port p p s
  rw [if_pos rfl] at hport
  have hother := portGoesDown_port p p.other s
  rw [if_neg (Port.other_ne p)] at hother
  have hfin := finish_touches (L := [.portA, .portB, .queue .status]) s false (by decide) (Touches.refl _ (portGoesDown p s))
  have hfault := hfin.fault_eq
  refine ⟨_, congrArg Host.Outcome.next (atExpiry_of_due hdue _), ?_, ?_, fun ha => ?_, fun ha hl => ?_, ?_, ?_, ?_,
    fun c hc => ?_⟩
  · rw [finish_port_of_down _ _ (by rw [hport]; rfl), hport]
    rfl
  · rw [hfault, portGoesDown_setPort, enterFault_isActive]
    simp
  · rw [hfault]
    exact enterFault_isLatched_self _ _ (by simpa using ha)
  · have hcaptured := enterFault_captured (s := s.setPort p (portDownState (s.port p))) (portNumber p)
      (s.port p).silenceWith.toNat (by simpa using ha) (by simpa using hl)
    rw [← portGoesDown_setPort, BitVec.ofNat_toNat, BitVec.setWidth_eq] at hcaptured
    have hnumber : BitVec.ofNat 8 (portNumber p) = if p = .a then 0 else 1 := by cases p <;> rfl
    rw [← hnumber]
    exact hcaptured.of_fault (by simp) (by simp [State.now]) hfault
  · rw [portGoesDown_setPort]
    exact finish_onlyClasses _ _ (enterFault_onlyClasses _ _ (by decide) (.of_fault_eq (by simp)))
  · exact (portGoesDown_touches p (List.Subset.refl _) (Touches.refl _ s)).trans (hfin.mono (by decide))
  · rw [← hother]
    exact hfin.link (by decide) p.other
  · rw [← hother]
    exact hfin.queue (by simpa using hc) p.other

end Sys2Proof.Machine
end

section
/-! PROOFS. The command block (section 8.6): what a run of slots puts on a port, and the statement O53. -/

namespace Sys2Proof.Machine

/-! ## The entries of a block -/

/-- The entries a run of slots, the first with index `i`, puts on port `p` now (R165). -/
def slotEntries (own : Addr) (now : Time) (p : Port) (slots : List Slot) (i : Nat) : List QueueEntry :=
  ((slots.zipIdx i).filter fun x => x.1.port = p).map fun x => ⟨slotTelegram own x.1, now, some x.2⟩

theorem blockEntries_eq (s : State) (p : Port) :
    blockEntries s p = slotEntries s.ownAddress s.now p s.cmd.slots 0 := rfl

theorem slotEntries_cons_self {own : Addr} {now : Time} {p : Port} {sl : Slot} (h : sl.port = p) (rest : List Slot)
    (i : Nat) : slotEntries own now p (sl :: rest) i
      = ⟨slotTelegram own sl, now, some i⟩ :: slotEntries own now p rest (i + 1) := by
  simp [slotEntries, List.zipIdx_cons, h]

theorem slotEntries_cons_other {own : Addr} {now : Time} {p : Port} {sl : Slot} (h : sl.port ≠ p) (rest : List Slot)
    (i : Nat) : slotEntries own now p (sl :: rest) i = slotEntries own now p rest (i + 1) := by
  simp [slotEntries, List.zipIdx_cons, h]

/-! ## One slot -/

section
variable {s : State} {sl : Slot} {i : Nat} {p : Port}

theorem queueSlot_of_down (h : (s.port sl.port).link = .down) : queueSlot s sl i = s := by
  simp only [queueSlot, h]

theorem queueSlot_of_up (h : (s.port sl.port).link = .up) :
    queueSlot s sl i = joinQueue sl.port .command (slotTelegram s.ownAddress sl) (some i) s := by
  simp only [queueSlot, h]

theorem joinQueue_port_of_ne {q : Port} (c : QueueClass) (tel : Telegram) (slot : Option Nat) (h : p ≠ q) :
    (joinQueue q c tel slot s).port p = s.port p := by
  rw [joinQueue, State.setPort_port, if_neg h]

theorem queueSlot_port_other (h : sl.port ≠ p) : (queueSlot s sl i).port p = s.port p := by
  unfold queueSlot
  split
  · rfl
  · exact joinQueue_port_of_ne _ _ _ (Ne.symm h)

theorem queueSlot_ownAddress : (queueSlot s sl i).ownAddress = s.ownAddress :=
  (queueSlot_touches (L := [.portA, .portB, .queue .command]) sl i (by decide) (Touches.refl _ s)).ownAddress_eq

theorem queueSlot_now : (queueSlot s sl i).now = s.now :=
  (queueSlot_touches (L := [.portA, .portB, .queue .command]) sl i (by decide) (Touches.refl _ s)).now_eq

end

/-! ## A run of slots -/

section
variable {p : Port}

theorem queueSlots_port_of_down (slots : List Slot) (i : Nat) (s : State) (h : (s.port p).link = .down) :
    (queueSlots slots i s).port p = s.port p := by
  induction slots generalizing i s with
  | nil => rfl
  | cons sl rest ih =>
    have hslot : (queueSlot s sl i).port p = s.port p := by
      by_cases hp : sl.port = p
      · rw [queueSlot_of_down (hp ▸ h)]
      · exact queueSlot_port_other hp
    rw [queueSlots, ih _ _ (by rw [hslot]; exact h), hslot]

/-- Beside a busy transmitter every entry of the run waits, in slot order. -/
theorem queueSlots_port_of_busy (slots : List Slot) (i : Nat) (s : State) (hup : (s.port p).link = .up)
    (hbusy : (s.port p).transmitter.isSome = true) : (queueSlots slots i s).port p
      = (s.port p).setQueue .command ((s.port p).command ++ slotEntries s.ownAddress s.now p slots i) := by
  induction slots generalizing i s with
  | nil => simp [queueSlots, slotEntries, PortState.setQueue]
  | cons sl rest ih =>
    by_cases hp : sl.port = p
    · have hslot : (queueSlot s sl i).port p = (s.port p).setQueue .command
          ((s.port p).command ++ [⟨slotTelegram s.ownAddress sl, s.now, some i⟩]) := by
        rw [queueSlot_of_up (hp ▸ hup), hp, joinQueue_busy _ _ _ hbusy]
        rfl
      rw [queueSlots, ih _ _ (by rw [hslot]; exact hup) (by rw [hslot]; exact hbusy), hslot, queueSlot_ownAddress,
        queueSlot_now, slotEntries_cons_self hp]
      simp [PortState.setQueue]
    · have hslot := queueSlot_port_other (s := s) (i := i) hp
      rw [queueSlots, ih _ _ (by rw [hslot]; exact hup) (by rw [hslot]; exact hbusy), hslot, queueSlot_ownAddress,
        queueSlot_now, slotEntries_cons_other hp]

/-- With the transmitter free and nothing waiting the first entry is under way and the others wait. -/
theorem queueSlots_port_of_free (slots : List Slot) (i : Nat) (s : State) (hup : (s.port p).link = .up)
    (hfree : (s.port p).transmitter = none) (hempty : ∀ c, (s.port p).queue c = []) {e : QueueEntry}
    {rest : List QueueEntry} (he : slotEntries s.ownAddress s.now p slots i = e :: rest) :
    (queueSlots slots i s).port p
      = { (s.port p).setQueue .command rest with transmitter := some e.tel } := by
  induction slots generalizing i s with
  | nil => cases he
  | cons sl more ih =>
    by_cases hp : sl.port = p
    · rw [slotEntries_cons_self hp] at he
      obtain ⟨rfl, rfl⟩ := List.cons.inj he
      have hslot : (queueSlot s sl i).port p
          = { s.port p with transmitter := some (slotTelegram s.ownAddress sl) } := by
        rw [queueSlot_of_up (hp ▸ hup), hp, joinQueue_free _ _ _ hfree hempty]
      have hnone : (s.port p).command = [] := hempty .command
      rw [queueSlots, queueSlots_port_of_busy _ _ _ (by rw [hslot]; exact hup) (by rw [hslot]; rfl), hslot,
        queueSlot_ownAddress, queueSlot_now]
      simp [PortState.setQueue, hnone]
    · have hslot := queueSlot_port_other (s := s) (i := i) hp
      rw [slotEntries_cons_other hp] at he
      rw [queueSlots, ih _ _ (by rw [hslot]; exact hup) (by rw [hslot]; exact hfree)
        (by rw [hslot]; exact hempty) (by rw [queueSlot_ownAddress, queueSlot_now]; exact he), hslot]

end

/-! ## A block -/

section
variable {s : State} {p : Port}

theorem removeBlock_port (s : State) (p : Port) : (removeBlock s).port p = { s.port p with command := [] } := by
  cases p <;> rfl

/-- The port a new block joins: a port with no command waiting. -/
theorem startBlock_port_of_down (h : (s.port p).link = .down) : (startBlock s).port p = s.port p :=
  queueSlots_port_of_down _ _ _ h

theorem startBlock_port_of_busy (hup : (s.port p).link = .up) (hbusy : (s.port p).transmitter.isSome = true) :
    (startBlock s).port p = (s.port p).setQueue .command ((s.port p).command ++ blockEntries s p) :=
  queueSlots_port_of_busy s.cmd.slots 0 (s.setCmd { s.cmd with refresh := some (timePlus s.now (tRefreshOf s.crTab)) })
    hup hbusy

theorem startBlock_port_of_free (hup : (s.port p).link = .up) (hfree : (s.port p).transmitter = none)
    (hempty : ∀ c, (s.port p).queue c = []) {e : QueueEntry} {rest : List QueueEntry}
    (he : blockEntries s p = e :: rest) :
    (startBlock s).port p = { (s.port p).setQueue .command rest with transmitter := some e.tel } :=
  queueSlots_port_of_free s.cmd.slots 0 (s.setCmd { s.cmd with refresh := some (timePlus s.now (tRefreshOf s.crTab)) })
    hup hfree hempty he

theorem queueSlots_cmd (slots : List Slot) (i : Nat) (s : State) : (queueSlots slots i s).cmd = s.cmd :=
  (queueSlots_touches (L := [.portA, .portB, .queue .command]) slots i (by decide) (Touches.refl _ s)).cmd_eq

theorem startBlock_cmd (s : State) :
    (startBlock s).cmd = { s.cmd with refresh := some (timePlus s.now (tRefreshOf s.crTab)) } :=
  queueSlots_cmd ..

theorem blockComplete_iff : s.blockComplete = true ↔ ∀ p, (s.port p).command = [] := by
  rw [State.blockComplete, decide_eq_true_eq, State.waitingCount, Nat.add_eq_zero_iff, List.length_eq_zero_iff,
    List.length_eq_zero_iff]
  exact ⟨fun ⟨ha, hb⟩ p => by cases p; exacts [ha, hb], fun h => ⟨h .a, h .b⟩⟩

/-- The state the refresh expiry starts the new block in: the old one removed, an overrun raised (R165, R167). -/
def refreshCleared (s : State) : State :=
  if s.blockComplete then s
  else raiseFault .commandOverrun (s.blockPointer.getD 0) s.waitingCount (removeBlock s)

theorem refreshBlock_eq (s : State) : refreshBlock s = startBlock (refreshCleared s) := by
  unfold refreshBlock refreshCleared
  split <;> rfl

theorem refreshCleared_port (s : State) (p : Port) : (refreshCleared s).port p = { s.port p with command := [] } := by
  unfold refreshCleared
  split
  next h => rw [← blockComplete_iff.mp h p]
  next =>
    rw [← removeBlock_port]
    exact (raiseFault_touches (L := [.fault]) _ _ _ (by decide) (Touches.refl _ (removeBlock s))).port_eq (p := p)

theorem refreshCleared_touches :
    Touches [.portA, .portB, .fault, .queue .command] s (refreshCleared s) := by
  unfold refreshCleared
  split
  · exact Touches.refl _ s
  · exact raiseFault_touches _ _ _ (by decide) (removeBlock_touches (by decide) (Touches.refl _ s))

theorem refreshCleared_blockEntries (s : State) (p : Port) : blockEntries (refreshCleared s) p = blockEntries s p := by
  simp only [blockEntries, refreshCleared_touches.cmd_eq, refreshCleared_touches.now_eq,
    refreshCleared_touches.ownAddress_eq]

theorem startBlock_fault (s : State) : (startBlock s).fault = s.fault :=
  (startBlock_touches (L := [.portA, .portB, .cmd, .queue .command]) (by decide) (Touches.refl _ s)).fault_eq

end

/-- Settles O53: the new block joins ports on which no command waits; the end of the event leaves the COMMAND queues. -/
theorem refresh : Obligations.Refresh := by
  intro s hdue
  have hcleared := refreshCleared_touches (s := s)
  have hfin := finish_touches (L := [.portA, .portB, .queue .status]) s false (by decide) (Touches.refl _ (refreshBlock s))
  have hport : ∀ p, (refreshBlock s).port p = (startBlock (refreshCleared s)).port p := fun p => by rw [refreshBlock_eq]
  have hfault : (finish s false (refreshBlock s)).fault = (refreshCleared s).fault := by
    rw [hfin.fault_eq, refreshBlock_eq, startBlock_fault]
  have hlink : ∀ p, ((refreshCleared s).port p).link = (s.port p).link := fun p => by rw [refreshCleared_port]
  have htrans : ∀ p, ((refreshCleared s).port p).transmitter = (s.port p).transmitter := fun p => by
    rw [refreshCleared_port]
  refine ⟨_, congrArg Host.Outcome.next (atExpiry_of_due hdue _), ?_, fun p hup hbusy => ?_,
    fun p hup hfree hempty e rest he => ?_, fun p hdown => ?_, fun ha hb => ?_, fun hwaits => ?_, ?_⟩
  · rw [hfin.cmd_eq, refreshBlock_eq, startBlock_cmd, hcleared.cmd_eq, hcleared.now_eq, hcleared.crTab_eq]
  · have hstarted := startBlock_port_of_busy (s := refreshCleared s) (p := p) (by rw [hlink, hup])
      (by rw [htrans]; exact hbusy)
    rw [refreshCleared_port, refreshCleared_blockEntries, ← hport] at hstarted
    obtain ⟨hqueue, htransmitter⟩ := (hfin.queue (c := .command) (by decide) p).1 (by rw [hstarted]; exact hbusy)
    rw [hstarted] at hqueue htransmitter
    exact ⟨hqueue, htransmitter⟩
  · have hstarted := startBlock_port_of_free (s := refreshCleared s) (p := p) (by rw [hlink, hup])
      (by rw [htrans, hfree]) (fun c => by
        rw [refreshCleared_port]
        cases c
        · rfl
        · exact hempty .status
        · exact hempty .reply
        · exact hempty .forward) (by rw [refreshCleared_blockEntries, he])
    rw [refreshCleared_port, ← hport] at hstarted
    obtain ⟨hqueue, htransmitter⟩ := (hfin.queue (c := .command) (by decide) p).1 (by rw [hstarted]; rfl)
    rw [hstarted] at hqueue htransmitter
    exact ⟨hqueue, htransmitter⟩
  · have hstarted := startBlock_port_of_down (s := refreshCleared s) (p := p) (by rw [hlink, hdown])
    rw [refreshCleared_port, ← hport] at hstarted
    exact (hfin.queue (c := .command) (by decide) p).2 (by rw [hstarted]; rfl)
  · rw [hfault, refreshCleared, if_pos (blockComplete_iff.mpr fun p => by cases p; exacts [ha, hb])]
  · have hnot : ¬ s.blockComplete = true := fun h =>
      hwaits.elim (fun ha => ha (blockComplete_iff.mp h .a)) (fun hb => hb (blockComplete_iff.mp h .b))
    rw [hfault, refreshCleared, if_neg hnot]
    simp [removeBlock]
  · exact (refreshBlock_touches (by decide) (Touches.refl _ s)).trans (hfin.mono (by decide))

end Sys2Proof.Machine
end

section
/-! PROOFS. The train tracker (chapter 2): what the sequencer's reaction leaves of the pool, places in the pool,
retirement, and the statements O16, O17, O21 and O22. -/

namespace Sys2Proof.Machine

/-! ## The counting fields of a record -/

section
variable {w : WheelPassage} {creation : Bool} {r : TrainRecord} {s : State}

theorem counts_warnRecord (now : Time) (r : TrainRecord) : counts (warnRecord now r) = counts r := rfl

theorem counts_scheduleCall : counts (scheduleCall w creation r s).1 = counts r := by
  obtain ⟨short, _, _, _, hx⟩ := scheduleCall_record (w := w) (creation := creation) (r := r) (s := s)
  rw [hx]
  rfl

theorem counts_checkCall : counts (checkCall w r s).1 = counts r := by
  obtain ⟨_, _, _, hx⟩ := speedStages_record (w := w) (creation := false) (r := r) (s := s)
  rw [checkCall, hx]
  rfl

theorem counts_islandCall : counts (islandCall w creation r s).1 = counts r := by
  obtain ⟨_, _, _, _, _, hx⟩ := islandWarned_record (w := w) (creation := creation) (r := r) (s := s)
  rw [islandCall_eq, judgeAchieved_record, hx]
  rfl

theorem counts_actOnStart (now : Time) (r : TrainRecord) : counts (actOnStart now r) = counts r := by
  unfold actOnStart
  (repeat' split) <;> rfl

theorem counts_headPassage (k ke : Nat) : counts (headPassage w k ke r s).1
    = counts { r with headDetector := k, headTime := w.passage } := by
  unfold headPassage headCall
  dsimp only
  rw [counts_actOnStart]
  split
  · exact counts_islandCall
  · split
    · exact counts_scheduleCall
    · exact counts_checkCall

end

/-! What the counting reads of a record is in its counts. -/

section
variable {r x : TrainRecord}

theorem passed_of_counts (h : counts r = counts x) : r.passed = x.passed := congrArg (·.passed) h

theorem passedAt_of_counts (h : counts r = counts x) : passedAt r = passedAt x := by
  funext k
  rw [passedAt, passedAt, passed_of_counts h]

theorem approach_of_counts (h : counts r = counts x) : r.approach = x.approach := congrArg (·.approach) h

theorem entryOpen_of_counts (h : counts r = counts x) : r.entryOpen = x.entryOpen := congrArg (·.entryOpen) h

theorem tag_of_counts (h : counts r = counts x) : r.tag = x.tag := congrArg (·.tag) h

theorem retirement_of_counts (t : List Word) (h : counts r = counts x) : retirement t r = retirement t x := by
  unfold retirement
  rw [passedAt_of_counts h, approach_of_counts h, entryOpen_of_counts h]

theorem canTakeInward_counts (a k : Nat) : canTakeInward a k ∘ counts = canTakeInward a k := rfl

end

/-! ## Records warned -/

/-- `f` makes some APPROACHING records WARNED now and leaves every other record (R45, R47). -/
def Warns (now : Time) (f : TrainRecord → TrainRecord) : Prop :=
  ∀ r, f r = r ∨ r.state = .approaching ∧ f r = warnRecord now r

theorem Warns.id (now : Time) : Warns now id := fun _ => .inl rfl

theorem Warns.comp {now : Time} {f g : TrainRecord → TrainRecord} (hg : Warns now g) (hf : Warns now f) :
    Warns now (g ∘ f) := by
  intro r
  rcases hf r with h | ⟨ha, h⟩
  · simp only [Function.comp_apply, h]
    exact hg r
  · refine .inr ⟨ha, ?_⟩
    simp only [Function.comp_apply, h]
    rcases hg (warnRecord now r) with hw | ⟨hstate, -⟩
    · exact hw
    · cases hstate

theorem Warns.counts_eq {now : Time} {f : TrainRecord → TrainRecord} (h : Warns now f) (r : TrainRecord) :
    counts (f r) = counts r := by
  rcases h r with hr | ⟨-, hr⟩
  · rw [hr]
  · rw [hr, counts_warnRecord]

/-- A record that is not APPROACHING is left. -/
theorem Warns.of_not_approaching {now : Time} {f : TrainRecord → TrainRecord} (h : Warns now f) {r : TrainRecord}
    (hr : r.state ≠ .approaching) : f r = r := (h r).resolve_right fun ⟨ha, _⟩ => hr ha

/-- A record that is APPROACHING still has not been warned. -/
theorem Warns.of_approaching {now : Time} {f : TrainRecord → TrainRecord} (h : Warns now f) {r : TrainRecord}
    (hr : (f r).state = .approaching) : f r = r := by
  rcases h r with heq | ⟨-, heq⟩
  · exact heq
  · rw [heq] at hr
    cases hr

/-- From `s` to `t` the pool holds the same records but for some made WARNED, and the same next tag. -/
def PoolWarned (s t : State) : Prop :=
  ∃ f, Warns s.now f ∧ t.tracker.records = s.tracker.records.map f ∧ t.tracker.nextTag = s.tracker.nextTag

section
variable {s t : State}

theorem PoolWarned.of_tracker (h : t.tracker = s.tracker) : PoolWarned s t :=
  ⟨id, .id _, by rw [h, List.map_id], by rw [h]⟩

theorem PoolWarned.trans {u : State} (h : PoolWarned s t) (k : PoolWarned t u) (hn : t.now = s.now) :
    PoolWarned s u := by
  obtain ⟨f, hf, hrec, htag⟩ := h
  obtain ⟨g, hg, hrec', htag'⟩ := k
  exact ⟨g ∘ f, .comp (hn ▸ hg) hf, by rw [hrec', hrec, List.map_map], htag'.trans htag⟩

theorem PoolWarned.counts_eq (h : PoolWarned s t) :
    t.tracker.records.map counts = s.tracker.records.map counts := by
  obtain ⟨f, hf, hrec, -⟩ := h
  rw [hrec, List.map_map]
  exact List.map_congr_left fun r _ => hf.counts_eq r

theorem PoolWarned.nextTag_eq (h : PoolWarned s t) : t.tracker.nextTag = s.tracker.nextTag := by
  obtain ⟨_, _, _, htag⟩ := h
  exact htag

theorem superviseRecord_warns (s : State) : Warns s.now (superviseRecord s) := by
  intro r
  unfold superviseRecord
  split
  next h => exact .inr ⟨h.1, rfl⟩
  next => exact .inl rfl

theorem actOnDemand_tracker (s : State) : (actOnDemand s).tracker = s.tracker :=
  (actOnDemand_touches (L := [.portA, .portB, .seq, .lamp, .barrier, .cmd, .fault, .queue .command]) (by decide)
    (Touches.refl _ s)).tracker_eq

/-- The tracker after a reaction: overflow flags that may clear cleared, records of unsupervised approaches warned
(R35, R47). -/
theorem react_tracker (s : State) : (react s).tracker = { s.tracker with
    overflow := (clearOverflow s).tracker.overflow
    records := s.tracker.records.map (superviseRecord (clearOverflow s)) } := actOnDemand_tracker _

theorem react_poolWarned (s : State) : PoolWarned s (react s) := by
  refine ⟨superviseRecord (clearOverflow s), superviseRecord_warns _, ?_, ?_⟩ <;> rw [react_tracker]

theorem react_now (s : State) : (react s).now = s.now :=
  (react_touches (L := [.portA, .portB, .tracker, .seq, .lamp, .barrier, .cmd, .fault, .queue .command]) (by decide)
    (Touches.refl _ s)).now_eq

end

/-! ## Retirement -/

theorem set_of_getElem? {α : Type} {l : List α} {i : Nat} {x : α} (h : l[i]? = some x) : l.set i x = l := by
  obtain ⟨hi, rfl⟩ := List.getElem?_eq_some_iff.mp h
  exact List.set_getElem_self hi

section
variable {s : State} {i : Nat} {r : TrainRecord}

theorem handPassageReport_tracker (o : PassageOutcome) (r : TrainRecord) (s : State) :
    (handPassageReport o r s).tracker = s.tracker :=
  (handPassageReport_touches (L := [.portA, .portB, .fault, .queue .status]) o r (by decide) (Touches.refl _ s)).tracker_eq

theorem checkRetirement_of_stays (hr : s.tracker.records[i]? = some r) (h : retirement s.detTab r = none) :
    checkRetirement i s = s := by
  simp only [checkRetirement, hr, h]

theorem checkRetirement_of_retires (hr : s.tracker.records[i]? = some r) {o : PassageOutcome}
    (h : retirement s.detTab r = some o) : checkRetirement i s = (handPassageReport o r s).setTracker
      { s.tracker with records := s.tracker.records.eraseIdx i } := by
  simp only [checkRetirement, hr, h, handPassageReport_tracker]

theorem checkRetirement_tracker (hr : s.tracker.records[i]? = some r) : (checkRetirement i s).tracker
    = if (retirement s.detTab r).isNone then s.tracker
      else { s.tracker with records := s.tracker.records.eraseIdx i } := by
  cases h : retirement s.detTab r with
  | none => rw [checkRetirement_of_stays hr h]; rfl
  | some o => rw [checkRetirement_of_retires hr h]; rfl

/-- The record at a place replaced and checked for retirement. -/
theorem checkRetirement_putRecord_tracker (hi : i < s.tracker.records.length) (r : TrainRecord) :
    (checkRetirement i (putRecord i r s)).tracker = if (retirement s.detTab r).isNone then
      { s.tracker with records := s.tracker.records.set i r }
      else { s.tracker with records := s.tracker.records.eraseIdx i } := by
  have hr : (putRecord i r s).tracker.records[i]? = some r := by
    rw [putRecord, State.setTracker_tracker]
    exact List.getElem?_set_self hi
  have hdet : (putRecord i r s).detTab = s.detTab := rfl
  rw [checkRetirement_tracker hr, hdet]
  split
  · rfl
  · rw [putRecord, State.setTracker_tracker, List.eraseIdx_set_eq]

/-- Its counts: replaced, or gone. -/
theorem checkRetirement_putRecord_counts (hi : i < s.tracker.records.length) (r : TrainRecord) :
    (checkRetirement i (putRecord i r s)).tracker.records.map counts = if (retirement s.detTab r).isNone then
      (s.tracker.records.map counts).set i (counts r) else (s.tracker.records.map counts).eraseIdx i := by
  rw [checkRetirement_putRecord_tracker hi]
  split
  · exact List.map_set
  · exact (List.eraseIdx_map ..).symm

theorem checkRetirement_nextTag (i : Nat) (s : State) :
    (checkRetirement i s).tracker.nextTag = s.tracker.nextTag := by
  cases hr : s.tracker.records[i]? with
  | none => simp only [checkRetirement, hr]
  | some r => rw [checkRetirement_tracker hr]; split <;> rfl

end

/-! ## A record found by its tag -/

theorem recordWithTag_place {s : State} {tag : Byte} {i : Nat} {r : TrainRecord}
    (h : s.recordWithTag tag = some (i, r)) : s.tracker.records[i]? = some r := by
  simp only [State.recordWithTag, Option.bind_eq_some_iff, Option.map_eq_some_iff, Prod.mk.injEq] at h
  obtain ⟨j, -, x, hx, rfl, rfl⟩ := h
  exact hx

/-! ## The entry gap and the scheduled start -/

/-- Settles O21: the entry closed and the record checked for retirement; the reaction only warns records. -/
theorem entryGap : Obligations.EntryGap := by
  intro tag s i r hn htag hopen hdue y
  have hr := recordWithTag_place htag
  have hi : i < s.tracker.records.length := (List.getElem?_eq_some_iff.mp hr).1
  have hclose : closeEntry i s = react (checkRetirement i (putRecord i y s)) := by
    simp only [closeEntry, hr]
    rfl
  have htouch := closeEntry_touches (L := [.portA, .portB, .tracker, .seq, .lamp, .barrier, .cmd, .fault,
    .queue .command, .queue .status]) i (by decide) (Touches.refl _ s)
  have hend : Ended endBlocks (closeEntry i s) (settle s (closeEntry i s)) := .of_settle (hn.of_touches (by decide) htouch)
  have hexpiry : entryGapExpiry s.crTab r = some s.now := by rw [entryGapExpiry, if_pos hopen, hdue]
  have hreact := react_poolWarned (checkRetirement i (putRecord i y s))
  rw [← hclose] at hreact
  refine ⟨_, congrArg Host.Outcome.next (Eq.trans (by rw [htag]; rfl) (atExpiry_of_due hexpiry _)), ?_, ?_, ?_, ?_⟩
  · rw [hend.tracker_eq, hreact.counts_eq]
    exact checkRetirement_putRecord_counts hi y
  · rw [hend.tracker_eq, hreact.nextTag_eq, checkRetirement_nextTag]
    rfl
  · exact hend.onlyClasses (closeEntry_reports i (List.Subset.refl _) (.refl true)).onlyClasses
  · exact hend.touched htouch (by decide) (by decide)

theorem setOnset_seq (s : State) : (setOnset s).seq = { s.seq with
    onset := some s.now, longClosure := some (timePlus s.now (tLongClosureOf s.crTab)) } :=
  (unproveRedLamps_touches (L := [.lamp, .fault]) (by decide) (Touches.refl _ _)).seq_eq

theorem setOnset_touched (s : State) : Touches [.seq, .lamp, .fault] s (setOnset s) :=
  setOnset_touches (by decide) (Touches.refl _ s)

theorem enterAmber_seq (s : State) : (enterAmber s).seq = { s.seq with
    state := .amber, onset := some s.now, amber := some (timePlus s.now (tAmberOf s.crTab))
    longClosure := some (timePlus s.now (tLongClosureOf s.crTab)) } := by
  have hset := setOnset_touched s
  show (enterState .amber ((setOnset s).setSeq _)).seq = _
  rw [enterState_seq, State.setSeq_seq, setOnset_seq, hset.now_eq, hset.crTab_eq]

/-- From OPEN a record WARNED is demand: AMBER is entered (R45, R75, R78). -/
theorem react_seq_of_opened {s : State} (ho : s.seq.state = .opened)
    (hr : ∃ r ∈ s.tracker.records, r.state ≠ .approaching) : (react s).seq = { s.seq with
      state := .amber, onset := some s.now, amber := some (timePlus s.now (tAmberOf s.crTab))
      longClosure := some (timePlus s.now (tLongClosureOf s.crTab)) } := by
  have hdemand : (warnUnsupervised (clearOverflow s)).demand = true := by
    obtain ⟨r, hmem, hstate⟩ := hr
    have hrecord : (warnUnsupervised (clearOverflow s)).recordDemand = true := by
      rw [State.recordDemand, List.any_eq_true]
      refine ⟨superviseRecord (clearOverflow s) r, List.mem_map.mpr ⟨r, hmem, rfl⟩, ?_⟩
      rw [(superviseRecord_warns _).of_not_approaching hstate]
      exact decide_eq_true hstate
    rw [State.demand, hrecord, Bool.true_or, Bool.true_or]
  have hopened : (warnUnsupervised (clearOverflow s)).seq.state = .opened := ho
  unfold react actOnDemand
  rw [hopened]
  dsimp only
  rw [if_pos hdemand, enterAmber_seq]
  rfl

/-- Settles O22: the record WARNED stays so through the reaction, and is demand. -/
theorem scheduledStartCloses : Obligations.ScheduledStartCloses := by
  intro tag s i r hn htag hstate hdue
  have hr := recordWithTag_place htag
  have hi : i < s.tracker.records.length := (List.getElem?_eq_some_iff.mp hr).1
  have hstart : startReached i s = react (putRecord i (warnRecord s.now r) s) := by
    simp only [startReached, hr]
  have htouch := startReached_touches (L := [.portA, .portB, .tracker, .seq, .lamp, .barrier, .cmd, .fault,
    .queue .command]) i (by decide) (Touches.refl _ s)
  have hend : Ended endBlocks (startReached i s) (settle s (startReached i s)) := .of_settle (hn.of_touches (by decide) htouch)
  have hexpiry : approachingStart r = some s.now := by rw [approachingStart, if_pos hstate, hdue]
  have hput : (putRecord i (warnRecord s.now r) s).tracker.records[i]? = some (warnRecord s.now r) := by
    rw [putRecord, State.setTracker_tracker]
    exact List.getElem?_set_self hi
  refine ⟨_, congrArg Host.Outcome.next (Eq.trans (by rw [htag]; rfl) (atExpiry_of_due hexpiry _)), ?_, ?_, fun ho => ?_,
    ?_, ?_⟩
  · obtain ⟨f, hf, hrec, -⟩ := react_poolWarned (putRecord i (warnRecord s.now r) s)
    rw [hend.tracker_eq, hstart, hrec, List.getElem?_map, hput, Option.map_some,
      hf.of_not_approaching (by simp [warnRecord])]
    rfl
  · rw [hend.tracker_eq, hstart, (react_poolWarned _).counts_eq, putRecord, State.setTracker_tracker, List.map_set,
      counts_warnRecord]
    exact set_of_getElem? (by rw [List.getElem?_map, hr]; rfl)
  · rw [hend.seq_eq, hstart, react_seq_of_opened (s := putRecord i (warnRecord s.now r) s) ho
      ⟨_, List.mem_of_getElem? hput, by simp [warnRecord]⟩]
    rfl
  · exact hend.onlyClasses (startReached_reports i (List.Subset.refl _) (.refl true)).onlyClasses
  · exact hend.touched htouch (by decide) (by decide)

/-! ## A wheel taken in at a detector -/

/-- The passage `w` of a wheel at detector `d`, and the state `u` the train tracker receives it in (R20, R31). -/
structure Passage (s : State) (d : Nat) (dir : Direction) (w : WheelPassage) (u : State) : Prop where
  detector : w.detector = d
  track : w.track = s.trackOf d
  direction : w.direction = dir
  passage : w.passage = s.passageTime d
  config : u.config = s.config
  now : u.now = s.now
  pool : PoolWarned s u

section
variable {s : State} {d : Nat} {dir : Direction} {r : DetectorRecord} {w : WheelPassage} {u : State}

theorem gapEffect_poolWarned (gap : Option Byte) (seq : Byte) (s : State) : PoolWarned s (gapEffect d gap seq s) := by
  cases gap with
  | none => exact .of_tracker rfl
  | some expected =>
    have htouch : Touches [.axle, .fault] s
        (raiseFault .wheelLoss d (256 * expected.toNat + seq.toNat) (disturbAdjacent d s)) :=
      raiseFault_touches _ _ _ (by decide) (disturbAdjacent_touches d (by decide) (Touches.refl _ s))
    exact (PoolWarned.of_tracker htouch.tracker_eq).trans (react_poolWarned _) htouch.now_eq

theorem gapEffect_now (gap : Option Byte) (seq : Byte) (s : State) : (gapEffect d gap seq s).now = s.now :=
  (gapEffect_touches (L := [.portA, .portB, .axle, .tracker, .seq, .lamp, .barrier, .cmd, .fault, .queue .command])
    d gap seq (by decide) (Touches.refl _ s)).now_eq

theorem moveAxle_touched (d : Nat) (dir : Direction) (s : State) : Touches [.axle, .fault] s (moveAxle d dir s) :=
  moveAxle_touches d dir (by decide) (Touches.refl _ s)

theorem countWheel_passage (order interval : Nat) (seq : Byte) (hdir : dir = wheelDirection s.detTab d order) :
    Passage s d dir (countWheel d r order interval seq s).1 (countWheel d r order interval seq s).2 := by
  have hconfig : (wheelChecked d r seq s).config = s.config := wheelChecked_config seq
  have hnow : (wheelChecked d r seq s).now = s.now := gapEffect_now _ _ (putDetector d (heardDetector d r s seq) s)
  have hmoved := moveAxle_touched d (wheelDirection s.detTab d order) (wheelChecked d r seq s)
  have hpool : PoolWarned s (wheelChecked d r seq s) :=
    gapEffect_poolWarned (wheelGap r seq) seq (putDetector d (heardDetector d r s seq) s)
  refine ⟨rfl, congrFun (State.trackOf_congr hconfig) d, hdir.symm, ?_, ?_, ?_, ?_⟩
  · show (wheelChecked d r seq s).now - BitVec.ofNat 32 (detectorOf (wheelChecked d r seq s).detTab d).latency = _
    rw [hnow, State.detTab_congr hconfig]
    rfl
  · exact (react_config _).trans (hmoved.config_eq.trans hconfig)
  · exact (react_now _).trans (hmoved.now_eq.trans hnow)
  · exact hpool.trans ((PoolWarned.of_tracker hmoved.tracker_eq).trans (react_poolWarned _) hmoved.now_eq) hnow

/-- A WHEEL taken in is counted, then handed to the train tracker; the end of the event leaves what it makes of it. -/
theorem exec_wheel_counted {a : Arrival} {payload : List Byte} (h : WheelAt s a payload d dir) :
    ∃ t r order interval seq w u, exec (.wheel a payload) s = .next t ∧ dir = wheelDirection s.detTab d order
      ∧ countWheel d r order interval seq (hearLink a.port s) = (w, u)
      ∧ t.tracker = (trackWheel w u).tracker ∧ t.fault = (trackWheel w u).fault := by
  obtain ⟨hquiet, hconsumed, hmatched, hsome, hwhole, horder, hdir⟩ := h
  obtain ⟨r, hr⟩ := Option.isSome_iff_exists.mp hsome
  obtain ⟨t, hexec, hend⟩ := exec_wheel_taken hquiet hconsumed hmatched hr hwhole horder
  exact ⟨t, r, _, _, _, _, _, hexec, hdir, rfl, hend.tracker_eq, hend.fault_eq⟩

theorem Passage.of_counted {p : Port} {order interval : Nat} {seq : Byte} (hdir : dir = wheelDirection s.detTab d order)
    (h : countWheel d r order interval seq (hearLink p s) = (w, u)) : Passage s d dir w u := by
  have hdet : (hearLink p s).detTab = s.detTab := hearLink_detTab ..
  have hcounted := countWheel_passage (r := r) (s := hearLink p s) (dir := dir) (d := d) order interval seq
    (by rw [hdir, hdet])
  rw [h] at hcounted
  obtain ⟨hdetector, htrack, hdirection, hpassage, hconfig, hnow, hpool⟩ := hcounted
  refine ⟨hdetector, ?_, hdirection, ?_, ?_, ?_, ?_⟩
  · rw [htrack, State.trackOf_congr (hearLink_config p s)]
  · rw [hpassage, State.passageTime, hearLink_now, hdet]
    rfl
  · rw [hconfig, hearLink_config]
  · rw [hnow, hearLink_now]
  · exact (PoolWarned.of_tracker (hearLink_tracker p s)).trans hpool (hearLink_now ..)

theorem exec_wheel_passage {a : Arrival} {payload : List Byte} (h : WheelAt s a payload d dir) :
    ∃ t w u, exec (.wheel a payload) s = .next t ∧ Passage s d dir w u ∧ t.tracker = (trackWheel w u).tracker := by
  obtain ⟨t, r, order, interval, seq, w, u, hexec, hdir, hcount, htracker, -⟩ := exec_wheel_counted h
  exact ⟨t, w, u, hexec, .of_counted hdir hcount, htracker⟩

theorem Passage.detTab_eq (h : Passage s d dir w u) : u.detTab = s.detTab := State.detTab_congr h.config

theorem Passage.records_eq (h : Passage s d dir w u) :
    u.tracker.records.map counts = s.tracker.records.map counts := h.pool.counts_eq

theorem trackWheel_counts (w : WheelPassage) (u : State) :
    (trackWheel w u).tracker.records.map counts = (attributeWheel w u).tracker.records.map counts :=
  (react_poolWarned _).counts_eq

theorem trackWheel_nextTag (w : WheelPassage) (u : State) :
    (trackWheel w u).tracker.nextTag = (attributeWheel w u).tracker.nextTag := (react_poolWarned _).nextTag_eq

end

/-- The record at a place of a pool is, in its counts, the one there in another pool of the same counts. -/
theorem record_of_counts {l m : List TrainRecord} (h : l.map counts = m.map counts) {i : Nat} {x : TrainRecord}
    (hx : m[i]? = some x) : ∃ y, l[i]? = some y ∧ counts y = counts x := by
  have hi : (l.map counts)[i]? = some (counts x) := by rw [h, List.getElem?_map, hx]; rfl
  rw [List.getElem?_map, Option.map_eq_some_iff] at hi
  exact hi

/-! ## An inward wheel -/

section
variable {s : State} {a k i : Nat} {w : WheelPassage}

/-- The oldest record with an axle to give takes an inward wheel (R37). -/
theorem innerWheel_of_first {x : TrainRecord} (hx : s.tracker.records[i]? = some x)
    (hgive : canTakeInward a k x = true)
    (hfirst : ∀ j < i, ∀ y, s.tracker.records[j]? = some y → canTakeInward a k y = false) :
    innerWheel a k w s = (takeInward i k w s, true) := by
  obtain ⟨hi, hxi⟩ := List.getElem?_eq_some_iff.mp hx
  have hfind : s.tracker.records.findIdx? (canTakeInward a k) = some i := by
    refine List.findIdx?_eq_some_iff_getElem.mpr ⟨hi, hxi ▸ hgive, fun j hj => ?_⟩
    rw [hfirst j hj _ (List.getElem?_eq_getElem (by omega))]
    exact Bool.false_ne_true
  rw [innerWheel, hfind]

theorem innerWheel_of_none (h : ∀ y ∈ s.tracker.records, canTakeInward a k y = false) :
    innerWheel a k w s = (s, false) := by
  rw [innerWheel, List.findIdx?_eq_none_iff.mpr h]

theorem headPassage_touched (ke : Nat) (r : TrainRecord) : Touches [.fault] s (headPassage w k ke r s).2 :=
  headPassage_touches w k ke r (by decide) (Touches.refl _ s)

/-- The counts of a record after an inward wheel at path index `k`: one axle more past it, its head moved where this
is its head passage (R37, R38). -/
def advanced (k : Nat) (passage : Time) (x : TrainRecord) : TrainRecord :=
  { x with passed := x.passed.set k (passedAt x k + 1)
           headDetector := if passedAt x k = 0 then k else x.headDetector
           headTime := if passedAt x k = 0 then passage else x.headTime }

theorem takeInward_counts {x : TrainRecord} (hx : s.tracker.records[i]? = some x) :
    (takeInward i k w s).tracker.records.map counts
      = if (retirement s.detTab (advanced k w.passage x)).isNone then
          (s.tracker.records.map counts).set i (counts (advanced k w.passage x))
        else (s.tracker.records.map counts).eraseIdx i := by
  have hi : i < s.tracker.records.length := (List.getElem?_eq_some_iff.mp hx).1
  simp only [takeInward, hx]
  split
  next hhead =>
    have htouch := headPassage_touched (s := s) (w := w) (k := k) (islandEntryIndex s.detTab x.approach)
      (withPassed k (passedAt x k + 1) x)
    have hcounts : counts (headPassage w k (islandEntryIndex s.detTab x.approach) (withPassed k (passedAt x k + 1) x) s).1
        = counts (advanced k w.passage x) := by
      rw [counts_headPassage, advanced, if_pos hhead, if_pos hhead]
      rfl
    rw [checkRetirement_putRecord_counts (by rw [htouch.tracker_eq]; exact hi), htouch.tracker_eq, htouch.detTab_eq,
      retirement_of_counts _ hcounts, hcounts]
  next hhead =>
    have heq : withPassed k (passedAt x k + 1) x = advanced k w.passage x := by
      rw [advanced, if_neg hhead, if_neg hhead]
      rfl
    rw [heq, checkRetirement_putRecord_counts hi]

end

/-- Settles O16: the first record of the approach that can give takes the wheel; its counts decide its retirement. -/
theorem inwardWheel : Obligations.InwardWheel := by
  intro a payload s d k i dir x hwheel hpath hx happ hgive hfirst head y
  obtain ⟨t, w, u, hexec, hpass, htracker⟩ := exec_wheel_passage hwheel
  obtain ⟨x', hx', hcounts⟩ := record_of_counts hpass.records_eq hx
  have hpath' : pathIndex u.detTab (approachIndex w.track w.direction) w.detector = some (k + 1) := by
    rw [hpass.detTab_eq, hpass.track, hpass.direction, hpass.detector, hpath]
  have hinner := innerWheel_of_first (w := w) (a := approachIndex w.track w.direction) (k := k + 1) hx'
    (by
      simp only [canTakeInward, passedAt_of_counts hcounts, approach_of_counts hcounts, happ, hpass.track,
        hpass.direction, Nat.add_sub_cancel, Bool.and_eq_true, decide_eq_true_eq]
      exact ⟨trivial, hgive⟩)
    (fun j hj z hz => by
      obtain ⟨z', hz', hcounts'⟩ := record_of_counts hpass.records_eq.symm hz
      by_contra hcan
      simp only [canTakeInward, hpass.track, hpass.direction, Nat.add_sub_cancel, Bool.not_eq_false, Bool.and_eq_true,
        decide_eq_true_eq, ← passedAt_of_counts hcounts', ← approach_of_counts hcounts'] at hcan
      have hle := hfirst j hj z' hz' (by rw [hcan.1, happ])
      omega)
  have hadvanced : counts (advanced (k + 1) w.passage x') = counts y := by
    have hfields : counts (advanced (k + 1) w.passage x') = advanced (k + 1) w.passage (counts x') := rfl
    rw [hfields, hcounts, hpass.passage]
    rfl
  refine ⟨t, hexec, ?_⟩
  rw [htracker, trackWheel_counts]
  unfold attributeWheel
  dsimp only
  rw [hpath']
  dsimp only
  rw [hinner, if_pos rfl, takeInward_counts hx', hpass.detTab_eq, retirement_of_counts _ hadvanced, hadvanced,
    hpass.records_eq]

/-! ## An outward wheel -/

/-- The place of the last element of a list that `p` picks, its first place being `i`; else `found`. -/
def lastPlace {α : Type} (p : α → Bool) : List α → Nat → Option Nat → Option Nat
  | [], _, found => found
  | x :: rest, i, found => lastPlace p rest (i + 1) (if p x then some i else found)

theorem newestGiving_eq (a k : Nat) (l : List TrainRecord) (i : Nat) (found : Option Nat) :
    newestGiving a k l i found = lastPlace (canGiveBack a k) l i found := by
  induction l generalizing i found with
  | nil => rfl
  | cons x rest ih => exact ih ..

theorem newestFrom_eq (a : Nat) (l : List TrainRecord) (i : Nat) (found : Option Nat) :
    newestFrom a l i found = lastPlace (fun r => r.approach = a) l i found := by
  induction l generalizing i found with
  | nil => rfl
  | cons x rest ih => simpa only [newestFrom, lastPlace, decide_eq_true_eq] using ih ..

section
variable {α : Type} {p : α → Bool}

theorem lastPlace_of_none {l : List α} (h : ∀ x ∈ l, p x = false) (i : Nat) (found : Option Nat) :
    lastPlace p l i found = found := by
  induction l generalizing i with
  | nil => rfl
  | cons x rest ih =>
    rw [lastPlace, h x List.mem_cons_self, if_neg Bool.false_ne_true]
    exact ih (fun y hy => h y (List.mem_cons_of_mem _ hy)) _

theorem lastPlace_of_last {l : List α} {j : Nat} {x : α} (hx : l[j]? = some x) (hp : p x = true)
    (hlast : ∀ n y, j < n → l[n]? = some y → p y = false) (i : Nat) (found : Option Nat) :
    lastPlace p l i found = some (i + j) := by
  induction l generalizing i j found with
  | nil => cases hx
  | cons z rest ih =>
    cases j with
    | zero =>
      cases hx
      rw [lastPlace, if_pos hp]
      refine lastPlace_of_none (fun y hy => ?_) _ _
      obtain ⟨n, hn⟩ := List.mem_iff_getElem?.mp hy
      exact hlast (n + 1) y (by omega) hn
    | succ j =>
      rw [lastPlace, ih hx (fun n y hn hy => hlast (n + 1) y (by omega) hy), Nat.add_assoc, Nat.add_comm 1 j]

end

section
variable {s : State} {a k i : Nat} {x : TrainRecord}

/-- The newest record with an axle to give back takes an outward wheel (R40). -/
theorem outwardWheel_of_last (hx : s.tracker.records[i]? = some x) (hgive : canGiveBack a k x = true)
    (hlast : ∀ j y, i < j → s.tracker.records[j]? = some y → canGiveBack a k y = false) :
    outwardWheel a k s = (takeOutward i k s, true) := by
  rw [outwardWheel, newestGiving_eq, lastPlace_of_last hx hgive hlast, Nat.zero_add]

theorem takeOutward_eq (hx : s.tracker.records[i]? = some x) : takeOutward i k s = checkRetirement i
    (putRecord i { x with passed := x.passed.set k (passedAt x k - 1), receding := true } s) := by
  simp only [takeOutward, hx]
  rfl

end

/-- A wheel that no record takes inward is offered outward (R31). -/
theorem attributeWheel_of_outward {w : WheelPassage} {s : State}
    (h : pathIndex s.detTab (approachIndex w.track w.direction) w.detector = none
      ∨ ∃ n, pathIndex s.detTab (approachIndex w.track w.direction) w.detector = some (n + 1)
        ∧ ∀ r ∈ s.tracker.records, r.approach = approachIndex w.track w.direction →
          passedAt r n ≤ passedAt r (n + 1)) :
    attributeWheel w s = offerOutward w s := by
  unfold attributeWheel
  dsimp only
  rcases h with hnone | ⟨n, hsome, hle⟩
  · rw [hnone]
  · have hinner := innerWheel_of_none (w := w) (a := approachIndex w.track w.direction) (k := n + 1) (s := s)
      fun y hy => by
        simp only [canTakeInward, Nat.add_sub_cancel, Bool.and_eq_false_iff, decide_eq_false_iff_not]
        by_cases happ : y.approach = approachIndex w.track w.direction
        · exact .inr (Nat.not_lt.mpr (hle y hy happ))
        · exact .inl happ
    rw [hsome]
    dsimp only
    rw [hinner, if_neg Bool.false_ne_true]

/-- Settles O17: the last record of the opposite approach that can give back takes the wheel. -/
theorem outwardWheel_taken : Obligations.OutwardWheel := by
  intro w s k i x ap inward hinward hpath hx happ hgive hlast y
  have hi : i < s.tracker.records.length := (List.getElem?_eq_some_iff.mp hx).1
  have houtward := outwardWheel_of_last (a := ap) (k := k) hx
    (by simp only [canGiveBack, happ, decide_true, Bool.true_and, decide_eq_true_eq]; exact hgive)
    (fun j z hj hz => by
      simp only [canGiveBack, Bool.and_eq_false_iff, decide_eq_false_iff_not]
      by_cases hz' : z.approach = ap
      · exact .inr (Nat.not_lt.mpr (hlast j z hj hz hz'))
      · exact .inl hz')
  have hwheel : attributeWheel w s = checkRetirement i (putRecord i y s) := by
    rw [attributeWheel_of_outward hinward, offerOutward]
    dsimp only
    rw [hpath]
    dsimp only
    rw [houtward, if_pos rfl, takeOutward_eq hx]
  have hput : (putRecord i y s).tracker.records[i]? = some y := by
    rw [putRecord, State.setTracker_tracker]
    exact List.getElem?_set_self hi
  constructor
  · intro hstays
    rw [hwheel, checkRetirement_of_stays hput hstays]
    rfl
  · intro hretires
    obtain ⟨o, ho⟩ := Option.isSome_iff_exists.mp hretires
    have hput_touches : Touches [.tracker] s (putRecord i y s) := putRecord_touches i y (by decide) (Touches.refl _ s)
    refine ⟨?_, ?_, ?_⟩
    · rw [hwheel, checkRetirement_putRecord_tracker hi, ho]
      rfl
    · rw [hwheel]
      exact (checkRetirement_reports (cls := [.notice]) i (by simp) (putRecord_reports i y (.refl true))).onlyClasses
    · rw [hwheel]
      exact checkRetirement_touches i (List.Subset.refl _) (hput_touches.mono (by decide))

end Sys2Proof.Machine
end

section
/-! PROOFS. A wheel at a strike-in (sections 2.3, 2.6): the section inside it, the tag of a new record, and the
statement O15. -/

namespace Sys2Proof.Machine

/-! ## The section inside a strike-in -/

theorem approachTrack_approachIndex (trk : Nat) (dir : Direction) : approachTrack (approachIndex trk dir) = trk := by
  cases dir <;> simp only [approachTrack, approachIndex] <;> omega

theorem approachDirection_approachIndex (trk : Nat) (dir : Direction) :
    approachDirection (approachIndex trk dir) = dir := by
  cases dir
  · exact if_pos (Nat.mul_mod_left trk 2)
  · exact if_neg (by simp only [approachIndex]; omega)

theorem pathIndex_eq_some_iff {t : List Word} {a d k : Nat} :
    pathIndex t a d = some k ↔ d ∈ pathOf t a ∧ (pathOf t a).idxOf d = k := by
  unfold pathIndex
  split
  next h => simp [h]
  next h => simp [h]

theorem idxOf_eq_zero_of_mem {α : Type} [DecidableEq α] {l : List α} {x : α} (hx : x ∈ l) (h : l.idxOf x = 0) :
    l.head? = some x := by
  cases l with
  | nil => cases hx
  | cons y rest =>
    by_cases hy : y = x
    · rw [hy]; rfl
    · rw [List.idxOf_cons_ne _ hy] at h
      cases h

section
variable {t : List Word} {trk d : Nat}

/-- On a track whose geometry is sound some detectors stand west of the crossing and some east of it (R2, R4). -/
theorem westCount_bounds (hs : trackSound t trk = true) (hc : trackConfigured t trk = true) :
    (trackDetectors t trk).Nodup ∧ 0 < westCount t trk ∧ westCount t trk < (trackDetectors t trk).length := by
  simp only [trackSound, hc, Bool.not_true, Bool.false_or, Bool.and_eq_true, decide_eq_true_eq, trackPositions,
    List.any_eq_true, List.mem_map, exists_exists_and_eq_and] at hs
  obtain ⟨⟨⟨-, hnodup⟩, hwest⟩, ⟨e, he, heast⟩⟩ := hs
  obtain ⟨e', he', hneg⟩ := hwest
  refine ⟨List.Nodup.of_map _ (of_decide_eq_true hnodup), ?_, ?_⟩
  · exact List.length_pos_of_mem (List.mem_filter.mpr ⟨he', by simpa using hneg⟩)
  · refine List.length_filter_lt_length_iff_exists.mpr ⟨e, he, ?_⟩
    simp only [decide_eq_true_eq]
    omega

theorem mem_trackDetectors_of_path {dir : Direction} (h : d ∈ pathOf t (approachIndex trk dir)) :
    d ∈ trackDetectors t trk := by
  simp only [pathOf, approachTrack_approachIndex, approachDirection_approachIndex] at h
  cases dir
  · exact List.mem_of_mem_take h
  · exact List.mem_reverse.mp (List.mem_of_mem_take h)

theorem trackConfigured_of_mem (h : d ∈ trackDetectors t trk) : trackConfigured t trk = true := by
  rw [trackConfigured, List.isEmpty_eq_false_iff.mpr (List.ne_nil_of_mem h)]
  rfl

/-- The section an inward axle enters at a strike-in: the first approach section, or the island section where the
approach has none (R4, R5). -/
def InsideStrikeIn (t : List Word) (a n : Nat) : Prop :=
  approachSections t a = [] ∧ n = islandSection t (approachTrack a) ∨ n ∈ approachSections t a

theorem insideStrikeIn_of_segment {a n : Nat} (hsegment : segmentSection t a 0 = n)
    (hisland : islandEntryIndex t a = 0 → n = islandSection t (approachTrack a)) : InsideStrikeIn t a n := by
  unfold InsideStrikeIn approachSections
  rcases Nat.eq_zero_or_pos (islandEntryIndex t a) with hzero | hpos
  · exact .inl ⟨by rw [hzero]; rfl, hisland hzero⟩
  · exact .inr (List.mem_map.mpr ⟨0, List.mem_range.mpr hpos, hsegment⟩)

theorem sectionIn_strikeIn {dir : Direction} (htrk : (detectorOf t d).track = trk) (hs : trackSound t trk = true)
    (h : pathIndex t (approachIndex trk dir) d = some 0) :
    ∃ n, sectionIn t d dir = some n ∧ InsideStrikeIn t (approachIndex trk dir) n := by
  obtain ⟨hmem, hidx⟩ := pathIndex_eq_some_iff.mp h
  have hd := mem_trackDetectors_of_path hmem
  obtain ⟨hnodup, hwest, hlt⟩ := westCount_bounds hs (trackConfigured_of_mem hd)
  have hhead := idxOf_eq_zero_of_mem hmem hidx
  have hlength : pathLength t (approachIndex trk dir)
      = match dir with
        | .up => westCount t trk + 1
        | .down => (trackDetectors t trk).length - westCount t trk + 1 := by
    simp only [pathLength, pathOf, approachTrack_approachIndex, approachDirection_approachIndex]
    cases dir <;> simp only [List.length_take, List.length_reverse] <;> omega
  simp only [pathOf, approachTrack_approachIndex, approachDirection_approachIndex] at hhead
  cases dir with
  | up =>
    have horder : orderOf t d = 0 := by
      rw [orderOf, htrk]
      rw [List.head?_take, if_neg (by omega)] at hhead
      obtain ⟨rest, hrest⟩ := List.head?_eq_some_iff.mp hhead
      rw [hrest, List.idxOf_cons_self]
    refine ⟨0, ?_, insideStrikeIn_of_segment ?_ fun hzero => ?_⟩
    · rw [sectionIn, eastSection, horder, if_pos (by rw [sectionCount, htrk]; omega)]
    · rw [segmentSection, approachDirection_approachIndex]
    · rw [islandEntryIndex, hlength] at hzero
      rw [approachTrack_approachIndex, islandSection]
      simp only at hzero
      omega
  | down =>
    have horder : orderOf t d = (trackDetectors t trk).length - 1 := by
      rw [List.head?_take, if_neg (by omega), List.head?_reverse, List.getLast?_eq_getElem?] at hhead
      obtain ⟨hi, hget⟩ := List.getElem?_eq_some_iff.mp hhead
      rw [orderOf, htrk, ← hget]
      exact hnodup.idxOf_getElem _ hi
    have hsegment : (trackDetectors t trk).length - 1 - 1 = segmentSection t (approachIndex trk .down) 0 := by
      rw [segmentSection, approachDirection_approachIndex, approachTrack_approachIndex]
      rfl
    refine ⟨(trackDetectors t trk).length - 1 - 1, ?_, insideStrikeIn_of_segment hsegment.symm fun hzero => ?_⟩
    · rw [sectionIn, westSection, horder, if_neg (by omega)]
    · rw [islandEntryIndex, hlength] at hzero
      rw [approachTrack_approachIndex, islandSection]
      simp only at hzero
      omega

end

/-! ## The overflow flag kept -/

section
variable {s : State} {a n d : Nat}

/-- While the section inside the strike-in is not CLEAR the overflow flag of the approach cannot clear (R35). -/
theorem overflowOver_of_inside (h : InsideStrikeIn s.detTab a n) (hclear : s.sectionClear (approachTrack a) n = false) :
    s.overflowOver a = false := by
  unfold State.overflowOver
  rcases h with ⟨hnone, rfl⟩ | hmem
  · rw [hnone]
    exact hclear
  · cases hsec : approachSections s.detTab a with
    | nil => rw [hsec] at hmem; cases hmem
    | cons x rest =>
      rw [hsec] at hmem
      exact List.all_eq_false.mpr ⟨n, hmem, by rw [hclear]; exact Bool.false_ne_true⟩

theorem react_overflowed (h : s.overflowOver a = false) : (react s).overflowed a = s.overflowed a := by
  unfold State.overflowed
  rw [react_tracker]
  show ((s.tracker.overflow.mapIdx fun a f => f && !s.overflowOver a).getD a false) = _
  rw [List.getD_eq_getElem?_getD, List.getD_eq_getElem?_getD, List.getElem?_mapIdx]
  cases s.tracker.overflow[a]? with
  | none => rfl
  | some f => simp [h]

theorem react_overflow_length (s : State) : (react s).tracker.overflow.length = s.tracker.overflow.length := by
  rw [react_tracker]
  exact List.length_mapIdx

theorem sectionClear_of_map {t : State} {f : TrackSection → TrackSection} {trk : Nat} (hf : KeepsIdentity f)
    (ht : t.axle.sections = s.axle.sections.map f)
    (hnot : ∀ x, x.track = trk → x.number = n → (f x).state ≠ .clear) : t.sectionClear trk n = false := by
  unfold State.sectionClear
  rw [sectionAt_of_map hf ht]
  cases hx : s.sectionAt trk n with
  | none => rfl
  | some x =>
    have hat := List.find?_some hx
    simp only [Bool.and_eq_true, decide_eq_true_eq] at hat
    exact decide_eq_false (hnot x hat.1 hat.2)

theorem disturbAdjacent_sectionClear (hn : n ∈ adjacentSections s.detTab d) :
    (disturbAdjacent d s).sectionClear (s.trackOf d) n = false := by
  have hkeeps := sectionDisturbed_keepsIdentity s d true
  have haxle := congrArg AxleCounter.sections (disturbAdjacent_axle d s)
  rw [← sectionDisturbed_true] at haxle
  refine sectionClear_of_map hkeeps haxle fun x htrk hnum => ?_
  have hmem : (adjacentSections s.detTab d).contains x.number = true := by
    rw [hnum]
    exact List.contains_iff_mem.mpr hn
  rw [sectionDisturbed, htrk, hmem, Bool.true_and, decide_eq_true rfl, Bool.true_and, if_pos rfl]
  exact fun h => (by cases h)

theorem axleIn_not_clear (x : TrackSection) : (axleIn x).state ≠ .clear := by
  unfold axleIn
  split
  · exact fun h => (by cases h)
  · cases hx : x.state <;> simp

theorem moveAxle_sectionClear {dir : Direction} (hn : sectionIn s.detTab d dir = some n) :
    (moveAxle d dir s).sectionClear (s.trackOf d) n = false := by
  have hkeeps : KeepsIdentity (countedAt (s.trackOf d) (sectionIn s.detTab d dir) axleIn
      ∘ countedAt (s.trackOf d) (sectionOut s.detTab d dir) axleOut) := fun x => by
    have hin := countedAt_keepsIdentity (s.trackOf d) (sectionIn s.detTab d dir) axleIn_keepsIdentity
      (countedAt (s.trackOf d) (sectionOut s.detTab d dir) axleOut x)
    have hout := countedAt_keepsIdentity (s.trackOf d) (sectionOut s.detTab d dir) axleOut_keepsIdentity x
    exact ⟨hin.1.trans hout.1, hin.2.trans hout.2⟩
  refine sectionClear_of_map hkeeps (congrArg AxleCounter.sections (moveAxle_axle d dir s)) fun x htrk hnum => ?_
  obtain ⟨htrk', hnum'⟩ := countedAt_keepsIdentity (s.trackOf d) (sectionOut s.detTab d dir) axleOut_keepsIdentity x
  rw [Function.comp_apply, countedAt, if_pos ⟨htrk'.trans htrk, by rw [hnum', hnum, hn]⟩]
  exact axleIn_not_clear _

theorem mem_adjacentSections_of_sectionIn {t : List Word} {dir : Direction} (h : sectionIn t d dir = some n) :
    n ∈ adjacentSections t d := by
  cases dir <;> simp only [sectionIn] at h <;> simp [adjacentSections, h]

end

/-! ## Tags -/

theorem tagAfter_toNat (t : Byte) (h : t ≠ 0) : (tagAfter t).toNat = t.toNat % 255 + 1 := by
  have hpos : t.toNat ≠ 0 := fun hz => h (BitVec.eq_of_toNat_eq hz)
  have hlt := t.isLt
  unfold tagAfter
  split
  next heq => rw [heq]; rfl
  next hne =>
    have : t.toNat ≠ 255 := fun hz => hne (BitVec.eq_of_toNat_eq hz)
    rw [BitVec.toNat_add]
    change (t.toNat + 1) % 2 ^ 8 = _
    omega

theorem tagAfter_ne_zero (t : Byte) : tagAfter t ≠ 0 := by
  unfold tagAfter
  split
  · decide
  next hne => bv_omega

theorem tagAfter_iterate_ne_zero {t : Byte} (h : t ≠ 0) (n : Nat) : tagAfter^[n] t ≠ 0 := by
  cases n with
  | zero => exact h
  | succ n => rw [Function.iterate_succ_apply']; exact tagAfter_ne_zero _

theorem tagAfter_iterate_toNat {t : Byte} (h : t ≠ 0) (n : Nat) :
    (tagAfter^[n] t).toNat = (t.toNat - 1 + n) % 255 + 1 := by
  have hpos : t.toNat ≠ 0 := fun hz => h (BitVec.eq_of_toNat_eq hz)
  have hlt := t.isLt
  induction n with
  | zero => simp only [Function.iterate_zero, id_eq]; omega
  | succ n ih =>
    rw [Function.iterate_succ_apply', tagAfter_toNat _ (tagAfter_iterate_ne_zero h n), ih]
    omega

/-- The 255 tags of the cycle are distinct (R30). -/
theorem tagAfter_iterate_inj {t : Byte} (h : t ≠ 0) {m n : Nat} (hm : m < 255) (hn : n < 255)
    (heq : tagAfter^[m] t = tagAfter^[n] t) : m = n := by
  have hnat := congrArg BitVec.toNat heq
  rw [tagAfter_iterate_toNat h, tagAfter_iterate_toNat h] at hnat
  omega

/-- The search passes over tags in use; it stops at the first that is not, or when its fuel is gone. -/
theorem freeTag_spec (rs : List TrainRecord) (fuel : Nat) (t : Byte) : ∃ n ≤ fuel, freeTag rs fuel t = tagAfter^[n] t
    ∧ (∀ j < n, ∃ x ∈ rs, x.tag = tagAfter^[j] t) ∧ (n < fuel → ∀ x ∈ rs, x.tag ≠ tagAfter^[n] t) := by
  induction fuel generalizing t with
  | zero => exact ⟨0, le_rfl, rfl, fun _ h => absurd h (Nat.not_lt_zero _), fun h => absurd h (Nat.lt_irrefl _)⟩
  | succ fuel ih =>
    by_cases hany : rs.any (fun r => r.tag = t) = true
    · obtain ⟨n, hn, heq, hheld, hfree⟩ := ih (tagAfter t)
      refine ⟨n + 1, Nat.succ_le_succ hn, by rw [freeTag, if_pos hany]; exact heq, fun j hj => ?_, fun h => ?_⟩
      · cases j with
        | zero => simpa using hany
        | succ j => exact hheld j (by omega)
      · exact hfree (by omega)
    · refine ⟨0, Nat.zero_le _, by rw [freeTag, if_neg hany]; rfl, fun _ h => absurd h (Nat.not_lt_zero _), fun _ x hx heq => ?_⟩
      exact hany (List.any_eq_true.mpr ⟨x, hx, decide_eq_true heq⟩)

/-- Fewer records than tags leave one free: the tag given is the first of the cycle that no record holds (R30). -/
theorem tagGiven_spec {s : State} (h : s.tracker.records.length < 254) :
    (∀ x ∈ s.tracker.records, x.tag ≠ s.tagGiven)
      ∧ ∃ n, s.tagGiven = tagAfter^[n] s.tracker.nextTag
          ∧ ∀ j < n, ∃ x ∈ s.tracker.records, x.tag = tagAfter^[j] s.tracker.nextTag := by
  obtain ⟨n, hn, heq, hheld, hfree⟩ := freeTag_spec s.tracker.records 255 s.tracker.nextTag
  have hlt : n < 255 := by
    by_contra hge
    have hsubset : (List.range 254).map (fun j => tagAfter^[j] (tagAfter s.tracker.nextTag))
        ⊆ s.tracker.records.map (·.tag) := by
      intro tag htag
      obtain ⟨j, hj, rfl⟩ := List.mem_map.mp htag
      obtain ⟨x, hx, hxt⟩ := hheld (j + 1) (by have := List.mem_range.mp hj; omega)
      exact List.mem_map.mpr ⟨x, hx, hxt⟩
    have hnodup : ((List.range 254).map fun j => tagAfter^[j] (tagAfter s.tracker.nextTag)).Nodup :=
      List.nodup_range.map_on fun j hj k hk hjk =>
        tagAfter_iterate_inj (tagAfter_ne_zero _) (by have := List.mem_range.mp hj; omega)
          (by have := List.mem_range.mp hk; omega) hjk
    have hle := (hnodup.subperm hsubset).length_le
    rw [List.length_map, List.length_range, List.length_map] at hle
    omega
  exact ⟨fun x hx => by rw [State.tagGiven, heq]; exact hfree hlt x hx, n, heq, hheld⟩

theorem tagGiven_ne_zero {s : State} (h : s.tracker.nextTag ≠ 0) : s.tagGiven ≠ 0 := by
  obtain ⟨n, -, heq, -, -⟩ := freeTag_spec s.tracker.records 255 s.tracker.nextTag
  rw [State.tagGiven, heq]
  exact tagAfter_iterate_ne_zero h n

end Sys2Proof.Machine
end

section
/-! PROOFS. The statement O15: what a strike-in wheel makes of the pool (R32 to R36). -/

namespace Sys2Proof.Machine

/-! ## The newest record and the room, read of the counts -/

theorem lastPlace_map {α β : Type} (p : β → Bool) (f : α → β) (l : List α) (i : Nat) (found : Option Nat) :
    lastPlace p (l.map f) i found = lastPlace (p ∘ f) l i found := by
  induction l generalizing i found with
  | nil => rfl
  | cons x rest ih => exact ih ..

section
variable {s u : State} {a : Nat}

theorem newest_eq (s : State) (a : Nat) :
    s.newest a = lastPlace (fun r => r.approach = a) (s.tracker.records.map counts) 0 none := by
  rw [State.newest, newestFrom_eq, lastPlace_map]
  rfl

theorem newest_of_counts (h : u.tracker.records.map counts = s.tracker.records.map counts) :
    u.newest a = s.newest a := by rw [newest_eq, newest_eq, h]

theorem recordsOf_length_eq (s : State) (a : Nat) :
    (s.recordsOf a).length = ((s.tracker.records.map counts).filter fun r => r.approach = a).length := by
  rw [State.recordsOf, List.filter_map, List.length_map]
  rfl

theorem noRoom_iff : s.noRoom a = true ↔ 16 ≤ s.tracker.records.length ∨ 4 ≤ (s.recordsOf a).length := by
  rw [State.noRoom, Bool.or_eq_true, decide_eq_true_eq, decide_eq_true_eq]
  exact Iff.rfl

theorem noRoom_of_counts (h : u.tracker.records.map counts = s.tracker.records.map counts) :
    u.noRoom a = s.noRoom a := by
  have hlength := congrArg List.length h
  rw [List.length_map, List.length_map] at hlength
  rw [State.noRoom, State.noRoom, recordsOf_length_eq, recordsOf_length_eq, h, hlength]

end

/-! ## The four outcomes of a strike-in wheel -/

section
variable {s : State} {a i : Nat} {w : WheelPassage} {x : TrainRecord}

theorem strikeIn_of_room (hroom : s.noRoom a = false)
    (hclosed : ∀ i x, s.newest a = some i → s.tracker.records[i]? = some x → x.entryOpen = false) :
    strikeIn a w s = (createRecord a w s, true) := by
  unfold strikeIn
  split
  · rw [hroom, if_neg Bool.false_ne_true]
  next i x hnewest =>
    simp only [Option.bind_eq_some_iff, Option.map_eq_some_iff, Prod.mk.injEq] at hnewest
    obtain ⟨j, hj, y, hy, rfl, rfl⟩ := hnewest
    rw [hclosed j y hj hy, if_neg Bool.false_ne_true, if_pos (by simp [hroom])]

theorem strikeIn_of_newest (hn : s.newest a = some i) (hx : s.tracker.records[i]? = some x) : strikeIn a w s
    = if x.entryOpen then
        if maxPassed ≤ passedAt x 0 then (setOverflow a 1 s, false) else (joinRecord i x w s, true)
      else if ¬ s.noRoom a then (createRecord a w s, true)
      else if maxPassed ≤ passedAt x 0 then (setOverflow a 1 s, false)
      else (mergeRecord i x w s, true) := by
  unfold strikeIn
  rw [hn, Option.bind_some, hx]
  rfl

theorem strikeIn_of_open (hn : s.newest a = some i) (hx : s.tracker.records[i]? = some x) (ho : x.entryOpen = true)
    (hlt : passedAt x 0 < 1023) : strikeIn a w s = (joinRecord i x w s, true) := by
  have hnot : ¬ maxPassed ≤ passedAt x 0 := Nat.not_le.mpr hlt
  rw [strikeIn_of_newest hn hx, if_pos ho, if_neg hnot]

theorem strikeIn_of_merge (hn : s.newest a = some i) (hx : s.tracker.records[i]? = some x) (ho : x.entryOpen = false)
    (hroom : s.noRoom a = true) (hlt : passedAt x 0 < 1023) : strikeIn a w s = (mergeRecord i x w s, true) := by
  have hnot : ¬ maxPassed ≤ passedAt x 0 := Nat.not_le.mpr hlt
  rw [strikeIn_of_newest hn hx, if_neg (by simp [ho]), if_neg (by simp [hroom]), if_neg hnot]

theorem strikeIn_of_none (hn : s.newest a = none) (hroom : s.noRoom a = true) :
    strikeIn a w s = (setOverflow a 0 s, false) := by
  rw [strikeIn, hn, Option.bind_none]
  exact if_pos hroom

theorem strikeIn_of_highest (hn : s.newest a = some i) (hx : s.tracker.records[i]? = some x)
    (hmax : 1023 ≤ passedAt x 0) (hnot : x.entryOpen = true ∨ s.noRoom a = true) :
    strikeIn a w s = (setOverflow a 1 s, false) := by
  have hmax' : maxPassed ≤ passedAt x 0 := hmax
  rw [strikeIn_of_newest hn hx, if_pos hmax', if_pos hmax']
  split
  · rfl
  next hclosed => rw [if_neg (by simp [hnot.resolve_left hclosed])]

theorem attributeWheel_of_strikeIn {v : State} {b : Bool}
    (hpath : pathIndex s.detTab (approachIndex w.track w.direction) w.detector = some 0)
    (h : strikeIn (approachIndex w.track w.direction) w s = (v, b)) :
    attributeWheel w s = if b then v else unattributed w v := by
  unfold attributeWheel
  dsimp only
  rw [hpath]
  dsimp only
  rw [h]

end

/-! ## A record created -/

section
variable {w : WheelPassage} {r : TrainRecord} {s : State}

theorem counts_creationCall : counts (creationCall w r s).1 = counts r := by
  unfold creationCall
  split
  · exact counts_islandCall
  · exact counts_scheduleCall

/-- A record is APPROACHING exactly while it has not been warned. -/
def WarnedOnce (r : TrainRecord) : Prop := r.state = .approaching ↔ r.warnedAt = none

theorem WarnedOnce.warns {now : Time} {f : TrainRecord → TrainRecord} (hf : Warns now f) (h : WarnedOnce r) :
    WarnedOnce (f r) := by
  rcases hf r with heq | ⟨-, heq⟩
  · rw [heq]; exact h
  · rw [heq]; simp [WarnedOnce, warnRecord]

theorem actOnStart_warns (now : Time) : Warns now (actOnStart now) := by
  intro r
  unfold actOnStart
  split
  next hstate _ =>
    split
    · exact .inr ⟨hstate, rfl⟩
    · exact .inl rfl
  next => exact .inl rfl

theorem creationCall_warnedOnce (ha : r.state = .approaching) (hw : r.warnedAt = none) :
    WarnedOnce (creationCall w r s).1 := by
  unfold creationCall
  split
  · obtain ⟨_, _, _, _, _, hx⟩ := islandWarned_record (w := w) (creation := true) (r := r) (s := s)
    rw [islandCall_eq, judgeAchieved_record, hx]
    simp [WarnedOnce, ha]
  · obtain ⟨_, _, _, _, hx⟩ := scheduleCall_record (w := w) (creation := true) (r := r) (s := s)
    rw [hx]
    simp [WarnedOnce, ha, hw]

/-- The record a strike-in wheel creates, as it is put into the pool (R33, R45). -/
def recordCreated (a : Nat) (w : WheelPassage) (s : State) : TrainRecord :=
  actOnStart s.now (creationCall w (createdRecord s.detTab a s.tagGiven w.passage) s).1

theorem createRecord_tracker (a : Nat) : (createRecord a w s).tracker = { s.tracker with
    records := s.tracker.records ++ [recordCreated a w s], nextTag := tagAfter s.tagGiven } := by
  have htouch := creationCall_touches (L := [.fault]) w (createdRecord s.detTab a s.tagGiven w.passage) (by decide)
    (Touches.refl _ s)
  unfold createRecord
  dsimp only
  rw [State.setTracker_tracker, htouch.tracker_eq]
  rfl

theorem counts_recordCreated (a : Nat) :
    counts (recordCreated a w s) = counts (createdRecord s.detTab a s.tagGiven w.passage) := by
  rw [recordCreated, counts_actOnStart, counts_creationCall]

theorem recordCreated_warnedOnce (a : Nat) : WarnedOnce (recordCreated a w s) :=
  .warns (actOnStart_warns _) (creationCall_warnedOnce rfl rfl)

end

/-! ## A record joined or merged into -/

/-- The counts a strike-in wheel leaves of the record it is taken into (R32, R34). -/
def entered (passage : Time) (x : TrainRecord) : TrainRecord :=
  { x with passed := x.passed.set 0 (passedAt x 0 + 1), peak := max x.peak (passedAt x 0 + 1)
           lastEntry := passage, entryOpen := true }

section
variable {w : WheelPassage} {x : TrainRecord} {s : State} {i : Nat}

theorem addEntryWheel_of_open (h : x.entryOpen = true) : addEntryWheel w.passage x = entered w.passage x := by
  cases x
  cases h
  rfl

theorem counts_entered_congr {y : TrainRecord} (p : Time) (h : counts y = counts x) :
    counts (entered p y) = counts (entered p x) := by
  have hfields : ∀ z, counts (entered p z) = entered p (counts z) := fun _ => rfl
  rw [hfields, hfields, h]

/-- What the call of a merge makes of the record (R34). -/
def mergeCall (w : WheelPassage) (m : TrainRecord) (s : State) : TrainRecord × State :=
  if m.state = .approaching then scheduleCall w false m s else checkCall w m s

theorem mergeRecord_tracker : (mergeRecord i x w s).tracker = { s.tracker with
    records := s.tracker.records.set i (actOnStart s.now (mergeCall w (mergedRecord w.passage x) s).1) } := by
  have htouch : Touches [.fault] s (mergeCall w (mergedRecord w.passage x) s).2 := by
    unfold mergeCall
    split
    · exact scheduleCall_touches _ _ _ (by decide) (Touches.refl _ s)
    · exact checkCall_touches _ _ (by decide) (Touches.refl _ s)
  change (putRecord i (actOnStart s.now (mergeCall w (mergedRecord w.passage x) s).1)
    (mergeCall w (mergedRecord w.passage x) s).2).tracker = _
  rw [putRecord, State.setTracker_tracker, htouch.tracker_eq]

theorem counts_mergeCall {m : TrainRecord} : counts (mergeCall w m s).1 = counts m := by
  unfold mergeCall
  split
  · exact counts_scheduleCall
  · exact counts_checkCall

/-- A call keeps a record's MERGED flag and its state. -/
theorem mergeCall_kept {m : TrainRecord} :
    (mergeCall w m s).1.merged = m.merged ∧ (mergeCall w m s).1.state = m.state
      ∧ (m.state ≠ .approaching → (mergeCall w m s).1.scheduledStart = m.scheduledStart)
      ∧ (m.state = .approaching →
          (mergeCall w m s).1.scheduledStart = some (newStart m (s.callCandidate w m))) := by
  unfold mergeCall
  split
  next ha =>
    obtain ⟨_, _, _, _, hx⟩ := scheduleCall_record (w := w) (creation := false) (r := m) (s := s)
    rw [hx]
    exact ⟨rfl, rfl, fun h => absurd ha h, fun _ => rfl⟩
  next ha =>
    obtain ⟨_, _, _, hx⟩ := speedStages_record (w := w) (creation := false) (r := m) (s := s)
    rw [checkCall, hx]
    exact ⟨rfl, rfl, fun _ => rfl, fun h => absurd h ha⟩

theorem timeBefore_irrefl (t : Time) : timeBefore t t = false := by
  rw [timeBefore, BitVec.sub_self]
  rfl

theorem timeBefore_asymm {a b : Time} (h : timeBefore a b = true) : timeBefore b a = false := by
  have hnat : (a - b).toNat = (2 ^ 32 - (b - a).toNat) % 2 ^ 32 := by
    rw [BitVec.toNat_sub, BitVec.toNat_sub]
    have ha := a.isLt
    have hb := b.isLt
    omega
  have hlt := (b - a).isLt
  simp only [timeBefore, decide_eq_true_eq, decide_eq_false_iff_not, Int.not_lt, BitVec.toInt_eq_toNat_cond] at h ⊢
  rw [hnat]
  split at h <;> split <;> omega

/-- The earlier of an old time and another is not after the old one. -/
theorem timeEarlier_not_after (old x : Time) : timeBefore old (timeEarlier old x) = false := by
  unfold timeEarlier
  split
  next h => exact timeBefore_asymm h
  next => exact timeBefore_irrefl old

end

/-! ## The passage at a strike-in -/

section
variable {s : State} {d n : Nat} {dir : Direction} {w : WheelPassage} {u : State}

theorem Passage.path (h : Passage s d dir w u) {k : Nat}
    (hpath : pathIndex s.detTab (approachIndex (s.trackOf d) dir) d = some k) :
    pathIndex u.detTab (approachIndex w.track w.direction) w.detector = some k := by
  rw [h.detTab_eq, h.track, h.direction, h.detector, hpath]

theorem Passage.approach (h : Passage s d dir w u) :
    approachIndex w.track w.direction = approachIndex (s.trackOf d) dir := by rw [h.track, h.direction]

theorem Passage.attributed (h : Passage s d dir w u)
    (hpath : pathIndex s.detTab (approachIndex (s.trackOf d) dir) d = some 0) {v : State} {b : Bool}
    (hstrike : strikeIn (approachIndex (s.trackOf d) dir) w u = (v, b)) :
    attributeWheel w u = if b then v else unattributed w v :=
  attributeWheel_of_strikeIn (h.path hpath) (by rw [h.approach]; exact hstrike)

theorem Passage.newest_eq (h : Passage s d dir w u) (a : Nat) : u.newest a = s.newest a := newest_of_counts h.records_eq

theorem Passage.noRoom_eq (h : Passage s d dir w u) (a : Nat) : u.noRoom a = s.noRoom a := noRoom_of_counts h.records_eq

theorem Passage.record (h : Passage s d dir w u) {i : Nat} {x : TrainRecord} (hx : s.tracker.records[i]? = some x) :
    ∃ f, Warns s.now f ∧ u.tracker.records[i]? = some (f x) := by
  obtain ⟨f, hf, hrec, -⟩ := h.pool
  exact ⟨f, hf, by rw [hrec, List.getElem?_map, hx]; rfl⟩

theorem Passage.length_eq (h : Passage s d dir w u) : u.tracker.records.length = s.tracker.records.length := by
  have hlength := congrArg List.length h.records_eq
  rwa [List.length_map, List.length_map] at hlength

/-- A reaction leaves an overflow flag whose section inside the strike-in is not CLEAR. -/
theorem gapEffect_overflowed {a : Nat} (gap : Option Byte) (seq : Byte) {v : State}
    (hinside : InsideStrikeIn v.detTab a n) (htrack : approachTrack a = v.trackOf d)
    (hn : n ∈ adjacentSections v.detTab d) : (gapEffect d gap seq v).overflowed a = v.overflowed a := by
  cases gap with
  | none => rfl
  | some expected =>
    have htouch : Touches [.fault] (disturbAdjacent d v)
        (raiseFault .wheelLoss d (256 * expected.toNat + seq.toNat) (disturbAdjacent d v)) :=
      raiseFault_touches _ _ _ (by decide) (Touches.refl _ _)
    have hdist : Touches [.axle] v (disturbAdjacent d v) := disturbAdjacent_touches d (by decide) (Touches.refl _ v)
    have hclear : (raiseFault .wheelLoss d (256 * expected.toNat + seq.toNat) (disturbAdjacent d v)).sectionClear
        (approachTrack a) n = false := by
      have hcongr : ∀ x y : State, x.axle = y.axle → ∀ t m, x.sectionClear t m = y.sectionClear t m := by
        intro x y hxy t m
        simp only [State.sectionClear, State.sectionAt, hxy]
      rw [hcongr _ _ htouch.axle_eq, htrack]
      exact disturbAdjacent_sectionClear hn
    show (react _).overflowed a = _
    rw [react_overflowed (overflowOver_of_inside (by rw [htouch.detTab_eq, hdist.detTab_eq]; exact hinside) hclear),
      State.overflowed, htouch.tracker_eq, hdist.tracker_eq]
    rfl

theorem gapEffect_overflow_length (gap : Option Byte) (seq : Byte) (v : State) :
    (gapEffect d gap seq v).tracker.overflow.length = v.tracker.overflow.length := by
  cases gap with
  | none => rfl
  | some expected =>
    have htouch : Touches [.axle, .fault] v
        (raiseFault .wheelLoss d (256 * expected.toNat + seq.toNat) (disturbAdjacent d v)) :=
      raiseFault_touches _ _ _ (by decide) (disturbAdjacent_touches d (by decide) (Touches.refl _ v))
    exact (react_overflow_length _).trans (by rw [htouch.tracker_eq])

/-- The count of a wheel into the section inside a strike-in leaves the overflow flag, and that section not CLEAR. -/
theorem countWheel_overflow {r : DetectorRecord} {order interval : Nat} {seq : Byte}
    (hn : sectionIn s.detTab d (wheelDirection s.detTab d order) = some n)
    (hinside : InsideStrikeIn s.detTab (approachIndex (s.trackOf d) (wheelDirection s.detTab d order)) n) :
    (countWheel d r order interval seq s).2.overflowed (approachIndex (s.trackOf d) (wheelDirection s.detTab d order))
        = s.overflowed (approachIndex (s.trackOf d) (wheelDirection s.detTab d order))
      ∧ (countWheel d r order interval seq s).2.sectionClear (s.trackOf d) n = false := by
  let a := approachIndex (s.trackOf d) (wheelDirection s.detTab d order)
  let c := wheelChecked d r seq s
  let m := moveAxle d (wheelDirection s.detTab d order) c
  have hdet : c.detTab = s.detTab := State.detTab_congr (wheelChecked_config seq)
  have htrk : c.trackOf = s.trackOf := State.trackOf_congr (wheelChecked_config seq)
  have hmove : Touches [.axle, .fault] c m := moveAxle_touched d _ c
  have hclear : m.sectionClear (s.trackOf d) n = false := by
    have hmoved := moveAxle_sectionClear (s := c) (d := d) (n := n) (dir := wheelDirection s.detTab d order)
      (by rw [hdet, hn])
    rwa [htrk] at hmoved
  have hover : m.overflowOver a = false :=
    overflowOver_of_inside (n := n) (by rw [hmove.detTab_eq, hdet]; exact hinside)
      (by rw [approachTrack_approachIndex]; exact hclear)
  have hchecked : c.overflowed a = s.overflowed a := gapEffect_overflowed (wheelGap r seq) seq
    (v := putDetector d (heardDetector d r s seq) s) hinside (approachTrack_approachIndex ..)
    (mem_adjacentSections_of_sectionIn hn)
  constructor
  · show (react m).overflowed a = s.overflowed a
    rw [react_overflowed hover, State.overflowed, hmove.tracker_eq]
    exact hchecked
  · show (react m).sectionClear (s.trackOf d) n = false
    simp only [State.sectionClear, State.sectionAt, react_axle] at hclear ⊢
    exact hclear

theorem countWheel_overflow_length {r : DetectorRecord} {order interval : Nat} {seq : Byte} :
    (countWheel d r order interval seq s).2.tracker.overflow.length = s.tracker.overflow.length := by
  have hmove := moveAxle_touched d (wheelDirection s.detTab d order) (wheelChecked d r seq s)
  show (react (moveAxle d (wheelDirection s.detTab d order) (wheelChecked d r seq s))).tracker.overflow.length = _
  rw [react_overflow_length, hmove.tracker_eq]
  exact gapEffect_overflow_length (wheelGap r seq) seq (putDetector d (heardDetector d r s seq) s)

/-- The flag of an approach set, with TRAIN_TABLE_FULL where it was clear (R35). -/
theorem setOverflow_records (a x : Nat) (u : State) : (setOverflow a x u).tracker.records = u.tracker.records
    ∧ (setOverflow a x u).tracker.nextTag = u.tracker.nextTag
    ∧ (a < u.tracker.overflow.length → (setOverflow a x u).overflowed a = true)
    ∧ (setOverflow a x u).fault.isLatched .trainTableFull
        = (u.fault.isLatched .trainTableFull || !u.overflowed a) := by
  unfold setOverflow
  split
  next h => exact ⟨rfl, rfl, fun _ => h, by rw [h]; simp⟩
  next h =>
    have htouch := raiseFault_touches (L := [.fault]) .trainTableFull a x (by decide)
      (Touches.refl _ (u.setTracker { u.tracker with overflow := u.tracker.overflow.set a true }))
    refine ⟨by rw [htouch.tracker_eq]; rfl, by rw [htouch.tracker_eq]; rfl, fun hlt => ?_, ?_⟩
    · rw [State.overflowed, htouch.tracker_eq, State.setTracker_tracker, List.getD_eq_getElem?_getD,
        List.getElem?_set_self hlt]
      rfl
    · rw [raiseFault_isLatched, (Bool.not_eq_true _).mp h]
      simp

end

/-! ## The statement -/

section
variable {s : State} {d : Nat} {dir : Direction} {w : WheelPassage} {u : State}

theorem unattributed_touched (w : WheelPassage) (u : State) : Touches [.fault] u (unattributed w u) :=
  unattributed_touches w (by decide) (Touches.refl _ u)

/-- A created record: tag, counts and next tag (R30, R33). -/
theorem Passage.created (h : Passage s d dir w u) (hpath : pathIndex s.detTab (approachIndex (s.trackOf d) dir) d = some 0)
    (hclosed : ∀ i x, s.newest (approachIndex (s.trackOf d) dir) = some i → s.tracker.records[i]? = some x →
      x.entryOpen = false) (hroom : s.noRoom (approachIndex (s.trackOf d) dir) = false) :
    attributeWheel w u = createRecord (approachIndex (s.trackOf d) dir) w u := by
  have hstrike := strikeIn_of_room (w := w) (a := approachIndex (s.trackOf d) dir) (h.noRoom_eq _ ▸ hroom)
    fun i x hn hx => by
      obtain ⟨x', hx', hcounts⟩ := record_of_counts h.records_eq.symm hx
      rw [← entryOpen_of_counts hcounts]
      exact hclosed i x' (h.newest_eq _ ▸ hn) hx'
  rw [h.attributed hpath hstrike, if_pos rfl]

theorem getLast?_trackWheel {r : TrainRecord} {l : List TrainRecord}
    (h : (attributeWheel w u).tracker.records = l ++ [r]) {x : TrainRecord}
    (hx : (trackWheel w u).tracker.records.getLast? = some x) : ∃ f, Warns (attributeWheel w u).now f ∧ x = f r := by
  obtain ⟨f, hf, hrec, -⟩ := react_poolWarned (attributeWheel w u)
  have hlast : (trackWheel w u).tracker.records.getLast? = some (f r) := by
    rw [trackWheel, hrec, h, List.map_append, List.map_singleton, List.getLast?_concat]
  rw [hlast] at hx
  exact ⟨f, hf, (Option.some.inj hx).symm⟩

end

/-- Settles O15: the newest record and the room decide between creating, joining, merging and overflow; the reaction to
the wheel warns records and, with the section inside the strike-in not CLEAR, keeps the overflow flag. -/
theorem strikeInWheel : Obligations.StrikeInWheel := by
  intro a payload s d dir hwheel ap full noRoom entered' hpath
  refine ⟨fun hclosed hroom => ?_, fun i x hn hx hlt => ⟨fun hopen => ?_, fun hclosed hfull => ?_⟩, fun hover hsound => ?_⟩
  · obtain ⟨t, w, u, hexec, hpass, htracker⟩ := exec_wheel_passage hwheel
    have hroom' : s.noRoom ap = false := (Bool.not_eq_true _).mp fun h => hroom (noRoom_iff.mp h)
    have hcreated := hpass.created hpath hclosed hroom'
    have hcreate := createRecord_tracker (w := w) (s := u) ap
    have hlength : u.tracker.records.length < 254 := by
      rw [hpass.length_eq]
      have : ¬ 16 ≤ s.tracker.records.length := fun h => hroom (.inl h)
      omega
    obtain ⟨hfree, n, hiter, hheld⟩ := tagGiven_spec hlength
    have hheldS : ∀ tag, (∃ y ∈ u.tracker.records, y.tag = tag) ↔ ∃ y ∈ s.tracker.records, y.tag = tag := by
      have hset : ∀ (v : State) (tag : Byte), (∃ y ∈ v.tracker.records, y.tag = tag)
          ↔ ∃ y ∈ v.tracker.records.map counts, y.tag = tag := fun v tag => by simp [counts]
      intro tag
      rw [hset, hset, hpass.records_eq]
    have hnext : u.tracker.nextTag = s.tracker.nextTag := hpass.pool.nextTag_eq
    refine ⟨t, u.tagGiven, hexec, ?_, fun hz => tagGiven_ne_zero (by rw [hnext]; exact hz), fun y hy heq => ?_,
      ⟨n, by rw [hiter, hnext], fun j hj => ?_⟩, ?_, fun y hy => ?_⟩
    · rw [htracker, trackWheel_counts, hcreated, hcreate, List.map_append, List.map_singleton, counts_recordCreated,
        hpass.records_eq, hpass.detTab_eq, hpass.passage]
    · obtain ⟨z, hz, hzt⟩ := (hheldS u.tagGiven).mpr ⟨y, hy, heq⟩
      exact hfree z hz hzt
    · rw [← hnext]
      exact (hheldS _).mp (hheld j hj)
    · rw [htracker, trackWheel_nextTag, hcreated, hcreate]
      rfl
    · rw [htracker] at hy
      obtain ⟨f, hf, rfl⟩ := getLast?_trackWheel (by rw [hcreated, hcreate]) hy
      exact (recordCreated_warnedOnce ap).warns hf
  · obtain ⟨t, w, u, hexec, hpass, htracker⟩ := exec_wheel_passage hwheel
    obtain ⟨x', hx', hcounts⟩ := record_of_counts hpass.records_eq hx
    have hopen' : x'.entryOpen = true := (entryOpen_of_counts hcounts).trans hopen
    have hjoin : attributeWheel w u = joinRecord i x' w u := by
      rw [hpass.attributed hpath (strikeIn_of_open ((hpass.newest_eq _).trans hn) hx' hopen'
        (by rw [passedAt_of_counts hcounts]; exact hlt)), if_pos rfl]
    refine ⟨t, hexec, ?_, ?_⟩
    · rw [htracker, trackWheel_counts, hjoin, joinRecord, putRecord, State.setTracker_tracker, List.map_set,
        addEntryWheel_of_open hopen', counts_entered_congr _ hcounts, hpass.records_eq, hpass.passage]
      rfl
    · rw [htracker, trackWheel_nextTag, hjoin]
      exact hpass.pool.nextTag_eq
  · obtain ⟨t, w, u, hexec, hpass, htracker⟩ := exec_wheel_passage hwheel
    obtain ⟨f, hf, hx'⟩ := hpass.record hx
    have hcounts := hf.counts_eq x
    have hmerge : attributeWheel w u = mergeRecord i (f x) w u := by
      rw [hpass.attributed hpath (strikeIn_of_merge ((hpass.newest_eq _).trans hn) hx'
        ((entryOpen_of_counts hcounts).trans hclosed) ((hpass.noRoom_eq _).trans (noRoom_iff.mpr hfull))
        (by rw [passedAt_of_counts hcounts]; exact hlt)), if_pos rfl]
    let m := mergedRecord w.passage (f x)
    let c := (mergeCall w m u).1
    obtain ⟨hmerged, hstate, hstart, hstarted⟩ := mergeCall_kept (w := w) (s := u) (m := m)
    obtain ⟨g, hg, hrec, htag⟩ := react_poolWarned (attributeWheel w u)
    have hacted := actOnStart_warns u.now
    have hi : i < u.tracker.records.length := (List.getElem?_eq_some_iff.mp hx').1
    have hplace : (trackWheel w u).tracker.records[i]? = some (g (actOnStart u.now c)) := by
      rw [trackWheel, hrec, hmerge, mergeRecord_tracker, List.getElem?_map, List.getElem?_set_self hi]
      rfl
    have hmergedBy : ∀ {now : Time} {k : TrainRecord → TrainRecord} (z : TrainRecord), Warns now k →
        (k z).merged = z.merged := fun {now k} z hk => by
      rcases hk z with heq | ⟨-, heq⟩
      · rw [heq]
      · rw [heq]
        rfl
    refine ⟨t, g (actOnStart u.now c), hexec, ?_, ?_, by rw [htracker, hplace], ?_, fun hnot => ?_, fun happ old hold => ?_⟩
    · rw [htracker, trackWheel_counts, hmerge, mergeRecord_tracker, List.map_set, counts_actOnStart, counts_mergeCall,
        hpass.records_eq]
      have hm : counts (mergedRecord w.passage (f x)) = counts (entered w.passage (f x)) := rfl
      rw [hm, counts_entered_congr _ hcounts, hpass.passage]
      rfl
    · rw [htracker, trackWheel_nextTag, hmerge, mergeRecord_tracker]
      exact hpass.pool.nextTag_eq
    · rw [hmergedBy _ hg, hmergedBy _ hacted]
      exact hmerged
    · have hx0 : f x = x := hf.of_not_approaching hnot
      have hm : m.state = x.state := by
        show (f x).state = x.state
        rw [hx0]
      have hc : c.state ≠ .approaching := by rw [hstate, hm]; exact hnot
      rw [hacted.of_not_approaching hc, hg.of_not_approaching hc]
      refine ⟨hstate.trans hm, (hstart (by rw [hm]; exact hnot)).trans ?_⟩
      show (f x).scheduledStart = x.scheduledStart
      rw [hx0]
    · have hg0 := hg.of_approaching happ
      rw [hg0] at happ ⊢
      have hc0 := hacted.of_approaching happ
      rw [hc0] at happ ⊢
      have hm : m.state = .approaching := hstate.symm.trans happ
      have hx0 : f x = x := hf.of_approaching hm
      have hmold : m.scheduledStart = some old := by
        show (f x).scheduledStart = some old
        rw [hx0, hold]
      refine ⟨_, hstarted hm, ?_⟩
      rw [newStart_of_merged rfl hmold]
      exact timeEarlier_not_after ..
  · obtain ⟨t, r, order, interval, seq, w, u, hexec, hdir, hcount, htracker, hfault⟩ := exec_wheel_counted hwheel
    have hpass : Passage s d dir w u := .of_counted hdir hcount
    have hheard : (hearLink a.port s).detTab = s.detTab := hearLink_detTab ..
    have htrackOf : (hearLink a.port s).trackOf = s.trackOf := State.trackOf_congr (hearLink_config ..)
    obtain ⟨n, hsection, hinside⟩ := sectionIn_strikeIn rfl hsound hpath
    obtain ⟨hoverflow, hclear⟩ := countWheel_overflow (s := hearLink a.port s) (r := r) (order := order) (n := n)
      (interval := interval) (seq := seq) (d := d) (by rw [hheard, ← hdir]; exact hsection)
      (by rw [hheard, htrackOf, ← hdir]; exact hinside)
    rw [hheard, htrackOf, ← hdir, hcount] at hoverflow
    rw [htrackOf, hcount] at hclear
    have hlength : u.tracker.overflow.length = s.tracker.overflow.length := by
      have := countWheel_overflow_length (s := hearLink a.port s) (r := r) (order := order) (interval := interval)
        (seq := seq) (d := d)
      rwa [hcount, hearLink_tracker] at this
    have hlatched : u.fault.isLatched .trainTableFull = s.fault.isLatched .trainTableFull := by
      have := (countWheel_reports (cls := [.wheelLoss, .countUnderflow, .countOverflow] ++ sequenceClasses) d r order
        interval seq (List.Subset.refl _) (.refl true)).from_heard (p := a.port) (s := s)
      rw [hcount] at this
      exact (this .trainTableFull (by decide)).2
    obtain ⟨x, hstrike⟩ : ∃ x, strikeIn ap w u = (setOverflow ap x u, false) := by
      rcases hover with ⟨hnone, hfull⟩ | ⟨i, x, hn, hx, hmax, hnot⟩
      · exact ⟨0, strikeIn_of_none ((hpass.newest_eq _).trans hnone)
          ((hpass.noRoom_eq _).trans (noRoom_iff.mpr (.inl hfull)))⟩
      · obtain ⟨x', hx', hcounts⟩ := record_of_counts hpass.records_eq hx
        refine ⟨1, strikeIn_of_highest ((hpass.newest_eq _).trans hn) hx'
          (by rw [passedAt_of_counts hcounts]; exact hmax) ?_⟩
        rw [entryOpen_of_counts hcounts, hpass.noRoom_eq]
        exact hnot.imp_right noRoom_iff.mpr
    have hwheel : attributeWheel w u = unattributed w (setOverflow ap x u) := by
      rw [hpass.attributed hpath hstrike, if_neg Bool.false_ne_true]
    obtain ⟨hrecords, hnext, hflag, hfull⟩ := setOverflow_records ap x u
    have htouch := unattributed_touched w (setOverflow ap x u)
    have hset : Touches [.tracker, .fault] u (setOverflow ap x u) :=
      setOverflow_touches ap x (by decide) (Touches.refl _ u)
    refine ⟨t, hexec, ?_, ?_, fun hlt => ?_, ?_⟩
    · rw [htracker, trackWheel_counts, hwheel, htouch.tracker_eq, hrecords, hpass.records_eq]
    · rw [htracker, trackWheel_nextTag, hwheel, htouch.tracker_eq, hnext, hpass.pool.nextTag_eq]
    · rw [State.overflowed, htracker]
      show (react (attributeWheel w u)).overflowed ap = true
      rw [hwheel]
      have hover : (unattributed w (setOverflow ap x u)).overflowOver ap = false := by
        refine overflowOver_of_inside (n := n) ?_ ?_
        · rw [htouch.detTab_eq, hset.detTab_eq, hpass.detTab_eq]
          exact hinside
        · rw [approachTrack_approachIndex]
          simp only [State.sectionClear, State.sectionAt, htouch.axle_eq, hset.axle_eq] at hclear ⊢
          exact hclear
      rw [react_overflowed hover, State.overflowed, htouch.tracker_eq]
      exact hflag (by rw [hlength]; exact hlt)
    · have hkept : (trackWheel w u).fault.isLatched .trainTableFull
          = (setOverflow ap x u).fault.isLatched .trainTableFull := by
        have hreports : Reports (.unexpectedWheel :: sequenceClasses) (setOverflow ap x u) true (trackWheel w u) := by
          rw [trackWheel, hwheel]
          exact react_reports (by simp) (unattributed_reports w (by simp) (.refl true))
        exact (hreports.onlyClasses .trainTableFull (by decide)).2
      rw [hfault, hkept, hfull, hlatched, hoverflow, State.overflowed, hearLink_tracker]
      rfl

end Sys2Proof.Machine
end

section
/-! PROOFS. Lamp modules (sections 5.3 to 5.5): what each operation leaves in the lamp supervisor, and the statements
O31 and O32. -/

namespace Sys2Proof.Machine

/-! ## The crossing proof at the end of an event -/

theorem Ended.crossingProof_eq {E : List Block} {u t : State} (h : Ended E u t) : t.crossingProof = u.crossingProof := by
  refine crossingProof_congr_states h.copied.config_eq h.copied.lamp_eq (by rw [h.seq_eq]) fun b => ?_
  simp only [State.barrierRecord, h.barrier]

/-! ## The record of a lamp -/

section
variable {s t : State} {l : Nat} {r : LampRecord}

theorem lampRecord_congr (h : t.lamp = s.lamp) : t.lampRecord = s.lampRecord := by
  funext l
  rw [State.lampRecord, h]
  rfl

theorem putLamp_lampRecord (h : s.lampRecord l = some r) (r' : LampRecord) (x : Nat) :
    (putLamp l r' s).lampRecord x = if x = l then some r' else s.lampRecord x := by
  have hlen : l < s.lamp.lamps.length := by
    by_contra hge
    rw [State.lampRecord, List.getElem?_eq_none (Nat.not_lt.mp hge)] at h
    cases h
  by_cases hx : x = l
  · subst hx
    simp [putLamp, State.lampRecord, hlen]
  · simp [putLamp, State.lampRecord, hx, List.getElem?_set_ne (Ne.symm hx)]

theorem mapLamps_record (p : Nat → Bool) (f : LampRecord → LampRecord) (lamps : List (Option LampRecord)) (l : Nat) :
    ((mapLamps p f lamps)[l]?).join = ((lamps[l]?).join).map fun r => if p l then f r else r := by
  rw [mapLamps, List.getElem?_mapIdx]
  cases lamps[l]? with
  | none => rfl
  | some o => cases o <;> cases p l <;> simp

theorem endLampFaults_lamp (s : State) : (endLampFaults s).lamp = s.lamp :=
  (endLampFaults_touches (L := [.fault]) (by decide) (Touches.refl _ s)).lamp_eq

theorem evaluateRoadLights_lamp (s : State) : (evaluateRoadLights s).lamp = s.lamp :=
  (evaluateRoadLights_touches (L := [.fault]) (by decide) (Touches.refl _ s)).lamp_eq

theorem judgeLamp_lamp {k : SampleKind} {v : Nat} (h : s.lampRecord l = some r) :
    (judgeLamp l k v s).lamp = (putLamp l (judgeSample (nLampOf s.crTab) k r) s).lamp := by
  have hfail : ∀ u was now, (enterLampFailed l v was now u).lamp = u.lamp := fun u was now =>
    (enterLampFailed_touches (L := [.fault]) l v was now (by decide) (Touches.refl _ u)).lamp_eq
  have hstuck : ∀ u was now, (enterLampStuck l v was now u).lamp = u.lamp := fun u was now =>
    (enterLampStuck_touches (L := [.fault]) l v was now (by decide) (Touches.refl _ u)).lamp_eq
  simp only [judgeLamp, h]
  rw [endLampFaults_lamp, hstuck, hfail]

theorem judgeLamp_lampRecord {k : SampleKind} {v : Nat} (x : Nat) : (judgeLamp l k v s).lampRecord x
    = if x = l then (s.lampRecord x).map (judgeSample (nLampOf s.crTab) k) else s.lampRecord x := by
  cases hr : s.lampRecord l with
  | none =>
    simp only [judgeLamp, hr]
    split
    next hx => rw [hx, hr]; rfl
    next => rfl
  | some r =>
    rw [lampRecord_congr (judgeLamp_lamp hr), putLamp_lampRecord hr]
    split
    next hx => rw [hx, hr]; rfl
    next => rfl

theorem judgeLamp_modules {k : SampleKind} {v : Nat} : (judgeLamp l k v s).lamp.modules = s.lamp.modules := by
  cases hr : s.lampRecord l with
  | none => simp only [judgeLamp, hr]
  | some r => rw [judgeLamp_lamp hr]; rfl

end

/-! ## The channels of a report -/

/-- The record of lamp `l` after the report `o` of its channel has been judged, if there is one (R104 to R108). -/
def lampJudged (s : State) (j l : Nat) (o : Option ChannelReport) (r : Option LampRecord) : Option LampRecord :=
  match o with
  | none => r
  | some ch =>
    if lampOnChannel s.eqTab j (lampOf s.eqTab l).channel = some l ∧ ch.echo = lampMode s.eqTab s.seq.state l then
      match sampleKind (lampOf s.eqTab l) ch.echo ch.lit ch.sample with
      | none => r
      | some k => r.map (judgeSample (nLampOf s.crTab) k)
    else r

section
variable {s : State} {j c l : Nat} {ch : ChannelReport}

theorem channel_of_lampOnChannel {t : List Word} (h : lampOnChannel t j c = some l) : (lampOf t l).channel = c := by
  have hfound := List.find?_some h
  simp only [Bool.and_eq_true, decide_eq_true_eq] at hfound
  exact hfound.2

/-- A channel's report is judged for the lamp on it and no other (R104). -/
theorem judgeChannel_lampRecord : (judgeChannel j c ch s).lampRecord l
    = lampJudged s j l (if (lampOf s.eqTab l).channel = c then some ch else none) (s.lampRecord l) := by
  unfold judgeChannel
  split
  next hnone =>
    split
    next hc => rw [lampJudged, hc, hnone, if_neg (fun h => (by cases h.1))]
    next => rfl
  next x hx =>
    have hxc := channel_of_lampOnChannel hx
    by_cases hl : l = x
    · subst hl
      rw [if_pos hxc, lampJudged, hxc, hx]
      by_cases hecho : ch.echo = lampMode s.eqTab s.seq.state l
      · rw [if_neg (fun h => h hecho), if_pos ⟨rfl, hecho⟩]
        cases sampleKind (lampOf s.eqTab l) ch.echo ch.lit ch.sample with
        | none => rfl
        | some k => exact (judgeLamp_lampRecord l).trans (if_pos rfl)
      · rw [if_pos hecho, if_neg (fun h => hecho h.2)]
    · have hkept : ∀ k v, (judgeLamp x k v s).lampRecord l = s.lampRecord l := fun k v => by
        rw [judgeLamp_lampRecord, if_neg hl]
      have hnot : lampJudged s j l (if (lampOf s.eqTab l).channel = c then some ch else none) (s.lampRecord l)
          = s.lampRecord l := by
        split
        next hc =>
          rw [lampJudged, hc, hx, if_neg (fun h => hl (Option.some.inj h.1).symm)]
        next => rfl
      rw [hnot]
      split
      · rfl
      · split
        · rfl
        · exact hkept ..

theorem judgeChannel_touched (j c : Nat) (ch : ChannelReport) (s : State) :
    Touches [.lamp, .fault] s (judgeChannel j c ch s) := judgeChannel_touches j c ch (by decide) (Touches.refl _ s)

theorem judgeChannel_modules : (judgeChannel j c ch s).lamp.modules = s.lamp.modules := by
  unfold judgeChannel
  split
  · rfl
  · split
    · rfl
    · split
      · rfl
      · exact judgeLamp_modules

theorem lampJudged_congr {t : State} (h : Touches [.lamp, .fault] s t) : lampJudged t = lampJudged s := by
  funext j l o r
  unfold lampJudged
  rw [h.eqTab_eq, h.crTab_eq, h.seq_eq]

end

/-- The report of channel `n` in a run of reports whose first is of channel `c`. -/
def reportOfChannel (chs : List ChannelReport) (c n : Nat) : Option ChannelReport :=
  if c ≤ n then chs[n - c]? else none

theorem judgeChannels_lampRecord (j l : Nat) (chs : List ChannelReport) (c : Nat) (s : State) :
    (judgeChannels j chs c s).lampRecord l
      = lampJudged s j l (reportOfChannel chs c (lampOf s.eqTab l).channel) (s.lampRecord l) := by
  induction chs generalizing c s with
  | nil =>
    have hnone : reportOfChannel [] c (lampOf s.eqTab l).channel = none := by
      unfold reportOfChannel
      split <;> rfl
    rw [hnone]
    rfl
  | cons ch rest ih =>
    have htouch := judgeChannel_touched j c ch s
    rw [judgeChannels, ih, lampJudged_congr htouch, htouch.eqTab_eq, judgeChannel_lampRecord]
    by_cases hc : (lampOf s.eqTab l).channel = c
    · have hpast : reportOfChannel rest (c + 1) (lampOf s.eqTab l).channel = none := by
        rw [reportOfChannel, if_neg (by omega)]
      have hhere : reportOfChannel (ch :: rest) c (lampOf s.eqTab l).channel = some ch := by
        rw [reportOfChannel, if_pos (by omega), hc, Nat.sub_self]
        rfl
      rw [if_pos hc, hpast, hhere]
      rfl
    · have hskip : reportOfChannel (ch :: rest) c (lampOf s.eqTab l).channel
          = reportOfChannel rest (c + 1) (lampOf s.eqTab l).channel := by
        unfold reportOfChannel
        by_cases hle : c ≤ (lampOf s.eqTab l).channel
        · rw [if_pos hle, if_pos (by omega), show (lampOf s.eqTab l).channel - c
            = (lampOf s.eqTab l).channel - (c + 1) + 1 by omega, List.getElem?_cons_succ]
        · rw [if_neg hle, if_neg (by omega)]
      rw [if_neg hc, hskip]
      rfl

theorem judgeChannels_modules (j : Nat) (chs : List ChannelReport) (c : Nat) (s : State) :
    (judgeChannels j chs c s).lamp.modules = s.lamp.modules := by
  induction chs generalizing c s with
  | nil => rfl
  | cons ch rest ih => rw [judgeChannels, ih, judgeChannel_modules]

/-! ## A report taken in -/

/-- The lamp supervisor as a report's module is heard in, before its channels are judged (R103, R112). -/
def lampHeard (j timeout : Nat) (s : State) : State := countRedReport j (lampModuleHeard j timeout s)

section
variable {s : State} {j m : Nat}

theorem lampHeard_touched (j timeout : Nat) (s : State) : Touches [.lamp, .fault] s (lampHeard j timeout s) :=
  countRedReport_touches j (by decide) (lampModuleHeard_touches j timeout (by decide) (Touches.refl _ s))

theorem lampHeard_lamp (j timeout : Nat) (s : State) : (lampHeard j timeout s).lamp = { s.lamp with
      modules := s.lamp.modules.modify j (fun x =>
      { supervision := .ok, silence := some (timePlus s.now timeout), redCount := min (x.redCount + 1) 10 }) } := by
  have hheard : (lampModuleHeard j timeout s).lamp = { s.lamp with modules := s.lamp.modules.modify j (fun m =>
      { m with supervision := .ok, silence := some (timePlus s.now timeout) }) } :=
    (endFaultUnless_touches (L := [.fault]) .lampModuleSilent _ (by decide) (Touches.refl _ _)).lamp_eq
  rw [lampHeard, countRedReport, State.setLamp_lamp, hheard]
  dsimp only
  rw [List.modify_modify_eq]
  rfl

theorem takeLampReport_eq (j m : Nat) (chs : List ChannelReport) (s : State) : takeLampReport j m chs s
    = evaluateRoadLights (judgeChannels j chs 0 (lampHeard j (moduleOf s.eqTab m).silence s)) := rfl

theorem takeLampReport_modules (chs : List ChannelReport) : (takeLampReport j m chs s).lamp.modules
    = s.lamp.modules.modify j (fun x => {
        supervision := .ok, silence := some (timePlus s.now (moduleOf s.eqTab m).silence),
        redCount := min (x.redCount + 1) 10 }) := by
  rw [takeLampReport_eq, evaluateRoadLights_lamp, judgeChannels_modules, lampHeard_lamp]

theorem takeLampReport_lampRecord (chs : List ChannelReport) (l : Nat) : (takeLampReport j m chs s).lampRecord l
    = lampJudged s j l chs[(lampOf s.eqTab l).channel]? (s.lampRecord l) := by
  have hheard := lampHeard_touched j (moduleOf s.eqTab m).silence s
  have hrec : (lampHeard j (moduleOf s.eqTab m).silence s).lampRecord l = s.lampRecord l := by
    rw [State.lampRecord, lampHeard_lamp]
    rfl
  rw [takeLampReport_eq, lampRecord_congr (evaluateRoadLights_lamp _), judgeChannels_lampRecord,
    lampJudged_congr hheard, hheard.eqTab_eq, hrec, reportOfChannel, if_pos (Nat.zero_le _), Nat.sub_zero]

end

section
variable {payload : List Byte}

/-- Past the end of a report no channel reads as valid (R183). -/
theorem channelReport_past {c : Nat} (h : payload.length = 12) (hc : 4 ≤ c) : channelReport payload c = none := by
  have hzero : byteAt payload (3 * c + 1) = 0 := by
    rw [byteAt, List.getD_eq_getElem?_getD, List.getElem?_eq_none (by omega)]
    rfl
  rw [channelReport, hzero]
  split
  next hlit => cases hlit
  next => rfl

theorem lampReportOf_valid (hlen : payload.length = 12) (h : ∀ c < 4, (channelReport payload c).isSome) :
    ∃ chs, lampReportOf payload = some chs ∧ ∀ c, chs[c]? = channelReport payload c := by
  obtain ⟨a, ha⟩ := Option.isSome_iff_exists.mp (h 0 (by omega))
  obtain ⟨b, hb⟩ := Option.isSome_iff_exists.mp (h 1 (by omega))
  obtain ⟨c, hc⟩ := Option.isSome_iff_exists.mp (h 2 (by omega))
  obtain ⟨d, hd⟩ := Option.isSome_iff_exists.mp (h 3 (by omega))
  refine ⟨[a, b, c, d], by rw [lampReportOf, if_pos hlen, ha, hb, hc, hd], fun n => ?_⟩
  match n with
  | 0 => exact ha.symm
  | 1 => exact hb.symm
  | 2 => exact hc.symm
  | 3 => exact hd.symm
  | n + 4 => rw [channelReport_past hlen (by omega)]; rfl

end

/-- Settles O31: the channels are judged one by one, each for the lamp on it. -/
theorem lampReport : Obligations.LampReport := by
  intro a payload s m hc hm hlen hvalid j
  obtain ⟨chs, hchs, hchannel⟩ := lampReportOf_valid hlen hvalid
  obtain ⟨copy, hcopy⟩ := receiveField_known .lampReport payload hc (knownSource_of_module hm) (by omega)
  let u := hearLink a.port s
  have heq : u.eqTab = s.eqTab := hearLink_eqTab ..
  have htouch : Touches [.lamp, .fault] u (takeLampReport j m chs u) :=
    takeLampReport_touches j m chs (by decide) (Touches.refl _ u)
  have hend : Ended copyBlocks (takeLampReport j m chs u)
      (withCopy a.port copy (finishProof u false (takeLampReport j m chs u))) :=
    (Ended.of_finishProof u false _).withCopy a.port copy
  have hlamp := hend.copied.lamp_eq
  refine ⟨withCopy a.port copy (finishProof u false (takeLampReport j m chs u)), ?_, ?_, fun l => ?_, ?_, ?_, ?_⟩
  · have htake : takeField .lampReport a.port a.src payload u = finishProof u false (takeLampReport j m chs u) := by
      simp only [takeField, takeLampTelegram, hm, hchs, heq] <;> rfl
    exact congrArg Host.Outcome.next (hcopy.trans (congrArg (withCopy a.port copy) htake))
  · rw [hlamp, takeLampReport_modules, hearLink_lamp, hearLink_now, heq]
  · rw [lampRecord_congr hlamp, takeLampReport_lampRecord, hchannel, heq, lampRecord_congr (hearLink_lamp ..)]
    unfold lampJudged
    have hseq : u.seq = s.seq := hearLink_seq ..
    have hcr : u.crTab = s.crTab := by rw [State.crTab, hearLink_config]; rfl
    rw [heq, hseq, hcr] <;> rfl
  · rw [hend.crossingProof_eq, hend.barrier, htouch.barrier_eq, hearLink_barrier]
  · exact hend.onlyClasses (takeLampReport_reports j m chs (List.Subset.refl _) (.refl true)).from_heard
  · exact hend.touched htouch (by decide) (by decide)

/-! ## The silence of a lamp module -/

section
variable {s : State} {j : Nat}

theorem lampModuleSilence_lamp (j : Nat) (s : State) : (lampModuleSilence j s).lamp
    = { lamps := mapLamps (fun l => (lampOf s.eqTab l).module = j) (fun _ => lampFresh) s.lamp.lamps
        modules := s.lamp.modules.modify j fun x => { x with supervision := .silent, silence := none } } := by
  have henter : ∀ x y u, (enterFault .lampModuleSilent x y u).lamp = u.lamp := fun x y u =>
    (enterFault_touches (L := [.fault]) _ x y (by decide) (Touches.refl _ u)).lamp_eq
  rw [lampModuleSilence, silenceLampModule, evaluateRoadLights_lamp, endLampFaults_lamp, henter]
  rfl

theorem lampModuleSilence_isActive : (lampModuleSilence j s).fault.isActive .lampModuleSilent = true := by
  have hend : ∀ u, (evaluateRoadLights (endLampFaults u)).fault.isActive .lampModuleSilent
      = u.fault.isActive .lampModuleSilent := fun u =>
    ((evaluateRoadLights_reports (cls := [.redLampFailed, .roadLightsFailed, .amberLampFailed, .lampStuckOn]) (by simp)
      (endLampFaults_reports (by simp) (.refl true))).onlyClasses .lampModuleSilent (by decide)).1
  rw [lampModuleSilence, silenceLampModule, hend, enterFault_isActive, decide_eq_true rfl, Bool.or_true]

end

theorem modify_of_getElem? {α : Type} {l : List α} {i : Nat} {x : α} (h : l[i]? = some x) (f : α → α) :
    l.modify i f = l.set i (f x) := by
  rw [List.modify_eq_set_getElem?, h]
  rfl

/-- Settles O32. -/
theorem lampModuleSilence_expiry : Obligations.LampModuleSilence := by
  intro j s m hm hdue
  have htouch := lampModuleSilence_touches (L := [.lamp, .fault]) j.val (by decide) (Touches.refl _ s)
  have hend := Ended.of_finishProof s false (lampModuleSilence j.val s)
  have hlamp := hend.copied.lamp_eq.trans (lampModuleSilence_lamp j.val s)
  refine ⟨_, congrArg Host.Outcome.next (Eq.trans (by rw [hm]; rfl) (atExpiry_of_due hdue _)), ?_, fun l => ?_, ?_, ?_, ?_, ?_⟩
  · rw [hlamp]
    exact modify_of_getElem? hm _
  · rw [State.lampRecord, hlamp, mapLamps_record]
    simp only [decide_eq_true_eq]
    rfl
  · rw [hend.fault_eq, lampModuleSilence_isActive]
  · rw [hend.crossingProof_eq, hend.barrier, htouch.barrier_eq]
  · exact hend.onlyClasses (lampModuleSilence_reports j.val (List.Subset.refl _) (.refl true)).onlyClasses
  · exact hend.touched htouch (by decide) (by decide)

end Sys2Proof.Machine
end

section
/-! PROOFS. The sequencer acting on demand (sections 4.5 to 4.10): the statement O29. -/

namespace Sys2Proof.Machine

/-! ## The closure prolonged -/

section
variable {s : State}

theorem checkProlonged_touched (s : State) : Touches [.seq, .fault] s (checkProlonged s) :=
  checkProlonged_touches (by decide) (Touches.refl _ s)

theorem checkProlonged_seq (s : State) : (checkProlonged s).seq
    = { s.seq with prolonged := s.seq.prolonged || s.seq.longClosure = none } := by
  have henter : ∀ x y u, (enterFault .prolongedClosure x y u).seq = u.seq := fun x y u =>
    (enterFault_touches (L := [.fault]) _ x y (by decide) (Touches.refl _ u)).seq_eq
  unfold checkProlonged
  split
  next h =>
    rw [henter]
    simp [h.1]
  next h =>
    rw [not_and_not_right] at h
    have hkept : (s.seq.prolonged || decide (s.seq.longClosure = none)) = s.seq.prolonged := by
      by_cases hc : s.seq.longClosure = none
      · rw [h hc, Bool.true_or]
      · rw [decide_eq_false hc, Bool.or_false]
    rw [hkept]

theorem checkProlonged_isActive (hc : s.seq.longClosure = none) (hp : s.seq.prolonged = false) :
    (checkProlonged s).fault.isActive .prolongedClosure = true := by
  rw [checkProlonged, if_pos ⟨hc, by simp [hp]⟩, enterFault_isActive, decide_eq_true rfl, Bool.or_true]

end

/-! ## ENTRY_LOWERING entered from RAISING -/

section
variable {s : State}

/-- LOWER is given to the ENTRY barriers; where there is none EXIT_LOWERING is entered at once (R82, R90). -/
theorem enterEntryLowering_eq (s : State) : enterEntryLowering s
    = if entryBarriers s.eqTab = [] then enterExitLowering (enterState .entryLowering s)
      else giveCommands .lower (entryBarriers s.eqTab) (enterState .entryLowering s) := by
  have hentered : SequenceFrame sequenceClasses s (enterState .entryLowering s) :=
    enterState_sequenceFrame _ (by decide) (SequenceFrame.refl _ s)
  have hgiven := giveCommands_sequenceFrame .lower (entryBarriers s.eqTab) (by decide) hentered
  rw [enterEntryLowering, checkEntryLowered, hgiven.eqTab_eq, giveCommands_allResolved]
  simp only [decide_eq_true_eq]
  split
  next h => rw [h]; rfl
  next => rfl

/-- A new closure's onset and the red report counts, before its state is entered (R77, R109, R112). -/
def closureBegun (s : State) : State := redBegins (setOnset s)

theorem relower_eq (s : State) : relower s = enterEntryLowering (closureBegun s) := rfl

theorem closureBegun_touched (s : State) : Touches [.seq, .lamp, .fault] s (closureBegun s) :=
  redBegins_touches (by decide) (setOnset_touches (by decide) (Touches.refl _ s))

theorem closureBegun_seq (s : State) : (closureBegun s).seq = { s.seq with
    onset := some s.now, longClosure := some (timePlus s.now (tLongClosureOf s.crTab)) } := setOnset_seq s

theorem closureBegun_redCount {m : LampModule} (h : m ∈ (closureBegun s).lamp.modules) : m.redCount = 0 := by
  obtain ⟨x, -, rfl⟩ := List.mem_map.mp h
  rfl

/-- Demand is read of the tables, the sections, the detectors and the pool (R75). -/
theorem State.demand_congr {t : State} (hconfig : t.config = s.config) (haxle : t.axle = s.axle)
    (htracker : t.tracker = s.tracker) : t.demand = s.demand := by
  have hread : t.demand = ({ s with config := t.config, axle := t.axle, tracker := t.tracker } : State).demand := rfl
  rw [hread, hconfig, haxle, htracker]

/-- A phase entered reads of the entering state the tables, the sections, the detectors, the pool, the time and road
presence. -/
theorem ExitLoweringEntered.congr {q : Sequencer} {rec : Nat → Option BarrierRecord} {u t : State}
    (hconfig : u.config = s.config) (haxle : u.axle = s.axle) (htracker : u.tracker = s.tracker) (hnow : u.now = s.now)
    (hpresence : u.barrier.presence = s.barrier.presence) (h : ExitLoweringEntered q rec u t) :
    ExitLoweringEntered q rec s t := by
  have hread : ExitLoweringEntered q rec ({ s with
      config := u.config, axle := u.axle, tracker := u.tracker, timebase := u.now
      barrier := { s.barrier with presence := u.barrier.presence } } : State) t := h
  rw [hconfig, haxle, htracker, hnow, hpresence] at hread
  exact hread

theorem ClosedEntered.congr {q : Sequencer} {rec : Nat → Option BarrierRecord} {u t : State}
    (hconfig : u.config = s.config) (haxle : u.axle = s.axle) (htracker : u.tracker = s.tracker) (hnow : u.now = s.now)
    (h : ClosedEntered q rec u t) : ClosedEntered q rec s t := by
  have hread : ClosedEntered q rec ({ s with
      config := u.config, axle := u.axle, tracker := u.tracker, timebase := u.now } : State) t := h
  rw [hconfig, haxle, htracker, hnow] at hread
  exact hread

end

/-- Settles O29: demand or its absence by phase; a barrier just given a command is not resolved. -/
theorem actsOnDemand : Obligations.ActsOnDemand := by
  intro s t onset limit hold given
  have hreopen : hold = true ↔ ReopenHeld s := by
    simp only [hold, ReopenHeld, List.any_eq_true, Bool.and_eq_true, decide_eq_true_eq, Option.any_eq_true]
    rfl
  have hgiven : ∀ {c : BarrierCommand} {p : Nat → Bool} {ms : Nat},
      (∀ b < 4, t.barrierRecord b = (s.barrierRecord b).map fun r => if p b then givenNow s c ms r else r) →
      given c ((List.range 4).filter p) ms := by
    intro c p ms h b hb
    rw [h b hb]
    simp only [List.mem_filter, List.mem_range, hb, true_and]
    rfl
  refine ⟨fun h => ?_, fun hc hd => ?_, fun h hd => ?_, fun h hd => ?_, fun h hd hh => ?_, fun h hd hh => ?_,
    fun h hd hentry => ?_, fun h hd hnone => ?_, ?_, ?_⟩
  · show actOnDemand s = s
    rw [actOnDemand, h]
  · show actOnDemand s = s
    rw [actOnDemand, hd]
    cases hst : s.seq.state with
    | closed => exact absurd hst hc
    | _ => rfl
  · have ht : t = enterAmber s := by
      show actOnDemand s = _
      rw [actOnDemand, h, hd]
      rfl
    rw [ht, enterAmber_seq]
    exact ⟨rfl, (enterAmber_touches (L := [.portA, .portB, .seq, .lamp, .cmd, .fault, .queue .command]) (by decide)
      (Touches.refl _ s)).barrier_eq⟩
  · have ht : t = checkProlonged s := by
      show actOnDemand s = _
      rw [actOnDemand, hd]
      simp only [List.mem_cons, List.not_mem_nil, or_false] at h
      rcases h with h | h | h | h | h <;> rw [h] <;> rfl
    rw [ht]
    exact ⟨checkProlonged_seq s, (checkProlonged_touched s).barrier_eq, checkProlonged_isActive⟩
  · show actOnDemand s = s
    rw [actOnDemand, h, hd]
    exact reopenDecision_of_held (hreopen.mp hh)
  · have ht : t = enterRaising s := by
      show actOnDemand s = _
      rw [actOnDemand, h, hd]
      exact reopenDecision_of_not_held fun hr => Bool.false_ne_true (hh.symm.trans (hreopen.mpr hr))
    have hrec := fun b (hb : b < 4) => raisingBegun_barrierRecord s hb
    rw [enterRaising_eq] at ht
    by_cases hnone : barriersInUse s.eqTab = []
    · rw [if_pos hnone] at ht
      refine ⟨?_, ?_, hgiven fun b hb => ?_⟩
      · rw [ht, enterState_seq, raisingBegun_seq, if_pos hnone]
      · rw [ht, (enterState_onlyClasses (l := phaseClasses) .opened (by decide) (OnlyClasses.refl _ _) .prolongedClosure
          (by decide)).1]
        exact raisingBegun_isActive s
      · rw [ht, enterState_barrierRecord]
        exact hrec b hb
    · rw [if_neg hnone] at ht
      refine ⟨?_, ?_, hgiven fun b hb => ?_⟩
      · rw [ht, raisingBegun_seq, if_neg hnone]
      · rw [ht]
        exact raisingBegun_isActive s
      · rw [ht]
        exact hrec b hb
  · have hbegun := closureBegun_touched s
    have hne : entryBarriers (closureBegun s).eqTab ≠ [] := by
      obtain ⟨b, hb, -⟩ := hentry
      rw [hbegun.eqTab_eq]
      exact List.ne_nil_of_mem hb
    have ht : t = giveCommands .lower (entryBarriers s.eqTab) (enterState .entryLowering (closureBegun s)) := by
      show actOnDemand s = _
      rw [actOnDemand, h, hd]
      show relower s = _
      rw [relower_eq, enterEntryLowering_eq, if_neg hne, hbegun.eqTab_eq]
    have hentered : SequenceFrame sequenceClasses (closureBegun s) (enterState .entryLowering (closureBegun s)) :=
      enterState_sequenceFrame _ (by decide) (SequenceFrame.refl _ _)
    have hframe := giveCommands_sequenceFrame .lower (entryBarriers s.eqTab) (by decide) hentered
    refine ⟨?_, hgiven fun b hb => ?_, fun m hm => ?_⟩
    · rw [ht, giveCommands_seq, enterState_seq, closureBegun_seq]
    · have hnow : givenNow (closureBegun s) = givenNow s := by
        funext c ms r
        simp only [givenNow, hbegun.now_eq]
      rw [ht, giveCommands_barrierRecord, hentered.givenNow_eq, hentered.crTab_eq, enterState_barrierRecord,
        State.barrierRecord_congr hbegun.barrier_eq, hnow, hbegun.crTab_eq, entryBarriers, map_if_mem_picked hb]
      rfl
    · rw [ht, hframe.touches.lamp_eq] at hm
      exact closureBegun_redCount hm
  · have hbegun := closureBegun_touched s
    have ht : t = enterExitLowering (enterState .entryLowering (closureBegun s)) := by
      show actOnDemand s = _
      rw [actOnDemand, h, hd]
      show relower s = _
      rw [relower_eq, enterEntryLowering_eq, if_pos (by rw [hbegun.eqTab_eq, hnone])]
    have hentered : SequenceFrame sequenceClasses (closureBegun s) (enterState .entryLowering (closureBegun s)) :=
      enterState_sequenceFrame _ (by decide) (SequenceFrame.refl _ _)
    have hframe := enterExitLowering_sequenceFrame hentered
    refine ⟨?_, fun m hm => ?_⟩
    · have hexit := (enterExitLowering_entered (enterState .entryLowering (closureBegun s))).of_frame hentered
      rw [enterState_seq, enterState_barrierRecord, closureBegun_seq, State.barrierRecord_congr hbegun.barrier_eq] at hexit
      rw [ht]
      exact hexit.congr hbegun.config_eq hbegun.axle_eq hbegun.tracker_eq hbegun.now_eq (by rw [hbegun.barrier_eq])
    · rw [ht, hframe.touches.lamp_eq] at hm
      exact closureBegun_redCount hm
  · exact (actOnDemand_reports (List.Subset.refl _) (.refl true)).onlyClasses
  · exact actOnDemand_touches (List.Subset.refl _) (Touches.refl _ s)

end Sys2Proof.Machine
end

section
/-! PROOFS. Barrier reports, proving expiries and silent barrier modules (sections 6.3, 6.4): what they leave of the
records, and the statements O28, O34 and O35. -/

namespace Sys2Proof.Machine

/-! ## The ends of events -/

section
variable {u t : State} {E : List Block}

theorem Ended.barrierRecord_eq (h : Ended E u t) : t.barrierRecord = u.barrierRecord := by
  funext b
  simp only [State.barrierRecord, h.barrier]

theorem Ended.proved_eq (h : Ended E u t) : t.barrier.proved = t.crossingProof := by
  rw [h.crossingProof_eq, h.barrier]

theorem Ended.wide (h : Ended E u t) : Ended copyBlocks u t := ⟨h.copied, h.barrier, List.Subset.refl _⟩

theorem tellEndedProofs_of_not_waiting {before : State} (h : u.seq.state ∉ [.entryLowering, .exitLowering, .raising]) :
    tellEndedProofs before u = u := by
  unfold tellEndedProofs barrierResolved
  split
  · cases hst : u.seq.state <;> simp_all
  · rfl

end

/-! ## A changed record -/

section
variable {s : State} {b : Nat} {r now : BarrierRecord}

theorem lt_of_barrierRecord_some (h : s.barrierRecord b = some r) : b < s.barrier.barriers.length := by
  by_contra hge
  rw [State.barrierRecord, List.getElem?_eq_none (Nat.not_lt.mp hge)] at h
  cases h

theorem changeBarrier_barrierRecord (h : s.barrierRecord b = some r) (was now : BarrierRecord) (x : Nat) :
    (changeBarrier b was now s).barrierRecord x = if x = b then some now else s.barrierRecord x := by
  rw [State.barrierRecord_congr (changeBarrier_barrier ..), putBarrier_barrierRecord h]

theorem changeBarrier_touched (b : Nat) (was now : BarrierRecord) (s : State) :
    Touches [.barrier, .fault] s (changeBarrier b was now s) :=
  changeBarrier_touches b was now (by decide) (Touches.refl _ s)

/-- The classes of a barrier's position are no others' (R130). -/
theorem changeBarrier_isActive (b : Nat) (was now : BarrierRecord) {c : FaultClass}
    (hc : c ∉ [FaultClass.barrierNotDown, .barrierNotUp]) :
    (changeBarrier b was now s).fault.isActive c = s.fault.isActive c :=
  ((changeBarrier_reports (cls := [.barrierNotDown, .barrierNotUp]) b was now (by simp) (.refl true)).onlyClasses c hc).1

theorem endBarrierFaults_isActive (c : BarrierCommand) : (endBarrierFaults s).fault.isActive (notThereClass c)
    = (s.fault.isActive (notThereClass c) && s.anyNotThere c) := by
  cases c <;> simp [endBarrierFaults, notThereClass]

theorem anyNotThere_congr {t : State} (h : t.barrier = s.barrier) : t.anyNotThere = s.anyNotThere := by
  funext c
  simp only [State.anyNotThere, State.barrierRecord_congr h]

/-- A record that comes into the condition of its class makes the class active (R130). -/
theorem changeBarrier_isActive_self (hb : b < 4) (hrec : s.barrierRecord b = some r)
    (hnow : recordNotThere now.commanded now = true) (hwas : recordNotThere now.commanded r = false) :
    (changeBarrier b r now s).fault.isActive (notThereClass now.commanded) = true := by
  have hany : (putBarrier b now s).anyNotThere now.commanded = true := by
    rw [State.anyNotThere, List.any_eq_true]
    exact ⟨b, List.mem_range.mpr hb, by rw [putBarrier_barrierRecord hrec, if_pos rfl]; exact hnow⟩
  have henter : (enterNotThere b r now (putBarrier b now s)).barrier = (putBarrier b now s).barrier :=
    (enterNotThere_touches (L := [.fault]) b r now (by decide) (Touches.refl _ _)).barrier_eq
  rw [changeBarrier, endBarrierFaults_isActive, anyNotThere_congr henter, hany, Bool.and_true, enterNotThere,
    if_pos ⟨hnow, by rw [hwas]; exact Bool.false_ne_true⟩, enterFault_isActive, decide_eq_true rfl, Bool.or_true]

end

/-! ## The three events of a barrier -/

section
variable {s : State} {b j : Nat} {r : BarrierRecord}

theorem expireProof_eq (h : s.barrierRecord b = some r) :
    expireProof b s = changeBarrier b r (recordLost .expired r) s := by
  simp only [expireProof, h]

/-- The barrier module `j` made SILENT, before its barrier is acted on (R124). -/
def moduleSilenced (j : Nat) (s : State) : State :=
  enterFault .barrierModuleSilent ((modulesOfType s.eqTab .barrier).getD j 0)
    (moduleOf s.eqTab ((modulesOfType s.eqTab .barrier).getD j 0)).silence
    (s.setBarrier { s.barrier with
      modules := s.barrier.modules.modify j fun x => { x with supervision := .silent, silence := none } })

theorem moduleSilenced_touched (j : Nat) (s : State) : Touches [.barrier, .fault] s (moduleSilenced j s) :=
  enterFault_touches _ _ _ (by decide) (State.setBarrier_touches _ (by decide) (Touches.refl _ s))

theorem moduleSilenced_barrier (j : Nat) (s : State) : (moduleSilenced j s).barrier = { s.barrier with
    modules := s.barrier.modules.modify j fun x => { x with supervision := .silent, silence := none } } :=
  (enterFault_touches (L := [.fault]) _ _ _ (by decide) (Touches.refl _ _)).barrier_eq

theorem moduleSilenced_barrierRecord : (moduleSilenced j s).barrierRecord = s.barrierRecord := by
  funext x
  rw [State.barrierRecord, moduleSilenced_barrier]
  rfl

theorem barrierModuleSilence_eq (hb : barrierOfModule s.eqTab j = some b) :
    barrierModuleSilence j s = silenceBarrier b (moduleSilenced j s) := by
  have heq : (moduleSilenced j s).eqTab = s.eqTab := (moduleSilenced_touched j s).eqTab_eq
  show (match barrierOfModule (moduleSilenced j s).eqTab j with
    | none => moduleSilenced j s
    | some b => silenceBarrier b (moduleSilenced j s)) = _
  rw [heq, hb]

theorem silenceBarrier_of_record (hi : s.seq.state ≠ .initSafe) (h : s.barrierRecord b = some r) :
    silenceBarrier b s = changeBarrier b r (recordLost .silent r) s := by
  simp only [silenceBarrier, if_neg hi, h]

theorem silenceBarrier_initSafe (hi : s.seq.state = .initSafe) : silenceBarrier b s = s := if_pos hi

theorem barrierModuleHeard_touched (j timeout : Nat) (s : State) :
    Touches [.barrier, .fault] s (barrierModuleHeard j timeout s) :=
  barrierModuleHeard_touches j timeout (by decide) (Touches.refl _ s)

theorem barrierModuleHeard_barrier (j timeout : Nat) (s : State) : (barrierModuleHeard j timeout s).barrier
    = { s.barrier with modules := s.barrier.modules.modify j fun _ =>
          { supervision := .ok, silence := some (timePlus s.now timeout) } } :=
  (endFaultUnless_touches (L := [.fault]) .barrierModuleSilent _ (by decide) (Touches.refl _ _)).barrier_eq

theorem barrierModuleHeard_barrierRecord {timeout : Nat} :
    (barrierModuleHeard j timeout s).barrierRecord = s.barrierRecord := by
  funext x
  rw [State.barrierRecord, barrierModuleHeard_barrier]
  rfl

theorem takeBarrierReport_eq {m : Nat} {pos : BarrierPosition} {echo : Option BarrierCommand}
    (hb : barrierOfModule s.eqTab j = some b) (h : s.barrierRecord b = some r) :
    takeBarrierReport j m pos echo s = changeBarrier b r (reportedRecord s.seq.state pos echo r)
      (barrierModuleHeard j (moduleOf s.eqTab m).silence s) := by
  have hheard := barrierModuleHeard_touched j (moduleOf s.eqTab m).silence s
  have hb' : barrierOfModule (barrierModuleHeard j (moduleOf s.eqTab m).silence s).eqTab j = some b := by
    rw [hheard.eqTab_eq, hb]
  have h' : (barrierModuleHeard j (moduleOf s.eqTab m).silence s).barrierRecord b = some r := by
    rw [barrierModuleHeard_barrierRecord, h]
  simp only [takeBarrierReport, hb', h']
  rw [hheard.seq_eq]

/-- A BARRIER_REPORT consumed is taken in, and the sequencer told of a proof that ended (R120, R121). -/
theorem exec_barrier_taken {a : Arrival} {payload : List Byte} {m : Nat} {pos : BarrierPosition}
    {echo : Option BarrierCommand} (hc : Consumed .field s a) (hm : moduleOfTypeAt s.eqTab .barrier a.src = some m)
    (hp : barrierReportOf payload = some (pos, echo)) :
    ∃ copy, exec (.barrierReport a payload) s = .next (withCopy a.port copy (settle (hearLink a.port s)
      (tellEndedProofs (hearLink a.port s)
        (takeBarrierReport (typeIndex s.eqTab .barrier m) m pos echo (hearLink a.port s))))) := by
  have hlen : payload.length ≤ 48 := by
    by_contra hlong
    rw [barrierReportOf, if_neg (by omega)] at hp
    cases hp
  obtain ⟨copy, hcopy⟩ := receiveField_known .barrierReport payload hc (knownSource_of_module hm) hlen
  refine ⟨copy, congrArg Host.Outcome.next (hcopy.trans (congrArg (withCopy a.port copy) ?_))⟩
  have heq : (hearLink a.port s).eqTab = s.eqTab := hearLink_eqTab ..
  simp only [takeField, takeBarrierTelegram, heq, hm, hp]

end

/-! ## Outside the phases that wait -/

theorem hearLink_barrierRecord (p : Port) (s : State) : (hearLink p s).barrierRecord = s.barrierRecord :=
  State.barrierRecord_congr (hearLink_barrier p s)

/-- Settles O34: the report is acted on, and the sequencer, waiting for no barrier, does nothing. -/
theorem barrierReport : Obligations.BarrierReport := by
  intro a payload s m b pos echo r hn hc hm hp hb hr hst r1 r2
  obtain ⟨copy, hexec⟩ := exec_barrier_taken hc hm hp
  let j := typeIndex s.eqTab .barrier m
  let u := hearLink a.port s
  have heq : u.eqTab = s.eqTab := hearLink_eqTab ..
  have hseq : u.seq = s.seq := hearLink_seq ..
  have htouch : Touches [.barrier, .fault] u (takeBarrierReport j m pos echo u) :=
    takeBarrierReport_touches j m pos echo (by decide) (Touches.refl _ u)
  have hquiet : tellEndedProofs u (takeBarrierReport j m pos echo u) = takeBarrierReport j m pos echo u :=
    tellEndedProofs_of_not_waiting (by rw [htouch.seq_eq, hseq]; exact hst)
  have hend : Ended copyBlocks (takeBarrierReport j m pos echo u)
      (withCopy a.port copy (settle u (takeBarrierReport j m pos echo u))) :=
    (Ended.of_settle (hn.heard.of_touches (by decide) htouch)).withCopy a.port copy
  have htaken : takeBarrierReport j m pos echo u = changeBarrier b r (reportedRecord u.seq.state pos echo r)
      (barrierModuleHeard j (moduleOf u.eqTab m).silence u) :=
    takeBarrierReport_eq (by rw [heq]; exact hb) (by rw [hearLink_barrierRecord]; exact hr)
  have hbarrier : (takeBarrierReport j m pos echo u).barrier = { s.barrier with
      barriers := s.barrier.barriers.set b (some r2)
      modules := s.barrier.modules.modify j fun _ =>
        { supervision := .ok, silence := some (timePlus s.now (moduleOf s.eqTab m).silence) } } := by
    have hrecord : reportedRecord s.seq.state pos echo r = r2 := by
      unfold reportedRecord silenceOver
      dsimp only
      by_cases hi : s.seq.state = .initSafe
      · simp only [r2, r1, hi, if_true, ne_eq, not_true, false_and, if_false]
      · simp only [r2, r1, hi, if_false, ne_eq, not_false_eq_true, true_and]
    rw [htaken, changeBarrier_barrier, putBarrier, State.setBarrier_barrier, barrierModuleHeard_barrier, hseq, hrecord,
      heq, hearLink_now, hearLink_barrier]
  refine ⟨withCopy a.port copy (settle u (takeBarrierReport j m pos echo u)), ?_, ?_, ?_, ?_, hend.proved_eq, ?_, ?_⟩
  · rw [hexec]
    exact congrArg Host.Outcome.next (congrArg (fun v => withCopy a.port copy (settle u v)) hquiet)
  · rw [hend.barrier, hbarrier]
  · rw [hend.barrier, hbarrier]
  · rw [hend.barrier, hbarrier]
  · exact hend.onlyClasses (takeBarrierReport_reports j m pos echo (List.Subset.refl _) (.refl true)).from_heard
  · exact hend.touched htouch (by decide) (by decide)

/-- Settles O35: both events leave the barrier lost, and the sequencer, waiting for no barrier, does nothing. -/
theorem proofLost : Obligations.ProofLost := by
  constructor
  · intro b s r hn hr hdue hst
    have htouch : Touches [.barrier, .fault] s (expireProof b.val s) :=
      expireProof_touches b.val (by decide) (Touches.refl _ s)
    have hquiet : tellEndedProofs s (expireProof b.val s) = expireProof b.val s :=
      tellEndedProofs_of_not_waiting (by rw [htouch.seq_eq]; exact hst)
    have hend : Ended endBlocks (expireProof b.val s) (settle s (tellEndedProofs s (expireProof b.val s))) := by
      rw [hquiet]
      exact .of_settle (hn.of_touches (by decide) htouch)
    have hbarrier : (expireProof b.val s).barrier
        = { s.barrier with barriers := s.barrier.barriers.set b.val (some (recordLost .expired r)) } := by
      rw [expireProof_eq hr, changeBarrier_barrier]
      rfl
    refine ⟨_, congrArg Host.Outcome.next (Eq.trans (by rw [hr]; rfl) (atExpiry_of_due hdue _)), ?_, ?_, ?_,
      hend.proved_eq, fun hthere => ?_, ?_, ?_⟩
    · rw [hend.barrier, hbarrier]
      rfl
    · rw [hend.barrier, hbarrier]
    · rw [hend.barrier, hbarrier]
    · have hactive := changeBarrier_isActive_self (now := recordLost .expired r) b.isLt hr
        (by simp [recordNotThere, recordLost, causeCounts]) hthere
      rw [hend.fault_eq, expireProof_eq hr, ← hactive]
      cases hcmd : r.commanded <;> simp [recordLost, hcmd, notThereClass]
    · exact hend.onlyClasses (expireProof_reports b.val (List.Subset.refl _) (.refl true)).onlyClasses
    · exact hend.touched htouch (by decide) (by decide)
  · intro j s m b r hn hm hdue hb hr hst
    have htouch : Touches [.barrier, .fault] s (barrierModuleSilence j.val s) :=
      barrierModuleSilence_touches j.val (by decide) (Touches.refl _ s)
    have hquiet : tellEndedProofs s (barrierModuleSilence j.val s) = barrierModuleSilence j.val s :=
      tellEndedProofs_of_not_waiting (by rw [htouch.seq_eq]; exact hst)
    have hend : Ended endBlocks (barrierModuleSilence j.val s)
        (settle s (tellEndedProofs s (barrierModuleSilence j.val s))) := by
      rw [hquiet]
      exact .of_settle (hn.of_touches (by decide) htouch)
    let u := moduleSilenced j.val s
    have hru : u.barrierRecord b = some r := by rw [moduleSilenced_barrierRecord, hr]
    have hseq : u.seq = s.seq := (moduleSilenced_touched j.val s).seq_eq
    have hactive : u.fault.isActive .barrierModuleSilent = true := by
      show (enterFault _ _ _ _).fault.isActive _ = true
      rw [enterFault_isActive, decide_eq_true rfl, Bool.or_true]
    have hsilenced : ∃ now, now = (if s.seq.state = .initSafe then r else recordLost .silent r)
        ∧ (∀ x, (barrierModuleSilence j.val s).barrierRecord x = if x = b then some now else s.barrierRecord x)
        ∧ (barrierModuleSilence j.val s).barrier.modules = u.barrier.modules
        ∧ (barrierModuleSilence j.val s).barrier.presence = u.barrier.presence
        ∧ (barrierModuleSilence j.val s).fault.isActive .barrierModuleSilent = true := by
      rw [barrierModuleSilence_eq hb]
      by_cases hi : s.seq.state = .initSafe
      · rw [silenceBarrier_initSafe (by rw [hseq, hi]), if_pos hi]
        refine ⟨r, rfl, fun x => ?_, rfl, rfl, hactive⟩
        rw [moduleSilenced_barrierRecord]
        split
        next hx => rw [hx, hr]
        next => rfl
      · rw [silenceBarrier_of_record (by rw [hseq]; exact hi) hru, if_neg hi]
        refine ⟨recordLost .silent r, rfl, fun x => ?_, ?_, ?_, ?_⟩
        · rw [changeBarrier_barrierRecord hru, moduleSilenced_barrierRecord]
        · rw [changeBarrier_barrier]
          rfl
        · rw [changeBarrier_barrier]
          rfl
        · rw [changeBarrier_isActive _ _ _ (by decide)]
          exact hactive
    obtain ⟨now, hnow, hrec, hmodules, hpresence, hsilent⟩ := hsilenced
    refine ⟨_, congrArg Host.Outcome.next (Eq.trans (by rw [hm]; rfl) (atExpiry_of_due hdue _)), ?_, ?_, fun x hx => ?_, ?_,
      hend.proved_eq, ?_, ?_, ?_⟩
    · rw [hend.barrier, hmodules, moduleSilenced_barrier]
      exact modify_of_getElem? hm _
    · rw [hend.barrierRecord_eq, hrec, if_pos rfl, hnow]
      rfl
    · rw [hend.barrierRecord_eq, hrec, if_neg hx]
    · rw [hend.barrier, hpresence, moduleSilenced_barrier]
    · rw [hend.fault_eq, hsilent]
    · exact hend.onlyClasses (barrierModuleSilence_reports j.val (List.Subset.refl _) (.refl true)).onlyClasses
    · exact hend.touched htouch (by decide) (by decide)

/-! ## A phase ended by a proof -/

/-- From `s` to `u` the proof under way of barrier `b` has ended, its record being `r` (R121, R122, R124). -/
structure ProofEnded (s : State) (b : Nat) (r : BarrierRecord) (u : State) : Prop where
  touches : Touches [.portA, .portB, .links, .barrier, .fault] s u
  record : ∀ x, u.barrierRecord x = if x = b then some r else s.barrierRecord x
  presence : u.barrier.presence = s.barrier.presence

section
variable {s base u : State} {b : Nat} {r r0 : BarrierRecord}

theorem tellEndedProofs_of_ended (hb : b < 4) (hwas : base.barrierRecord b = some r0) (hp : r0.proving = true)
    (hrec : u.barrierRecord b = some r) (hnot : r.proving = false) : tellEndedProofs base u = barrierResolved u := by
  rw [tellEndedProofs, if_pos]
  refine List.any_eq_true.mpr ⟨b, List.mem_range.mpr hb, ?_⟩
  simp only [State.proving, hwas, hrec, hp, hnot, Bool.not_false, Bool.and_true]

theorem barrierResolved_touched (u : State) : Touches [.portA, .portB, .seq, .barrier, .cmd, .fault, .queue .command] u
    (barrierResolved u) := barrierResolved_touches (by decide) (Touches.refl _ u)

/-- Each event that ends a proof tells the sequencer so, and with no activation waiting the event ends (R81, R89). -/
theorem exec_of_endsProof {c : Instr} (hn : NotAwaiting s) (h : EndsProof c s b r) :
    ∃ u t, exec c s = .next t ∧ ProofEnded s b r u ∧ Ended copyBlocks (barrierResolved u) t := by
  obtain ⟨r0, hr0, hproving, hended, hb, hcase⟩ := h
  rcases hcase with ⟨b', rfl, rfl, hdue, rfl⟩ | ⟨j, m, rfl, hm, hdue, hmodule, hi, rfl⟩
    | ⟨a, payload, m, pos, echo, rfl, hc, hm, hp, hmodule, rfl⟩
  · have hrec := changeBarrier_barrierRecord hr0 r0 (recordLost .expired r0)
    have htouch := changeBarrier_touched b'.val r0 (recordLost .expired r0) s
    have htell := tellEndedProofs_of_ended hb hr0 hproving ((hrec _).trans (if_pos rfl)) hended
    refine ⟨_, _, congrArg Host.Outcome.next (Eq.trans (by rw [hr0]; rfl) (atExpiry_of_due hdue _)),
      ⟨htouch.mono (by decide), hrec, ?_⟩, ?_⟩
    · rw [changeBarrier_barrier]
      rfl
    · rw [expireProof_eq hr0, htell]
      exact (Ended.of_settle ((hn.of_touches (by decide) htouch).of_touches (by decide) (barrierResolved_touched _))).wide
  · let v := moduleSilenced j.val s
    have hv : Touches [.barrier, .fault] s v := moduleSilenced_touched j.val s
    have hrv : v.barrierRecord b = some r0 := by rw [moduleSilenced_barrierRecord, hr0]
    have hrec := changeBarrier_barrierRecord hrv r0 (recordLost .silent r0)
    have htouch := hv.trans (changeBarrier_touched b r0 (recordLost .silent r0) v)
    have htell := tellEndedProofs_of_ended hb hr0 hproving ((hrec _).trans (if_pos rfl)) hended
    refine ⟨_, _, congrArg Host.Outcome.next (Eq.trans (by rw [hm]; rfl) (atExpiry_of_due hdue _)),
      ⟨htouch.mono (by decide), fun x => ?_, ?_⟩, ?_⟩
    · rw [hrec, moduleSilenced_barrierRecord]
    · rw [changeBarrier_barrier]
      show v.barrier.presence = _
      rw [moduleSilenced_barrier]
    · rw [barrierModuleSilence_eq hmodule, silenceBarrier_of_record (by rw [hv.seq_eq]; exact hi) hrv, htell]
      exact (Ended.of_settle ((hn.of_touches (by decide) htouch).of_touches (by decide) (barrierResolved_touched _))).wide
  · obtain ⟨copy, hexec⟩ := exec_barrier_taken hc hm hp
    let j := typeIndex s.eqTab .barrier m
    let h := hearLink a.port s
    have heq : h.eqTab = s.eqTab := hearLink_eqTab ..
    have hrh : h.barrierRecord b = some r0 := by rw [hearLink_barrierRecord, hr0]
    let v := barrierModuleHeard j (moduleOf h.eqTab m).silence h
    have hv : Touches [.barrier, .fault] h v := barrierModuleHeard_touched _ _ h
    have hrv : v.barrierRecord b = some r0 := by rw [barrierModuleHeard_barrierRecord, hrh]
    have htaken : takeBarrierReport j m pos echo h = changeBarrier b r0 (reportedRecord h.seq.state pos echo r0) v :=
      takeBarrierReport_eq (by rw [heq]; exact hmodule) hrh
    rw [hearLink_seq] at htaken
    have hrec := changeBarrier_barrierRecord hrv r0 (reportedRecord s.seq.state pos echo r0)
    have htouch := hv.trans (changeBarrier_touched b r0 (reportedRecord s.seq.state pos echo r0) v)
    have hheard : Touches [.portA, .portB, .links, .barrier, .fault] s h :=
      hearLink_touches a.port (by decide) (Touches.refl _ s)
    have htell := tellEndedProofs_of_ended hb hrh hproving ((hrec _).trans (if_pos rfl)) hended
    refine ⟨_, _, hexec, ⟨hheard.trans (htouch.mono (by decide)), fun x => ?_, ?_⟩, ?_⟩
    · rw [hrec, barrierModuleHeard_barrierRecord, hearLink_barrierRecord]
    · rw [changeBarrier_barrier]
      show v.barrier.presence = _
      rw [barrierModuleHeard_barrier, hearLink_barrier]
    · show Ended copyBlocks _ (withCopy a.port copy (settle h (tellEndedProofs h (takeBarrierReport j m pos echo h))))
      rw [htaken, htell]
      exact (Ended.of_settle ((hn.heard.of_touches (by decide) htouch).of_touches (by decide)
        (barrierResolved_touched _))).withCopy a.port copy

theorem ProofEnded.resolved_other (h : ProofEnded s b r u) {c : BarrierCommand} {x : Nat} (hx : x ≠ b) :
    u.resolved c x = s.resolved c x := by
  unfold State.resolved
  rw [h.record, if_neg hx]

theorem ProofEnded.resolved_self (h : ProofEnded s b r u) (c : BarrierCommand) :
    u.resolved c b = recordResolved c r := by
  unfold State.resolved
  rw [h.record, if_pos rfl]

/-- The last barrier waited for. -/
theorem ProofEnded.allResolved (h : ProofEnded s b r u) {c : BarrierCommand} {bs : List Nat}
    (hr : recordResolved c r = true) (ho : OthersResolved s c bs b) : u.allResolved c bs = true := by
  refine List.all_eq_true.mpr fun x hx => ?_
  by_cases hxb : x = b
  · rw [hxb, h.resolved_self, hr]
  · rw [h.resolved_other hxb]
    exact ho x hx hxb

/-- Another barrier is still waited for. -/
theorem ProofEnded.not_allResolved (h : ProofEnded s b r u) {c : BarrierCommand} {bs : List Nat}
    (ho : ∃ x ∈ bs, x ≠ b ∧ s.resolved c x = false) : u.allResolved c bs = false := by
  obtain ⟨x, hx, hxb, hnot⟩ := ho
  exact List.all_eq_false.mpr ⟨x, hx, by rw [h.resolved_other hxb, hnot]; exact Bool.false_ne_true⟩

theorem barrierResolved_entry (hst : u.seq.state = .entryLowering) : barrierResolved u
    = if u.allResolved .lower (entryBarriers u.eqTab) then enterExitLowering u else u := by
  simp only [barrierResolved, hst, checkEntryLowered]

theorem barrierResolved_exit (hst : u.seq.state = .exitLowering) (hx : u.seq.exitStarted = true) : barrierResolved u
    = if u.allResolved .lower (exitBarriers u.eqTab) then enterClosed u else u := by
  simp only [barrierResolved, hst, hx, checkExitLowered, if_true]

theorem barrierResolved_raising (hst : u.seq.state = .raising) : barrierResolved u
    = if u.allResolved .raise (barriersInUse u.eqTab) then enterState .opened u else u := by
  simp only [barrierResolved, hst, checkRaised, enterOpen]

theorem barrierResolved_else (hst : u.seq.state ∉ [.entryLowering, .exitLowering, .raising]) :
    barrierResolved u = u := by
  unfold barrierResolved
  cases hs : u.seq.state <;> simp_all

/-- What EXIT_LOWERING entered says, it says of the sequencer, the barrier records and the flags. -/
theorem ExitLoweringEntered.of_ended {q : Sequencer} {rec : Nat → Option BarrierRecord} {v t : State} {E : List Block}
    (h : ExitLoweringEntered q rec s v) (hend : Ended E v t) : ExitLoweringEntered q rec s t := by
  simpa only [ExitLoweringEntered, ExitLoweringStarted, ClosedEntered, hend.seq_eq, hend.fault_eq,
    hend.barrierRecord_eq] using h

theorem ClosedEntered.of_ended {q : Sequencer} {rec : Nat → Option BarrierRecord} {v t : State} {E : List Block}
    (h : ClosedEntered q rec s v) (hend : Ended E v t) : ClosedEntered q rec s t := by
  simpa only [ClosedEntered, hend.seq_eq, hend.fault_eq, hend.barrierRecord_eq] using h

end

/-- Settles O28: with the proof ended the sequencer looks at the barriers of its phase, all others as before. -/
theorem phaseEnds : Obligations.PhaseEnds := by
  intro c s b r hn h
  obtain ⟨u, t, hexec, hended, hend⟩ := exec_of_endsProof hn h
  obtain ⟨-, -, -, -, hb, -⟩ := h
  obtain ⟨htouch, hrecord, hpresence⟩ := hended
  have hended : ProofEnded s b r u := ⟨htouch, hrecord, hpresence⟩
  have hseq : u.seq = s.seq := htouch.seq_eq
  have heq : u.eqTab = s.eqTab := htouch.eqTab_eq
  have hrecords : u.barrierRecord = fun x => if x = b then some r else s.barrierRecord x := funext hrecord
  have hb' : u.barrierRecord b = some r := by rw [hrecord, if_pos rfl]
  have hsame : barrierResolved u = u → t.seq = s.seq ∧ t.barrierRecord b = some r := fun hstay => by
    rw [hend.seq_eq, hend.barrierRecord_eq, hstay]
    exact ⟨hseq, hb'⟩
  have hentered : barrierResolved u = enterExitLowering u →
      ExitLoweringEntered s.seq (fun x => if x = b then some r else s.barrierRecord x) s t := fun hgo => by
    have hexit := (enterExitLowering_entered u).congr htouch.config_eq htouch.axle_eq htouch.tracker_eq htouch.now_eq
      hpresence
    rw [hseq, hrecords, ← hgo] at hexit
    exact hexit.of_ended hend
  have hclosed : barrierResolved u = enterClosed u →
      ClosedEntered s.seq (fun x => if x = b then some r else s.barrierRecord x) s t := fun hgo => by
    have hclose := (enterClosed_closedEntered u).congr htouch.config_eq htouch.axle_eq htouch.tracker_eq htouch.now_eq
    rw [hseq, hrecords, ← hgo] at hclose
    exact hclose.of_ended hend
  have hentry : s.seq.state = .entryLowering → recordResolved .lower r = true →
      OthersResolved s .lower (entryBarriers s.eqTab) b → barrierResolved u = enterExitLowering u := fun hst hr ho => by
    rw [barrierResolved_entry (by rw [hseq, hst]), heq, if_pos (hended.allResolved hr ho)]
  have hexit : s.seq.state = .exitLowering → s.seq.exitStarted = true → recordResolved .lower r = true →
      OthersResolved s .lower (exitBarriers s.eqTab) b → barrierResolved u = enterClosed u := fun hst hx hr ho => by
    rw [barrierResolved_exit (by rw [hseq, hst]) (by rw [hseq, hx]), heq, if_pos (hended.allResolved hr ho)]
  refine ⟨t, hexec, fun hst => hsame (barrierResolved_else (by rw [hseq]; exact hst)),
    fun hst _ hr ho hdelay => ?_, fun hst _ hr ho => hentered (hentry hst hr ho), fun hst ho => hsame ?_,
    fun hst hx _ hr ho hd => ?_, fun hst hx _ hr ho => hclosed (hexit hst hx hr ho), fun hst hx ho => hsame ?_,
    fun hst _ hr ho => ?_, fun hst ho => hsame ?_, ?_⟩
  · obtain ⟨hq, hrec⟩ := (hentered (hentry hst hr ho)).1 hdelay
    exact ⟨hq, (hrec b hb).trans (if_pos rfl)⟩
  · rw [barrierResolved_entry (by rw [hseq, hst]), heq, hended.not_allResolved ho, if_neg Bool.false_ne_true]
  · obtain ⟨hq, hrec⟩ := (hclosed (hexit hst hx hr ho)).1 (.inl hd)
    exact ⟨hq, (hrec b hb).trans (if_pos rfl)⟩
  · rw [barrierResolved_exit (by rw [hseq, hst]) (by rw [hseq, hx]), heq, hended.not_allResolved ho,
      if_neg Bool.false_ne_true]
  · have hopen : barrierResolved u = enterState .opened u := by
      rw [barrierResolved_raising (by rw [hseq, hst]), heq, if_pos (hended.allResolved hr ho)]
    rw [hend.seq_eq, hend.barrierRecord_eq, hopen, enterState_seq, enterState_barrierRecord, hseq]
    exact ⟨rfl, hb'⟩
  · rw [barrierResolved_raising (by rw [hseq, hst]), heq, hended.not_allResolved ho, if_neg Bool.false_ne_true]
  · exact (htouch.mono (by decide)).trans (hend.touched (barrierResolved_touched u) (by decide) (by decide))

end Sys2Proof.Machine
end

section
/-! PROOFS. Road presence and the exit hold (sections 6.4, 6.5): what a change of occupancy makes of the barriers, and the
statement O36. -/

namespace Sys2Proof.Machine

/-! ## Barriers released and taken back -/

section
variable {l : List FaultClass} {s t : State}

theorem putBarrier_sequenceFrame (b : Nat) (r : BarrierRecord) (h : SequenceFrame l s t) :
    SequenceFrame l s (putBarrier b r t) :=
  ⟨State.setBarrier_touches _ (by decide) h.touches, h.classes.trans (.of_fault_eq rfl), h.modules, h.presence⟩

/-- A held record released and given LOWER; any other is left (R127). -/
def released (s : State) (r : BarrierRecord) : BarrierRecord :=
  if r.held then givenNow s .lower (tLowerMaxOf s.crTab) (recordReleased r) else r

/-- A record whose lowering proof is under way given RAISE and held; any other is left (R127). -/
def takenBack (s : State) (r : BarrierRecord) : BarrierRecord :=
  if r.proving ∧ r.commanded = .lower then
    recordHeld (timePlus s.now (tExitWaitMaxOf s.crTab)) (givenNow s .raise (tRaiseMaxOf s.crTab) r)
  else r

theorem released_released (s : State) (r : BarrierRecord) : released s (released s r) = released s r := by
  unfold released
  split <;> simp_all [givenNow, recordReleased]

theorem takenBack_takenBack (s : State) (r : BarrierRecord) : takenBack s (takenBack s r) = takenBack s r := by
  unfold takenBack
  split <;> simp_all [givenNow, recordHeld]

theorem releaseBarrier_sequenceFrame (b : Nat) (h : SequenceFrame phaseClasses s t) :
    SequenceFrame phaseClasses s (releaseBarrier b t) := by
  unfold releaseBarrier
  split
  · exact h
  · split
    · exact giveCommand_sequenceFrame _ _ (List.Subset.refl _) (putBarrier_sequenceFrame _ _ h)
    · exact h

theorem takeBackBarrier_sequenceFrame (b : Nat) (h : SequenceFrame phaseClasses s t) :
    SequenceFrame phaseClasses s (takeBackBarrier b t) := by
  unfold takeBackBarrier
  split
  · exact h
  · split
    · exact holdBarrier_sequenceFrame _ (giveCommand_sequenceFrame _ _ (List.Subset.refl _) h)
    · exact h

theorem releaseBarriers_sequenceFrame (bs : List Nat) (h : SequenceFrame phaseClasses s t) :
    SequenceFrame phaseClasses s (releaseBarriers bs t) := by
  induction bs generalizing t with
  | nil => exact h
  | cons b rest ih => exact ih (releaseBarrier_sequenceFrame b h)

theorem takeBackBarriers_sequenceFrame (bs : List Nat) (h : SequenceFrame phaseClasses s t) :
    SequenceFrame phaseClasses s (takeBackBarriers bs t) := by
  induction bs generalizing t with
  | nil => exact h
  | cons b rest ih => exact ih (takeBackBarrier_sequenceFrame b h)

theorem released_congr (h : SequenceFrame l s t) : released t = released s := by
  funext r
  simp only [released, h.givenNow_eq, h.crTab_eq]

theorem takenBack_congr (h : SequenceFrame l s t) : takenBack t = takenBack s := by
  funext r
  simp only [takenBack, h.givenNow_eq, h.crTab_eq, h.now_eq]

end

section
variable {s : State}

theorem releaseBarrier_barrierRecord (b x : Nat) (s : State) : (releaseBarrier b s).barrierRecord x
    = if x = b then (s.barrierRecord x).map (released s) else s.barrierRecord x := by
  cases hr : s.barrierRecord b with
  | none =>
    simp only [releaseBarrier, hr]
    split
    next hx => rw [hx, hr]; rfl
    next => rfl
  | some r =>
    simp only [releaseBarrier, hr]
    by_cases hheld : r.held = true
    · have hframe := putBarrier_sequenceFrame b (recordReleased r) (SequenceFrame.refl [] s)
      rw [if_pos hheld, giveCommand_barrierRecord, putBarrier_barrierRecord hr, hframe.givenNow_eq, hframe.crTab_eq]
      split
      next hx => rw [hx, hr, Option.map_some, Option.map_some, released, if_pos hheld]; rfl
      next => rfl
    · rw [if_neg hheld]
      split
      next hx => rw [hx, hr, Option.map_some, released, if_neg hheld]
      next => rfl

theorem takeBackBarrier_barrierRecord (b x : Nat) (s : State) : (takeBackBarrier b s).barrierRecord x
    = if x = b then (s.barrierRecord x).map (takenBack s) else s.barrierRecord x := by
  cases hr : s.barrierRecord b with
  | none =>
    simp only [takeBackBarrier, hr]
    split
    next hx => rw [hx, hr]; rfl
    next => rfl
  | some r =>
    simp only [takeBackBarrier, hr]
    by_cases hback : r.proving = true ∧ r.commanded = .lower
    · have hframe := giveCommand_sequenceFrame .raise b (List.Subset.refl _) (SequenceFrame.refl phaseClasses s)
      rw [if_pos hback, holdBarrier_barrierRecord, giveCommand_barrierRecord, hframe.now_eq, hframe.crTab_eq]
      split
      next hx => rw [hx, hr, Option.map_some, Option.map_some, Option.map_some, takenBack, if_pos hback]; rfl
      next => rfl
    · rw [if_neg hback]
      split
      next hx => rw [hx, hr, Option.map_some, takenBack, if_neg hback]
      next => rfl

/-- The records of the barriers listed are released, every other is as before. -/
theorem releaseBarriers_barrierRecord (bs : List Nat) (s : State) (x : Nat) : (releaseBarriers bs s).barrierRecord x
    = if x ∈ bs then (s.barrierRecord x).map (released s) else s.barrierRecord x := by
  induction bs generalizing s with
  | nil => simp [releaseBarriers]
  | cons b rest ih =>
    rw [releaseBarriers, ih, releaseBarrier_barrierRecord,
      released_congr (releaseBarrier_sequenceFrame b (SequenceFrame.refl _ s))]
    by_cases hxb : x = b
    · simp [hxb, Function.comp_def, released_released]
    · simp [hxb]

/-- The records of the barriers listed are taken back up, every other is as before. -/
theorem takeBackBarriers_barrierRecord (bs : List Nat) (s : State) (x : Nat) : (takeBackBarriers bs s).barrierRecord x
    = if x ∈ bs then (s.barrierRecord x).map (takenBack s) else s.barrierRecord x := by
  induction bs generalizing s with
  | nil => simp [takeBackBarriers]
  | cons b rest ih =>
    rw [takeBackBarriers, ih, takeBackBarrier_barrierRecord,
      takenBack_congr (takeBackBarrier_sequenceFrame b (SequenceFrame.refl _ s))]
    by_cases hxb : x = b
    · simp [hxb, Function.comp_def, takenBack_takenBack]
    · simp [hxb]

theorem released_not_held (s : State) (r : BarrierRecord) : (released s r).held = false := by
  unfold released
  split
  · rfl
  next h => exact (Bool.not_eq_true _).mp h

theorem endObstructed_barrier (s : State) : (endObstructed s).barrier = s.barrier :=
  (endObstructed_touches (L := [.fault]) (by decide) (Touches.refl _ s)).barrier_eq

/-- With no EXIT barrier held CROSSING_OBSTRUCTED ends (R128). -/
theorem endObstructed_isActive (h : ∀ b ∈ exitBarriers s.eqTab, ∀ r, s.barrierRecord b = some r → r.held = false) :
    (endObstructed s).fault.isActive .crossingObstructed = false := by
  have hnone : (exitBarriers s.eqTab).any s.barrierObstructed = false := by
    rw [List.any_eq_false]
    intro b hb
    unfold State.barrierObstructed
    cases hr : s.barrierRecord b with
    | none => simp
    | some r => simp [h b hb r hr]
  rw [endObstructed, endFaultUnless_isActive, hnone]
  simp

end

/-! ## A change of occupancy -/

section
variable {u : State} {was : Bool}

theorem occupancyChanged_elsewhere (h : ¬ (u.seq.state = .exitLowering ∧ u.seq.exitStarted = true)) :
    occupancyChanged was u = u := if_neg fun ⟨hst, hx, _⟩ => h ⟨hst, hx⟩

theorem occupancyChanged_same (h : u.occupied = was) : occupancyChanged was u = u :=
  if_neg fun ⟨_, _, hne⟩ => hne h

theorem occupancyChanged_cleared (hst : u.seq.state = .exitLowering) (hx : u.seq.exitStarted = true)
    (hnow : u.occupied = false) :
    occupancyChanged true u = endObstructed (releaseBarriers (exitBarriers u.eqTab) u) := by
  rw [occupancyChanged, if_pos ⟨hst, hx, by simp [hnow]⟩, hnow, if_neg Bool.false_ne_true]

theorem occupancyChanged_entered (hst : u.seq.state = .exitLowering) (hx : u.seq.exitStarted = true)
    (hnow : u.occupied = true) : occupancyChanged false u = takeBackBarriers (exitBarriers u.eqTab) u := by
  rw [occupancyChanged, if_pos ⟨hst, hx, by simp [hnow]⟩, if_pos hnow]

theorem occupancyChanged_modules (was : Bool) (u : State) :
    (occupancyChanged was u).barrier.modules = u.barrier.modules := by
  unfold occupancyChanged
  split
  · split
    · exact (takeBackBarriers_sequenceFrame _ (SequenceFrame.refl _ u)).modules
    · rw [endObstructed_barrier]
      exact (releaseBarriers_sequenceFrame _ (SequenceFrame.refl _ u)).modules
  · rfl

theorem occupancyChanged_cleared_record (hst : u.seq.state = .exitLowering) (hx : u.seq.exitStarted = true)
    (hnow : u.occupied = false) : (occupancyChanged true u).fault.isActive .crossingObstructed = false
      ∧ ∀ b < 4, (occupancyChanged true u).barrierRecord b
        = (u.barrierRecord b).map fun r => if barrierExitRole u.eqTab b then released u r else r := by
  have hrec : ∀ b < 4, (releaseBarriers (exitBarriers u.eqTab) u).barrierRecord b
      = (u.barrierRecord b).map fun r => if barrierExitRole u.eqTab b then released u r else r := fun b hb => by
    rw [releaseBarriers_barrierRecord, exitBarriers, map_if_mem_picked hb]
  have hframe := releaseBarriers_sequenceFrame (exitBarriers u.eqTab) (SequenceFrame.refl _ u)
  rw [occupancyChanged_cleared hst hx hnow]
  refine ⟨endObstructed_isActive fun b hb r hr => ?_, fun b hb => ?_⟩
  · rw [hframe.eqTab_eq] at hb
    rw [releaseBarriers_barrierRecord, if_pos hb, Option.map_eq_some_iff] at hr
    obtain ⟨x, -, rfl⟩ := hr
    exact released_not_held u x
  · rw [State.barrierRecord_congr (endObstructed_barrier _), hrec b hb]

theorem occupancyChanged_entered_record (hst : u.seq.state = .exitLowering) (hx : u.seq.exitStarted = true)
    (hnow : u.occupied = true) {b : Nat} (hb : b < 4) : (occupancyChanged false u).barrierRecord b
      = (u.barrierRecord b).map fun r => if barrierExitRole u.eqTab b then takenBack u r else r := by
  rw [occupancyChanged_entered hst hx hnow, takeBackBarriers_barrierRecord, exitBarriers, map_if_mem_picked hb]

end

/-! ## The two events -/

section
variable {s : State} {j : Nat}

theorem presenceModuleHeard_touched (j timeout : Nat) (v : Presence) (s : State) :
    Touches [.barrier, .fault] s (presenceModuleHeard j timeout v s) :=
  presenceModuleHeard_touches j timeout v (by decide) (Touches.refl _ s)

theorem presenceModuleHeard_barrier (j timeout : Nat) (v : Presence) (s : State) :
    (presenceModuleHeard j timeout v s).barrier = { s.barrier with presence := s.barrier.presence.modify j fun _ =>
      { supervision := .ok, silence := some (timePlus s.now timeout), taken := v } } :=
  (endFaultUnless_touches (L := [.fault]) .presenceModuleSilent _ (by decide) (Touches.refl _ _)).barrier_eq

/-- Presence module `j` made SILENT and taken as PRESENT, before the exit hold looks at the occupancy (R124, R125). -/
def presenceSilenced (j : Nat) (s : State) : State :=
  enterFault .presenceModuleSilent ((modulesOfType s.eqTab .presence).getD j 0)
    (moduleOf s.eqTab ((modulesOfType s.eqTab .presence).getD j 0)).silence
    (s.setBarrier { s.barrier with presence := s.barrier.presence.modify j fun _ =>
      { supervision := .silent, silence := none, taken := .present } })

theorem presenceModuleSilence_eq (j : Nat) (s : State) :
    presenceModuleSilence j s = occupancyChanged s.occupied (presenceSilenced j s) := rfl

theorem presenceSilenced_touched (j : Nat) (s : State) : Touches [.barrier, .fault] s (presenceSilenced j s) :=
  enterFault_touches _ _ _ (by decide) (State.setBarrier_touches _ (by decide) (Touches.refl _ s))

theorem presenceSilenced_barrier (j : Nat) (s : State) : (presenceSilenced j s).barrier = { s.barrier with
    presence := s.barrier.presence.modify j fun _ => { supervision := .silent, silence := none, taken := .present } } :=
  (enterFault_touches (L := [.fault]) _ _ _ (by decide) (Touches.refl _ _)).barrier_eq

theorem presenceSilenced_isActive : (presenceSilenced j s).fault.isActive .presenceModuleSilent = true := by
  rw [presenceSilenced, enterFault_isActive, decide_eq_true rfl, Bool.or_true]

theorem presenceSilenced_reports {cls : List FaultClass} (hl : .presenceModuleSilent ∈ cls) :
    OnlyClasses cls s (presenceSilenced j s) := enterFault_onlyClasses _ _ hl (.of_fault_eq rfl)

theorem presenceSilenced_occupied {m : PresenceModule} (h : s.barrier.presence[j]? = some m) :
    (presenceSilenced j s).occupied = true := by
  have hlt : j < s.barrier.presence.length := (List.getElem?_eq_some_iff.mp h).1
  rw [State.occupied, presenceSilenced_barrier, modify_of_getElem? h, List.any_eq_true]
  exact ⟨_, List.mem_set hlt _, rfl⟩

theorem presenceReportOf_valid {payload : List Byte} (h : payload = [1] ∨ payload = [2]) :
    presenceReportOf payload = some (if payload = [1] then .present else .absent) ∧ payload.length ≤ 48 := by
  rcases h with rfl | rfl
  · exact ⟨rfl, by decide⟩
  · exact ⟨rfl, by decide⟩

/-- A PRESENCE_REPORT consumed is taken in (R125). -/
theorem exec_presence_taken {a : Arrival} {payload : List Byte} {m : Nat} (hc : Consumed .field s a)
    (hm : moduleOfTypeAt s.eqTab .presence a.src = some m) (hp : payload = [1] ∨ payload = [2]) :
    ∃ t, exec (.presenceReport a payload) s = .next t ∧ Ended copyBlocks
      (occupancyChanged (hearLink a.port s).occupied (presenceModuleHeard (typeIndex s.eqTab .presence m)
        (moduleOf s.eqTab m).silence (if payload = [1] then .present else .absent) (hearLink a.port s))) t := by
  obtain ⟨hreport, hlen⟩ := presenceReportOf_valid hp
  obtain ⟨copy, hcopy⟩ := receiveField_known .presenceReport payload hc (knownSource_of_module hm) hlen
  have heq : (hearLink a.port s).eqTab = s.eqTab := hearLink_eqTab ..
  have htake : takeField .presenceReport a.port a.src payload (hearLink a.port s) = finishProof (hearLink a.port s) false
      (occupancyChanged (hearLink a.port s).occupied (presenceModuleHeard (typeIndex s.eqTab .presence m)
        (moduleOf s.eqTab m).silence (if payload = [1] then .present else .absent) (hearLink a.port s))) := by
    simp only [takeField, takePresenceTelegram, takePresenceReport, hreport, heq, hm]
  exact ⟨_, congrArg Host.Outcome.next (hcopy.trans (congrArg (withCopy a.port copy) htake)),
    (Ended.of_finishProof _ _ _).withCopy _ _⟩

end

/-- The crossing proof reads nothing of road presence (R129). -/
theorem crossingProof_of_presence {s u : State} (h : Touches [.barrier, .fault] s u)
    (hb : u.barrier.barriers = s.barrier.barriers) : u.crossingProof = s.crossingProof :=
  crossingProof_congr_states h.config_eq h.lamp_eq (by rw [h.seq_eq]) fun b => by
    simp only [State.barrierRecord, hb]

/-- What a change of presence from `s` to `u` makes of the barriers while exit lowering goes on (R127). -/
structure ExitHold (s u t : State) : Prop where
  same : u.occupied = s.occupied → t.barrier.barriers = s.barrier.barriers
  cleared : s.occupied = true → u.occupied = false → t.fault.isActive .crossingObstructed = false
    ∧ ∀ b < 4, t.barrierRecord b = (s.barrierRecord b).map fun r =>
        if barrierExitRole s.eqTab b then released s r else r
  entered : s.occupied = false → u.occupied = true → ∀ b < 4, t.barrierRecord b = (s.barrierRecord b).map fun r =>
    if barrierExitRole s.eqTab b then takenBack s r else r
  modules : t.barrier.modules = s.barrier.modules
  proved : t.barrier.proved = s.crossingProof

section
variable {s base u t : State} {E : List Block}

theorem exitHold_of_ended (hst : s.seq.state = .exitLowering) (hx : s.seq.exitStarted = true)
    (hseq : u.seq = s.seq) (hconfig : u.config = s.config) (hnow : u.now = s.now)
    (hbarriers : u.barrier.barriers = s.barrier.barriers) (hmodules : u.barrier.modules = s.barrier.modules)
    (hend : Ended E (occupancyChanged s.occupied u) t) : ExitHold s u t := by
  have hst' : u.seq.state = .exitLowering := by rw [hseq, hst]
  have hx' : u.seq.exitStarted = true := by rw [hseq, hx]
  have hcr : u.crTab = s.crTab := by simp only [State.crTab, hconfig]
  have heq : u.eqTab = s.eqTab := by simp only [State.eqTab, hconfig]
  have hgiven : givenNow u = givenNow s := by funext c ms r; simp only [givenNow, hnow]
  have hreleased : released u = released s := by funext r; simp only [released, hgiven, hcr]
  have htaken : takenBack u = takenBack s := by funext r; simp only [takenBack, hgiven, hcr, hnow]
  have hrec : u.barrierRecord = s.barrierRecord := by funext b; simp only [State.barrierRecord, hbarriers]
  have hclosed : ∀ v : State, v.seq = s.seq → v.crossingProof = false := fun v hv =>
    crossingProof_of_not_closed (by rw [hv, hst]; decide)
  have hvseq : (occupancyChanged s.occupied u).seq = s.seq :=
    (occupancyChanged_touches (L := [.portA, .portB, .barrier, .cmd, .fault, .queue .command]) _ (by decide)
      (Touches.refl _ u)).seq_eq.trans hseq
  refine ⟨fun h => ?_, fun hwas h => ?_, fun hwas h b hb => ?_, ?_, ?_⟩
  · rw [hend.barrier, occupancyChanged_same h, hbarriers]
  · obtain ⟨hactive, hrecord⟩ := occupancyChanged_cleared_record hst' hx' h
    have htrue : occupancyChanged s.occupied u = occupancyChanged true u := by rw [hwas]
    rw [← htrue] at hactive hrecord
    refine ⟨by rw [hend.fault_eq, hactive], fun b hb => ?_⟩
    rw [hend.barrierRecord_eq, hrecord b hb, hrec, heq, hreleased]
  · have hrecord := occupancyChanged_entered_record hst' hx' h hb
    have hfalse : occupancyChanged s.occupied u = occupancyChanged false u := by rw [hwas]
    rw [← hfalse] at hrecord
    rw [hend.barrierRecord_eq, hrecord, hrec, heq, htaken]
  · rw [hend.barrier, occupancyChanged_modules, hmodules]
  · rw [hend.barrier, hclosed s rfl, hclosed _ hvseq]

end

/-- A record released or left, in the words of the statement. -/
theorem map_released (s : State) (b : Nat) (o : Option BarrierRecord) :
    (o.map fun r => if barrierExitRole s.eqTab b then released s r else r)
      = o.map fun r => if barrierExitRole s.eqTab b ∧ r.held = true then
          { r with state := .unproved, commanded := .lower, proving := true, cause := none,
                   provingExpiry := some (timePlus s.now (tLowerMaxOf s.crTab)), held := false, exitWait := none }
        else r := by
  refine Option.map_congr fun r _ => ?_
  unfold released
  by_cases hrole : barrierExitRole s.eqTab b = true <;> by_cases hheld : r.held = true <;>
    simp [hrole, hheld, givenNow, recordReleased]

theorem map_takenBack (s : State) (b : Nat) (o : Option BarrierRecord) :
    (o.map fun r => if barrierExitRole s.eqTab b then takenBack s r else r)
      = o.map fun r => if barrierExitRole s.eqTab b ∧ r.proving = true ∧ r.commanded = .lower then
          { r with state := .unproved, commanded := .raise, proving := true, cause := none,
                   provingExpiry := some (timePlus s.now (tRaiseMaxOf s.crTab)), held := true,
                   exitWait := some (timePlus s.now (tExitWaitMaxOf s.crTab)) }
        else r := by
  refine Option.map_congr fun r _ => ?_
  unfold takenBack
  by_cases hrole : barrierExitRole s.eqTab b = true <;> by_cases hback : r.proving = true ∧ r.commanded = .lower <;>
    simp [hrole, hback, givenNow, recordHeld]

/-- Whether some module is taken as present depends on what the changed one is taken for alone. -/
theorem any_taken_modify_congr {f g : PresenceModule → PresenceModule} (l : List PresenceModule) (j : Nat)
    (hfg : ∀ x, (f x).taken = (g x).taken) :
    ((l.modify j f).any fun x => x.taken = .present) = (l.modify j g).any fun x => x.taken = .present := by
  have hmap : (l.modify j f).map (·.taken) = (l.modify j g).map (·.taken) := by
    refine List.ext_getElem? fun k => ?_
    simp only [List.getElem?_map, List.getElem?_modify]
    cases l[k]? with
    | none => rfl
    | some x => by_cases hk : j = k <;> simp [hk, hfg]
  have hany := congrArg (fun ts : List Presence => ts.any fun v => v = .present) hmap
  simpa only [List.any_map, Function.comp_def] using hany

/-- Settles O36: outside started exit lowering a change of occupancy does nothing; while it goes on the EXIT barriers are
released or taken back up. -/
theorem presence : Obligations.Presence := by
  refine ⟨fun a payload s m hc hm hp hnot => ?_, fun j s m hm hdue hnot => ?_, fun c s base now' hcase hst hx => ?_⟩
  · obtain ⟨t, hexec, hend⟩ := exec_presence_taken hc hm hp
    rw [occupancyChanged_elsewhere (by
      rw [(presenceModuleHeard_touched _ _ _ _).seq_eq, hearLink_seq]
      exact hnot)] at hend
    have htouch := presenceModuleHeard_touched (typeIndex s.eqTab .presence m) (moduleOf s.eqTab m).silence
      (if payload = [1] then .present else .absent) (hearLink a.port s)
    have hbarrier := presenceModuleHeard_barrier (typeIndex s.eqTab .presence m) (moduleOf s.eqTab m).silence
      (if payload = [1] then .present else .absent) (hearLink a.port s)
    refine ⟨t, hexec, ?_, ?_, ?_⟩
    · have hheard : (hearLink a.port s).crossingProof = s.crossingProof :=
        crossingProof_congr (congrArg _ (hearLink_config ..)) (hearLink_lamp ..) (hearLink_barrier ..) (hearLink_seq ..)
      rw [hend.barrier, crossingProof_of_presence htouch (by rw [hbarrier]), hbarrier, hheard, hearLink_barrier,
        hearLink_now]
    · exact hend.onlyClasses (presenceModuleHeard_reports _ _ _ (List.Subset.refl _) (.refl true)).from_heard
    · exact hend.touched htouch (by decide) (by decide)
  · have htouch := presenceSilenced_touched j.val s
    have hquiet : presenceModuleSilence j.val s = presenceSilenced j.val s := by
      rw [presenceModuleSilence_eq, occupancyChanged_elsewhere (by rw [htouch.seq_eq]; exact hnot)]
    have hend : Ended endBlocks (presenceSilenced j.val s) (finishProof s false (presenceModuleSilence j.val s)) := by
      rw [← hquiet]
      exact Ended.of_finishProof s false _
    refine ⟨_, congrArg Host.Outcome.next (Eq.trans (by rw [hm]; rfl) (atExpiry_of_due hdue _)), ?_, ?_, ?_, ?_⟩
    · rw [hend.barrier, crossingProof_of_presence htouch (by rw [presenceSilenced_barrier]), presenceSilenced_barrier,
        modify_of_getElem? hm]
    · rw [hend.fault_eq, presenceSilenced_isActive]
    · exact hend.onlyClasses (presenceSilenced_reports (by simp))
    · exact hend.touched htouch (by decide) (by decide)
  · have hgoal : ∃ u t E, exec c s = .next t ∧ ExitHold s u t ∧ u.occupied = now'
        ∧ OnlyClasses [.barrierNotDown, .barrierNotUp, .crossingObstructed, .presenceModuleSilent] s t
        ∧ Ended E (occupancyChanged s.occupied u) t ∧ Touches [.barrier, .fault] base u := by
      rcases hcase with ⟨a, payload, m, rfl, rfl, hc, hm, hp, hnow⟩ | ⟨j, m, rfl, hbase, hm, hdue, rfl⟩
      · obtain ⟨t, hexec, hend⟩ := exec_presence_taken hc hm hp
        have hocc : (hearLink a.port s).occupied = s.occupied := by rw [State.occupied, hearLink_barrier]; rfl
        rw [hocc] at hend
        let j := typeIndex s.eqTab .presence m
        let v : Presence := if payload = [1] then .present else .absent
        let u := presenceModuleHeard j (moduleOf s.eqTab m).silence v (hearLink a.port s)
        have htouch : Touches [.barrier, .fault] (hearLink a.port s) u := presenceModuleHeard_touched _ _ _ _
        have hbarrier : u.barrier = _ := presenceModuleHeard_barrier j (moduleOf s.eqTab m).silence v (hearLink a.port s)
        refine ⟨u, t, _, hexec, exitHold_of_ended hst hx ?_ ?_ ?_ ?_ ?_ hend, ?_, ?_, hend, htouch⟩
        · rw [htouch.seq_eq, hearLink_seq]
        · rw [htouch.config_eq, hearLink_config]
        · rw [htouch.now_eq, hearLink_now]
        · rw [hbarrier, hearLink_barrier]
        · rw [hbarrier, hearLink_barrier]
        · rw [hnow, State.occupied, hbarrier, hearLink_barrier]
          exact any_taken_modify_congr _ _ fun x => rfl
        · exact hend.onlyClasses ((occupancyChanged_reports _ (by simp)
            (presenceModuleHeard_reports _ _ _ (by simp) (.refl true))).from_heard)
      · subst hbase
        have hend := Ended.of_finishProof base false (presenceModuleSilence j.val base)
        have htouch := presenceSilenced_touched j.val base
        refine ⟨presenceSilenced j.val base, _, _,
          congrArg Host.Outcome.next (Eq.trans (by rw [hm]; rfl) (atExpiry_of_due hdue _)),
          exitHold_of_ended hst hx htouch.seq_eq htouch.config_eq htouch.now_eq ?_ ?_ hend, presenceSilenced_occupied hm, ?_,
          hend, htouch⟩
        · rw [presenceSilenced_barrier]
        · rw [presenceSilenced_barrier]
        · exact hend.onlyClasses (presenceModuleSilence_reports j.val (List.Subset.refl _) (.refl true)).onlyClasses
    obtain ⟨u, t, E, hexec, ⟨hsame, hcleared, hentered, hmodules, hproved⟩, hnow, hclasses, hend, htouch⟩ := hgoal
    refine ⟨t, hexec, fun h => hsame (hnow.trans h), fun hwas h => ?_, fun hwas h b hb => ?_, hmodules, hproved, hclasses, ?_⟩
    · obtain ⟨hactive, hrec⟩ := hcleared hwas (hnow.trans h)
      exact ⟨hactive, fun b hb => by rw [hrec b hb, map_released]⟩
    · rw [hentered hwas (hnow.trans h) b hb, map_takenBack]
    · have hchanged := occupancyChanged_touches (L := [.portA, .portB, .barrier, .cmd, .fault, .queue .command])
        s.occupied (by decide) (Touches.refl _ u)
      exact (htouch.mono (by decide)).trans ((hchanged.mono (by decide)).trans (hend.copied.mono (by decide)))

end Sys2Proof.Machine
end

section
/-! PROOFS. What every step keeps of the configuration unit (chapter 9): the staged tables, the pending set, the active
tables, and that no activation waits in a quiescent part. -/

namespace Sys2Proof.Machine

/-! ## The checks of R173 and R174 -/

theorem firstReason_eq_none {l : List (Bool × Reason)} : firstReason l = none ↔ ∀ x ∈ l, x.1 = false := by
  induction l with
  | nil => simp [firstReason]
  | cons x rest ih =>
    obtain ⟨bad, r⟩ := x
    cases bad <;> simp [firstReason, ih]

/-- Every check of R174 on the tables of a set, by its reason (R186). -/
structure TablesPass (own : Addr) (t : SafetyTables) : Prop where
  crossingRange : crossingInRange t.crossing = true
  crossingTiming : crossingTimed t.crossing = true
  equipmentRange : equipmentInRange t.equipment = true
  equipmentAddress : equipmentAddressed t.equipment own = true
  lampRange : (lampsInUse t.equipment).all (fun l => lampInRange t.equipment (lampOf t.equipment l)) = true
  lampChannel : (lampChannels t.equipment).Nodup
  lampProof : lampsSuffice t.equipment t.crossing = true
  barrierRange : (List.range 4).all (barrierInRange t.equipment) = true
  barrierModule : barriersMatched t.equipment = true
  detectorRange : (detectorsInUse t.detector).all (fun d => detectorInRange (detectorOf t.detector d)) = true
  detectorAddress : detectorsAddressed t.detector t.equipment own = true
  detectorGeometry : detectorsPlaced t.detector t.crossing = true
  approachRange : approachesAll t.detector t.approach approachInRange = true
  approachTiming : approachesAll t.detector t.approach (approachTimed t.crossing) = true

theorem checkTables_eq_none {own : Addr} {t : SafetyTables} : checkTables own t = none ↔ TablesPass own t := by
  simp only [checkTables, firstReason_eq_none, List.forall_mem_cons, List.not_mem_nil, false_implies, implies_true,
    and_true, Bool.not_eq_false', decide_eq_true_eq]
  constructor
  · rintro ⟨h1, h2, h3, h4, h5, h6, h7, h8, h9, h10, h11, h12, h13, h14⟩
    exact ⟨h1, h2, h3, h4, h5, h6, h7, h8, h9, h10, h11, h12, h13, h14⟩
  · rintro ⟨h1, h2, h3, h4, h5, h6, h7, h8, h9, h10, h11, h12, h13, h14⟩
    exact ⟨h1, h2, h3, h4, h5, h6, h7, h8, h9, h10, h11, h12, h13, h14⟩

/-- Tables that pass under one own address pass under any other that none of their addresses is (R2, R174). -/
theorem TablesPass.readdressed {own own' : Addr} {t : SafetyTables} (h : TablesPass own t)
    (hfree : own' ∉ detectorAddresses t.detector ++ moduleAddresses t.equipment) : TablesPass own' t := by
  have hdet : own' ∉ detectorAddresses t.detector := fun hm => hfree (List.mem_append_left _ hm)
  have hmod : own' ∉ moduleAddresses t.equipment := fun hm => hfree (List.mem_append_right _ hm)
  have heq := h.equipmentAddress
  have hdt := h.detectorAddress
  refine { h with equipmentAddress := ?_, detectorAddress := ?_ }
  · simp only [equipmentAddressed, Bool.and_eq_true] at heq ⊢
    exact ⟨heq.1, by simpa using hmod⟩
  · simp only [detectorsAddressed, Bool.and_eq_true, Bool.not_eq_true', List.any_eq_false, Bool.or_eq_true,
      decide_eq_true_eq, not_or] at hdt ⊢
    exact ⟨hdt.1, fun a ha => ⟨(hdt.2 a ha).1, fun hown => hdet (hown ▸ ha)⟩⟩

theorem checkActivate_eq_none {identity crc : Word} {own : Addr} {t : SafetyTables} :
    checkActivate identity crc own t = none
      ↔ identity ≠ 0 ∧ crc = tableCrc (safetyWords t) ∧ TablesPass own t := by
  unfold checkActivate
  split_ifs with hid hcrc
  · exact ⟨fun h => (by cases h), fun h => absurd hid h.1⟩
  · exact ⟨fun h => (by cases h), fun h => absurd h.2.1 hcrc⟩
  · rw [checkTables_eq_none]
    exact ⟨fun h => ⟨hid, not_not.mp hcrc, h⟩, fun h => h.2.2⟩

/-- What the checks of an ACTIVATE_LOOP leave certain of the staged loop table (R173). -/
theorem checkLoop_eq_none {crc : Word} {staged : List Word} {active : SafetyTables}
    (h : checkLoop crc staged active = none) : loopInRange staged = true
      ∧ (windowsOf staged).any windowTakesConfig = true
      ∧ ownAddressOf staged ∉ detectorAddresses active.detector ++ moduleAddresses active.equipment := by
  simp only [checkLoop, firstReason_eq_none, List.forall_mem_cons, Bool.not_eq_false'] at h
  obtain ⟨_, _, hrange, hconfig, haddr, _⟩ := h
  exact ⟨hrange, hconfig, by simpa using haddr⟩

/-! ## The tables are kept sound -/

/-- Staged tables, activation record and active tables are sound. -/
def ConfigSound (s : State) : Prop := StagedSound s ∧ ActivationSound s ∧ TablesSound s

section
variable {s t : State}

theorem ConfigSound.of_same (h : ConfigSound s) (hc : t.config = s.config)
    (hw : t.window.loopTable = s.window.loopTable) : ConfigSound t := by
  simpa only [ConfigSound, StagedSound, ActivationSound, TablesSound, State.stagedTable, State.loopTab, State.ownAddress,
    State.stagedSafety, State.safetyActive, hc, hw] using h

theorem ConfigSound.frame {L : List Block} (h : ConfigSound s) (hT : Touches L s t) (hC : .config ∉ L := by decide)
    (hW : .window ∉ L := by decide) : ConfigSound t :=
  h.of_same (hT.config_eq hC) (by rw [hT.window_eq hW])

theorem ConfigSound.cancelActivation (h : ConfigSound s) : ConfigSound (cancelActivation s) := by
  obtain ⟨hstaged, _, htables⟩ := h
  exact ⟨hstaged, ⟨by simp [Machine.cancelActivation], fun x hx => by cases hx⟩, htables⟩

theorem ConfigSound.takeEffect (h : ConfigSound s) {identity crc : Word}
    (hpend : s.config.pendingSet = some (identity, crc)) : ConfigSound (takeEffect identity crc s) := by
  obtain ⟨hstaged, ⟨_, hcheck⟩, hrange, hwindow, _, _⟩ := h
  obtain ⟨hid, _, hpass⟩ := checkActivate_eq_none.mp (hcheck _ hpend)
  have hc := takeEffect_config identity crc s
  have hw : (Machine.takeEffect identity crc s).window = s.window := (takeEffect_touched identity crc s).window_eq
  simp only [ConfigSound, StagedSound, ActivationSound, TablesSound, State.stagedTable, State.loopTab, State.ownAddress,
    State.stagedSafety, State.safetyActive, hc, hw]
  exact ⟨hstaged, ⟨by simp, fun x hx => by cases hx⟩, hrange, hwindow, fun hno => absurd hno (by simpa using hid),
    fun _ => checkTables_eq_none.mpr hpass⟩

theorem ConfigSound.activateIfQuiescent (h : ConfigSound s) : ConfigSound (activateIfQuiescent s) := by
  unfold Machine.activateIfQuiescent
  split
  next identity crc _ hpend =>
    split
    · exact h.takeEffect hpend
    · exact h
  · exact h

theorem ConfigSound.emptied (h : ConfigSound s) (code : Nat) : ConfigSound (restartEmptied code s)
    ∧ (restartEmptied code s).window = s.window := by
  have hw : (restartEmptied code s).window = s.window :=
    (restartEmptied_touches (L := [.portA, .portB, .axle, .tracker, .seq, .lamp, .barrier, .cmd, .fault, .config,
      .queue .command, .queue .status, .statusPeriod]) code (by decide) (Touches.refl _ s)).window_eq
  obtain ⟨hstaged, hact, hrange, hwindow, _, _⟩ := h
  refine ⟨?_, hw⟩
  simp only [ConfigSound, StagedSound, ActivationSound, TablesSound, State.stagedTable, State.loopTab, State.ownAddress,
    State.stagedSafety, State.safetyActive, restartEmptied_config, hw]
  exact ⟨hstaged, hact, hrange, hwindow, fun _ => ⟨trivial, trivial⟩, fun hyes => by simp at hyes⟩

theorem ConfigSound.answerRestart (h : ConfigSound s) (a : Arrival) (payload : List Byte) :
    ConfigSound (answerRestart a payload s) := by
  unfold Machine.answerRestart
  split
  · exact h.frame (sendReply_touched _ _ _ _)
  · refine ConfigSound.frame ?_ (sendReply_touched _ _ _ _)
    cases restartModeOfCode (byteAt payload 0).toNat with
    | none => exact h
    | some m =>
      cases m with
      | discard => exact (h.emptied 1).1.cancelActivation
      | keep =>
        show ConfigSound (restartKeepAccepted s)
        unfold restartKeepAccepted
        split
        · exact h.frame (restartKept_touches (L := [.portA, .portB, .axle, .tracker, .seq, .lamp, .barrier, .cmd,
            .fault, .queue .command, .statusPeriod]) (by decide) (Touches.refl _ s))
        · exact (h.emptied 0).1

theorem ConfigSound.answerConfirm (h : ConfigSound s) (a : Arrival) (payload : List Byte) :
    ConfigSound (answerConfirm a payload s) := by
  unfold Machine.answerConfirm confirmEffect
  split
  · exact h.frame (sendReply_touched _ _ _ _)
  · refine ConfigSound.frame ?_ (sendReply_touched _ _ _ _)
    split
    · exact h
    next hreason =>
      have hpending : s.config.pendingSet ≠ none := fun hnone => by
        rw [checkConfirm_of_idle _ (.inr hnone)] at hreason
        cases hreason
      obtain ⟨hstaged, ⟨_, hcheck⟩, htables⟩ := h
      refine ConfigSound.activateIfQuiescent ⟨hstaged, ⟨?_, hcheck⟩, htables⟩
      simp [hpending]

/-! ## Staged access -/

theorem checkAccess_fits {i : TableId} {start n : Nat} (h : checkAccess (some i) start n = none) :
    accessFits i start n := by
  by_contra hnot
  rw [checkAccess_of_not_fits hnot] at h
  cases h

theorem stagedSafety_of_setStaged_loop (st : StagedTables) (x : StagedTable) (i : TableId) (h : i ≠ .loop) :
    stagedOf (setStaged st .loop x) i = stagedOf st i := stagedOf_setStaged_of_ne h x

/-- The safety tables staged, table by table. -/
theorem stagedSafety_congr (h : ∀ i, i ≠ .loop → (t.stagedTable i).words = (s.stagedTable i).words) :
    t.stagedSafety = s.stagedSafety := by
  have hd := h .detector (by decide)
  have ha := h .approach (by decide)
  have he := h .equipment (by decide)
  have hc := h .crossing (by decide)
  simp only [State.stagedTable, stagedOf] at hd ha he hc
  simp only [State.stagedSafety, hd, ha, he, hc]

theorem stagedTable_putStaged (i j : TableId) (x : StagedTable) (s : State) :
    (putStaged i x s).stagedTable j = if j = i then x else s.stagedTable j := by
  rw [State.stagedTable, putStaged_config]
  split
  next hj => rw [hj, stagedOf_setStaged_self]
  next hj => rw [stagedOf_setStaged_of_ne hj, State.stagedTable]

/-- A staged table put in place with its size and its indices within it. -/
theorem StagedSound.putStaged (h : StagedSound s) (i : TableId) {x : StagedTable} (hx : x.words.length = tableSize i
    ∧ x.writeIndex ≤ tableSize i ∧ x.readIndex ≤ tableSize i) : StagedSound (putStaged i x s) := by
  refine ⟨fun j => ?_, h.2⟩
  rw [stagedTable_putStaged]
  split
  next hj => rw [hj]; exact hx
  next => exact h.1 j

theorem ConfigSound.stageRead (h : ConfigSound s) (table : Option TableId) (start n : Nat) :
    ConfigSound (stageReadEffect table start n (checkAccess table start n) s) := by
  cases table with
  | none => exact h
  | some i =>
    cases hreason : checkAccess (some i) start n with
    | some x => exact h
    | none =>
      obtain ⟨hstaged, ⟨hidle, hcheck⟩, htables⟩ := h
      obtain ⟨_, _, hend⟩ := checkAccess_fits hreason
      obtain ⟨hlen, hwrite, _⟩ := hstaged.1 i
      rw [stageReadEffect_accepted]
      refine ⟨hstaged.putStaged i ⟨hlen, hwrite, hend⟩, ⟨hidle, fun x hx => ?_⟩, htables⟩
      rw [stagedSafety_congr (s := s) fun j _ => by rw [stagedTable_putStaged]; split_ifs with hj <;> simp [hj]]
      exact hcheck x hx

theorem ConfigSound.stageWords (h : ConfigSound s) {i : TableId} {start : Nat} {ws : List Word}
    (hend : start + ws.length ≤ tableSize i) (hidle : i = .loop ∨ s.config.pendingSet = none) :
    ConfigSound (stageWords i start ws s) := by
  obtain ⟨hstaged, ⟨hact, hcheck⟩, htables⟩ := h
  obtain ⟨hlen, _, hread⟩ := hstaged.1 i
  have hplaced : (placeWords (s.stagedTable i).words start ws).length = tableSize i := by
    rw [length_placeWords (by rw [hlen]; exact hend), hlen]
  refine ⟨hstaged.putStaged i ⟨hplaced, hend, hread⟩, ⟨hact, fun x hx => ?_⟩, htables⟩
  rcases hidle with rfl | hnone
  · rw [Machine.stageWords, stagedSafety_congr (s := s) fun j hj => by rw [stagedTable_putStaged, if_neg hj]]
    exact hcheck x hx
  · exact absurd (hnone.symm.trans hx) (by simp)

theorem StagedSound.stageWords (h : StagedSound s) {i : TableId} {start : Nat} {ws : List Word}
    (hend : start + ws.length ≤ tableSize i) : StagedSound (stageWords i start ws s) := by
  obtain ⟨hlen, _, hread⟩ := h.1 i
  refine h.putStaged i ⟨?_, hend, hread⟩
  rw [length_placeWords (by rw [hlen]; exact hend), hlen]

theorem ConfigSound.stageWrite (h : ConfigSound s) (table : Option TableId) (start : Nat) (ws : List Word) :
    ConfigSound (stageWriteEffect table start ws (checkAccess table start ws.length) s) := by
  cases table with
  | none => rw [stageWriteEffect_none]; exact h
  | some i =>
    cases hreason : checkAccess (some i) start ws.length with
    | some x =>
      rw [stageWriteEffect_refused]
      split
      · exact h.cancelActivation
      · exact h
    | none =>
      obtain ⟨_, _, hend⟩ := checkAccess_fits hreason
      rw [stageWriteEffect_accepted]
      split
      · exact ⟨h.1.stageWords hend, ⟨by simp [Machine.cancelActivation], fun x hx => by cases hx⟩, h.2.2⟩
      next hcancel =>
        refine h.stageWords hend ?_
        rw [writeCancels_iff, not_and_or, not_not, not_not] at hcancel
        exact hcancel.imp_right h.2.1.1.mp

theorem ConfigSound.answerStageRead (h : ConfigSound s) (a : Arrival) (payload : List Byte) :
    ConfigSound (answerStageRead a payload s) := by
  unfold Machine.answerStageRead
  split
  · exact h.frame (sendReply_touched _ _ _ _)
  · dsimp only
    refine ConfigSound.frame ?_ (sendReply_touched _ _ _ _)
    split
    · exact (h.stageRead ..).frame (useFree_touched _ _)
    · exact h.stageRead ..

theorem ConfigSound.answerStageWrite (h : ConfigSound s) (a : Arrival) (payload : List Byte) :
    ConfigSound (answerStageWrite a payload s) := by
  unfold Machine.answerStageWrite
  split
  · exact h.frame (sendReply_touched _ _ _ _)
  · dsimp only
    refine ConfigSound.frame ?_ (sendReply_touched _ _ _ _)
    split
    · exact (h.stageWrite ..).frame (useFree_touched _ _)
    · exact h.stageWrite ..

/-! ## ACTIVATE and ACTIVATE_LOOP -/

theorem ConfigSound.answerActivate (h : ConfigSound s) (a : Arrival) (payload : List Byte) :
    ConfigSound (answerActivate a payload s) := by
  unfold Machine.answerActivate activateEffect
  split
  · exact h.frame (sendReply_touched _ _ _ _)
  · dsimp only
    refine ConfigSound.frame ?_ (sendReply_touched _ _ _ _)
    split
    · exact h.cancelActivation
    next hreason =>
      refine ⟨h.1, ⟨by simp, fun x hx => ?_⟩, h.2.2⟩
      obtain rfl : (wordAt payload 0, wordAt payload 2) = x := Option.some.inj hx
      exact hreason

theorem ConfigSound.answerActivateLoop (h : ConfigSound s) (a : Arrival) (payload : List Byte) :
    ConfigSound (answerActivateLoop a payload s) := by
  unfold Machine.answerActivateLoop activateLoopEffect
  split
  · exact h.frame (sendReply_touched _ _ _ _)
  · dsimp only
    refine ConfigSound.frame ?_ (sendReply_touched _ _ _ _)
    split
    · exact h
    next hreason =>
      obtain ⟨hstaged, _, _, _, hempty, hcheck⟩ := h
      obtain ⟨hrange, hwindow, hfree⟩ := checkLoop_eq_none hreason
      refine ⟨⟨hstaged.1, (hstaged.1 .loop).1⟩, ⟨⟨fun _ => rfl, fun _ => rfl⟩, fun x hx => by cases hx⟩, hrange, hwindow,
        hempty, fun hyes => ?_⟩
      exact checkTables_eq_none.mpr ((checkTables_eq_none.mp (hcheck hyes)).readdressed hfree)

/-! ## Every step -/

/-- The words of a loop table that its checks read: the flags of the windows, timings, priorities, signaller port. -/
def checkedWords : List Nat := [0, 4, 8, 12, 16, 20, 24, 28, 33, 34, 35, 36]

theorem loopChecks_congr {x y : List Word} (h : ∀ i ∈ checkedWords, wordIn x i = wordIn y i) :
    loopInRange x = loopInRange y
      ∧ (windowsOf x).any windowTakesConfig = (windowsOf y).any windowTakesConfig := by
  have hflags : ∀ w < 8, wordIn x (4 * w) = wordIn y (4 * w) := fun w hw => h _ (by
    interval_cases w <;> simp [checkedWords])
  have hfields : ∀ w < 8, (windowOf x w).enabled = (windowOf y w).enabled ∧ (windowOf x w).action = (windowOf y w).action
      ∧ (windowOf x w).role = (windowOf y w).role := fun w hw => by
    simp only [windowOf, bitsIn, hflags w hw, and_self]
  have hwindows : ∀ p : Window → Bool, (∀ w < 8, p (windowOf x w) = p (windowOf y w)) →
      (windowsOf x).any p = (windowsOf y).any p := by
    intro p hp
    rw [Bool.eq_iff_iff]
    simp only [windowsOf, List.any_map, List.any_eq_true, List.mem_range, Function.comp_apply]
    exact exists_congr fun w => and_congr_right fun hw => by rw [hp w hw]
  have hpriorities : basePriorityOf x = basePriorityOf y := by
    funext c
    cases c <;> simp only [basePriorityOf, bitsIn, h 35 (by simp [checkedWords])]
  constructor
  · simp only [loopInRange, tSilenceOf, tAgeOf, numIn, h 33 (by simp [checkedWords]), h 34 (by simp [checkedWords]),
      h 36 (by simp [checkedWords]), hpriorities]
    rw [hwindows windowInvalid fun w hw => by
      obtain ⟨he, ha, hr⟩ := hfields w hw
      simp only [windowInvalid, he, ha, hr]]
  · exact hwindows _ fun w hw => by
      obtain ⟨he, ha, hr⟩ := hfields w hw
      simp only [windowTakesConfig, he, ha, hr]

/-- The loop table of a hardware reset is sound whatever the straps say (R179). -/
theorem strapLoopTable_sound (strap : BitVec 12) : loopInRange (strapLoopTable strap) = true
    ∧ (windowsOf (strapLoopTable strap)).any windowTakesConfig = true := by
  have hsame : ∀ i ∈ checkedWords, wordIn (strapLoopTable strap) i = wordIn (strapLoopTable 0) i := by
    intro i hi
    fin_cases hi <;> rfl
  obtain ⟨hrange, hwindow⟩ := loopChecks_congr hsame
  rw [hrange, hwindow]
  decide

theorem hardwareReset_configSound (strap : BitVec 12) (s : State) : ConfigSound (hardwareReset strap s) := by
  obtain ⟨hrange, hwindow⟩ := strapLoopTable_sound strap
  refine ⟨⟨fun i => ?_, rfl⟩, ⟨by simp [hardwareReset, configReset], fun x hx => by cases hx⟩, hrange, hwindow,
    fun _ => ⟨rfl, rfl⟩, fun hyes => by cases hyes⟩
  cases i <;> exact ⟨List.length_replicate, Nat.zero_le _, Nat.zero_le _⟩

/-- Every block but the window unit and the configuration unit. -/
abbrev offConfigBlocks : List Block :=
  [.portA, .portB, .axle, .tracker, .seq, .lamp, .barrier, .cmd, .fault, .freeCounter, .links,
   .queue .command, .queue .status, .queue .reply, .queue .forward, .statusPeriod]

/-- A predicate that every change off the configuration unit and the window unit keeps: what is left to show. -/
theorem stepRule_of_offConfig (may : Port → Byte → Prop) {I : State → Prop}
    (frame : ∀ {u v : State}, Touches offConfigBlocks u v → I u → I v)
    (activated : ∀ u, I u → I (activateIfQuiescent u))
    (joined : ∀ src u, src ∉ u.window.strangers → I u →
      I (u.setWindow { u.window with strangers := joinStrangers u.window.strangers src }))
    (forgotten : ∀ u, I u → I (u.setWindow { u.window with strangers := [] }))
    (confirm : ∀ a payload u, I u → I (answerConfirm a payload u))
    (restart : ∀ a payload u, I u → I (answerRestart a payload u))
    (stageWrite : ∀ a payload u, I u → I (answerStageWrite a payload u))
    (stageRead : ∀ a payload u, I u → I (answerStageRead a payload u))
    (activate : ∀ a payload u, I u → I (answerActivate a payload u))
    (activateLoop : ∀ a payload u, I u → I (answerActivateLoop a payload u)) : StepRule may I I I I I :=
  { kept := fun _ h => h
    finished := fun _ _ u _ h => frame (finish_touches _ _ (by decide) (.refl _ u)) h
    proofed := fun _ _ u _ h => frame (finishProof_touches _ _ (by decide) (.refl _ u)) h
    settled := fun _ _ u _ h => frame (finishProof_touches _ _ (by decide) (.refl _ _)) (activated u h)
    heard := fun p _ u _ h => frame (portHeard_touches p (by decide) (.refl _ u)) h
    passed := fun p tel u h => frame (passCopy_touches p tel (by decide) (.refl _ u)) h
    mismatched := fun p src u h => frame (noticeRoleMismatch_touches p src (by decide) (.refl _ u)) h
    stranger := fun p src u h hnew => frame (noticeStranger_touches p src (by decide) (.refl _ _)) (joined src u hnew h)
    wheel := fun d payload u h => frame (wheelReport_touches d payload (by decide) (.refl _ u)) h
    heartbeat := fun d payload u h => frame (heartbeatReport_touches d payload (by decide) (.refl _ u)) h
    lampReport := fun j m chs u h => frame (takeLampReport_touches j m chs (by decide) (.refl _ u)) h
    barrierReport := fun j m pos echo u h => frame (tellEndedProofs_touches u (by decide)
      (takeBarrierReport_touches j m pos echo (by decide) (.refl _ u))) h
    presenceReport := fun j m v u h => frame (takePresenceReport_touches j m v (by decide) (.refl _ u)) h
    acknowledge := fun a payload u _ _ h => by
      unfold answerAcknowledge
      split
      · exact frame (sendReply_touches _ _ _ (by decide) (.refl _ u)) h
      · refine frame (sendReply_touches _ _ _ (by decide) (.refl _ _)) ?_
        unfold acknowledgeFlags forgetStrangers
        dsimp only
        split
        · exact forgotten _ (frame (setFlags_touches _ _ (by decide) (.refl _ u)) h)
        · exact frame (setFlags_touches _ _ (by decide) (.refl _ u)) h
    restore := fun a payload u _ h => frame (answerRestore_touches a payload (by decide) (.refl _ u)) h
    confirm := fun a payload u _ h => confirm a payload u h
    restart := fun a payload u _ _ h => restart a payload u h
    historyRead := fun a payload u _ h => frame (answerHistoryRead_touches a payload (by decide) (.refl _ u)) h
    identify := fun a payload u _ h => frame (answerIdentify_touches a payload (by decide) (.refl _ u)) h
    stageWrite := fun a payload u _ h => stageWrite a payload u h
    stageRead := fun a payload u _ h => stageRead a payload u h
    activate := fun a payload u _ h => activate a payload u h
    activateLoop := fun a payload u _ h => activateLoop a payload u h
    detectorSilence := fun d r u h _ _ => frame (detectorSilent_touches d r (by decide) (.refl _ u)) h
    entryGap := fun i r u h _ _ => frame (closeEntry_touches i (by decide) (.refl _ u)) h
    scheduledStart := fun i r u h _ _ => frame (startReached_touches i (by decide) (.refl _ u)) h
    amber := fun u h _ => frame (enterRedFlash_touches (by decide) (.refl _ u)) h
    red := fun u h _ => frame (leaveRedFlash_touches (by decide) (.refl _ u)) h
    exitDelay := fun u h _ => frame (startExitLowering_touches (by decide) (.refl _ u)) h
    longClosure := fun u h _ => frame (longClosureReached_touches (by decide) (.refl _ u)) h
    lampSilence := fun j u h => frame (lampModuleSilence_touches j (by decide) (.refl _ u)) h
    proving := fun b r u h _ _ =>
      frame (tellEndedProofs_touches u (by decide) (expireProof_touches b (by decide) (.refl _ u))) h
    barrierSilence := fun j u h =>
      frame (tellEndedProofs_touches u (by decide) (barrierModuleSilence_touches j (by decide) (.refl _ u))) h
    presenceSilence := fun j u h => frame (presenceModuleSilence_touches j (by decide) (.refl _ u)) h
    exitWait := fun b r u h _ _ => frame (expireExitWait_touches b (by decide) (.refl _ u)) h
    statusPeriod := fun u h => frame (nextStatusPeriod_touches (by decide) (.refl _ u)) h
    activation := fun _ h => h
    portSilence := fun p u h => frame (portGoesDown_touches p (by decide) (.refl _ u)) h
    idle := fun p u h => frame (idleReached_touches p (by decide) (.refl _ u)) h
    transmission := fun p u h _ => frame (transmissionDone_touches p (by decide) (.refl _ u)) h
    refresh := fun u h => frame (refreshBlock_touches (by decide) (.refl _ u)) h }

theorem stepRule_configSound (may : Port → Byte → Prop) :
    StepRule may ConfigSound ConfigSound ConfigSound ConfigSound ConfigSound :=
  stepRule_of_offConfig may (fun hT h => h.frame hT) (fun _ h => h.activateIfQuiescent)
    (fun _ _ _ h => h.of_same rfl rfl) (fun _ h => h.of_same rfl rfl)
    (fun a payload _ h => h.answerConfirm a payload)
    (fun a payload _ h => h.answerRestart a payload) (fun a payload _ h => h.answerStageWrite a payload)
    (fun a payload _ h => h.answerStageRead a payload) (fun a payload _ h => h.answerActivate a payload)
    (fun a payload _ h => h.answerActivateLoop a payload)

theorem configSound_step (h : ConfigSound s) (ht : step s = .next t) : ConfigSound t :=
  (stepRule_configSound _).step (fun strap u _ => hardwareReset_configSound strap u)
    (fun _ _ hu => hu.of_same rfl rfl) (fun _ hu => hu.of_same rfl rfl) h ht

end

end Sys2Proof.Machine
end

section
/-! PROOFS. Activation and restarts (sections 9.4 and 9.5): the blocks formed anew, and the sequence from there. -/

namespace Sys2Proof.Machine

/-! ## Every class owned ended -/

section
variable {s t : State}

theorem endFaults_isActive (cs : List FaultClass) (c : FaultClass) (s : State) :
    (endFaults cs s).fault.isActive c = (s.fault.isActive c && !cs.contains c) := by
  induction cs generalizing s with
  | nil => simp [endFaults]
  | cons x rest ih =>
    rw [endFaults, ih, endFault_isActive, List.contains_cons, Bool.and_assoc, ← Bool.not_or]
    congr 3
    exact Bool.eq_iff_iff.mpr (by rw [decide_eq_true_eq, beq_iff_eq]; exact eq_comm)

/-- An end of classes leaves latched flags, history and status period alone (R135). -/
theorem endFaults_fault (cs : List FaultClass) (s : State) :
    (endFaults cs s).fault.latched = s.fault.latched ∧ (endFaults cs s).fault.history = s.fault.history
      ∧ (endFaults cs s).fault.nextRecord = s.fault.nextRecord
      ∧ (endFaults cs s).fault.statusExpiry = s.fault.statusExpiry := by
  induction cs generalizing s with
  | nil => exact ⟨rfl, rfl, rfl, rfl⟩
  | cons x rest ih =>
    obtain ⟨h1, h2, h3, h4⟩ := ih (endFault x s)
    have hexpiry : (endFault x s).fault.statusExpiry = s.fault.statusExpiry :=
      (endFault_touches (L := [.fault]) x (by decide) (Touches.refl _ s)) .statusPeriod (by decide)
    exact ⟨h1.trans (endFault_latched x s), h2.trans (endFault_history x s), h3.trans (endFault_nextRecord x s),
      h4.trans hexpiry⟩

/-! ## The blocks reinitialised -/

theorem reinitialise_blocks (st : SeqState) (l : List TrackSection) (s : State) :
    (reinitialise st l s).config = s.config ∧ (reinitialise st l s).now = s.now
      ∧ (reinitialise st l s).tracker = { s.tracker with records := [], overflow := List.replicate 8 false }
      ∧ (reinitialise st l s).seq = { seqInitSafe with state := st }
      ∧ (reinitialise st l s).lamp = lampInitial s ∧ (reinitialise st l s).barrier = barrierInitial s := by
  have hT := reinitialised_touched (((((discardRecords (s.setAxle { detectors := detectorsInitial s, sections := l })).setSeq
    { seqInitSafe with state := st }).setLamp (lampInitial s)).setBarrier (barrierInitial s)).setFault
      { s.fault with statusExpiry := some (timePlus s.now (tStatusOf s.crTab)) })
  exact ⟨hT.config_eq, hT.now_eq, hT.tracker_eq, hT.seq_eq, hT.lamp_eq, hT.barrier_eq⟩

theorem reinitialise_fault (st : SeqState) (l : List TrackSection) (s : State) :
    (∀ c, (reinitialise st l s).fault.isActive c = (s.fault.isActive c && !ownedClasses.contains c))
      ∧ (reinitialise st l s).fault.latched = s.fault.latched
      ∧ (reinitialise st l s).fault.statusExpiry = some (timePlus s.now (tStatusOf s.crTab)) := by
  obtain ⟨hlatched, -, -, hexpiry⟩ := endFaults_fault ownedClasses
    (((((discardRecords (s.setAxle { detectors := detectorsInitial s, sections := l })).setSeq
      { seqInitSafe with state := st }).setLamp (lampInitial s)).setBarrier (barrierInitial s)).setFault
        { s.fault with statusExpiry := some (timePlus s.now (tStatusOf s.crTab)) })
  exact ⟨fun c => endFaults_isActive ownedClasses c _, hlatched, hexpiry⟩

theorem reinitialiseEmpty_blocks (s : State) :
    (reinitialiseEmpty s).tracker = { s.tracker with records := [], overflow := List.replicate 8 false }
      ∧ (reinitialiseEmpty s).seq = seqInitSafe ∧ (reinitialiseEmpty s).lamp = lampEmpty
      ∧ (reinitialiseEmpty s).barrier = barrierEmpty ∧ (reinitialiseEmpty s).cmd = commandsEmpty := by
  have hT := reinitialised_touched (((((discardRecords (s.setAxle axleEmpty)).setSeq seqInitSafe).setLamp
    lampEmpty).setBarrier barrierEmpty).setFault { s.fault with statusExpiry := none })
  exact ⟨hT.tracker_eq, hT.seq_eq, hT.lamp_eq, hT.barrier_eq, rfl⟩

theorem reinitialiseEmpty_fault (s : State) :
    (∀ c, (reinitialiseEmpty s).fault.isActive c = (s.fault.isActive c && !ownedClasses.contains c))
      ∧ (reinitialiseEmpty s).fault.latched = s.fault.latched ∧ (reinitialiseEmpty s).fault.history = s.fault.history
      ∧ (reinitialiseEmpty s).fault.nextRecord = s.fault.nextRecord
      ∧ (reinitialiseEmpty s).fault.statusExpiry = none := by
  obtain ⟨hlatched, hhistory, hnext, hexpiry⟩ := endFaults_fault ownedClasses
    (((((discardRecords (s.setAxle axleEmpty)).setSeq seqInitSafe).setLamp lampEmpty).setBarrier barrierEmpty).setFault
      { s.fault with statusExpiry := none })
  exact ⟨fun c => endFaults_isActive ownedClasses c _, hlatched, hhistory, hnext, hexpiry⟩

theorem getElem?_map_range {α : Type} (f : Nat → Option α) {n i : Nat} (h : i < n) :
    (((List.range n).map f)[i]?).join = f i := by
  rw [List.getElem?_map, List.getElem?_range h]
  rfl

theorem detectorsInitial_record {d : Nat} (hd : d < 32) (h : t.axle.detectors = detectorsInitial s) :
    t.detectorRecord d = if detectorInUse s.detTab d then
      some ⟨.unknown, none, some (timePlus s.now (detectorOf s.detTab d).silence)⟩ else none := by
  rw [State.detectorRecord, h, detectorsInitial, getElem?_map_range _ hd]

theorem barrierInitial_record {b : Nat} (hb : b < 4) (h : t.barrier.barriers = (barrierInitial s).barriers) :
    t.barrierRecord b = if barrierInUse s.eqTab b then some barrierFresh else none := by
  rw [State.barrierRecord, h, barrierInitial, getElem?_map_range _ hb]

theorem lampInitial_record {l : Nat} (hl : l < 16) (h : t.lamp.lamps = (lampInitial s).lamps) :
    t.lampRecord l = if lampInUse s.eqTab l then some lampFresh else none := by
  rw [State.lampRecord, h, lampInitial, getElem?_map_range _ hl]

/-! ## Demand of detectors not yet heard -/

/-- With no detector OK every configured track gives demand (R46, R75). -/
theorem demand_of_unheard (hcfg : ∃ trk < 4, trackConfigured s.detTab trk = true)
    (hok : ∀ d, s.detectorOk d = false) : s.demand = true := by
  obtain ⟨trk, htrk, htrack⟩ := hcfg
  have hsup : s.supervisionDemand = true := by
    refine List.any_eq_true.mpr ⟨trk * 2, List.mem_range.mpr (by omega), ?_⟩
    have happ : approachTrack (trk * 2) = trk := by simp [approachTrack]
    have hup : approachDirection (trk * 2) = .up := by simp [approachDirection]
    obtain ⟨d, rest, hds⟩ : ∃ d rest, trackDetectors s.detTab trk = d :: rest := by
      cases hds : trackDetectors s.detTab trk with
      | nil => rw [trackConfigured, hds] at htrack; cases htrack
      | cons d rest => exact ⟨d, rest, rfl⟩
    have hpath : (pathOf s.detTab (trk * 2)).any (fun d => !s.detectorOk d) = true := by
      simp [pathOf, happ, hup, hds, hok]
    simp [State.unsupervised, approachConfigured, happ, htrack, hpath]
  rw [State.demand, hsup, Bool.or_true]

theorem detectorsInitial_not_ok (h : t.axle.detectors = detectorsInitial s) (d : Nat) : t.detectorOk d = false := by
  unfold State.detectorOk
  rw [h]
  cases hd : ((detectorsInitial s)[d]?).join with
  | none => rfl
  | some r =>
    obtain ⟨o, ho, rfl⟩ := (by simpa [Option.join_eq_some_iff] using hd : ∃ o, (detectorsInitial s)[d]? = some o ∧ o = some r)
    have hmem := List.mem_of_getElem? ho
    simp only [detectorsInitial, List.mem_map] at hmem
    obtain ⟨x, -, hx⟩ := hmem
    split at hx
    · obtain rfl := Option.some.inj hx
      rfl
    · cases hx

/-! ## Latched flags that a sequence keeps -/

/-- The latched flags are as before for every class but those listed. -/
def SameLatched (l : List FaultClass) (s t : State) : Prop := ∀ c, c ∉ l → t.fault.isLatched c = s.fault.isLatched c

theorem SameLatched.of_eq {l : List FaultClass} (h : t.fault.latched = s.fault.latched) : SameLatched l s t :=
  fun c _ => by rw [FaultUnit.isLatched, h]; rfl

theorem SameLatched.trans {l : List FaultClass} {u : State} (h : SameLatched l s t) (k : SameLatched l t u) :
    SameLatched l s u := fun c hc => (k c hc).trans (h c hc)

theorem SameLatched.of_onlyClasses {l : List FaultClass} (h : OnlyClasses l s t) : SameLatched l s t :=
  fun c hc => (h c hc).2

/-- A command given enters no class: its record is neither in NOT_DOWN nor in NOT_UP (R119, R130). -/
theorem giveCommand_latched (c : BarrierCommand) (b : Nat) (s : State) :
    (giveCommand c b s).fault.latched = s.fault.latched := by
  unfold giveCommand
  split
  · rfl
  next r _ =>
    have hthere : ∀ d limit, recordNotThere d (commandedRecord c limit r) = false := fun d limit => by
      simp [recordNotThere, commandedRecord]
    rw [writeSlot_fault, changeBarrier, enterNotThere, if_neg (by simp [hthere]), endBarrierFaults,
      endFaultUnless_latched, endFaultUnless_latched]
    rfl

theorem giveCommands_latched (c : BarrierCommand) (bs : List Nat) (s : State) :
    (giveCommands c bs s).fault.latched = s.fault.latched := by
  induction bs generalizing s with
  | nil => rfl
  | cons b rest ih => rw [giveCommands, ih, giveCommand_latched]

theorem setOnset_latched (s : State) : (setOnset s).fault.latched = s.fault.latched := by
  rw [setOnset, unproveRedLamps, endLampFaults]
  simp only [endFaultUnless_latched]
  rfl

theorem enterState_sameLatched (st : SeqState) (s : State) : SameLatched [.roadLightsFailed] s (enterState st s) :=
  .of_onlyClasses (enterState_onlyClasses st (by decide) (OnlyClasses.refl _ s))

/-! ## Leaving INIT_SAFE and OPEN with demand -/

theorem checkProlonged_of_running {x : Time} (h : s.seq.longClosure = some x) : checkProlonged s = s := by
  rw [checkProlonged, if_neg (by simp [h])]

/-- CLOSED with a new closure's onset and LOWER given to every barrier, before demand is looked at (R93). -/
def initSafeLeft (s : State) : State :=
  giveCommands .lower (barriersInUse s.eqTab) (enterState .closed (closureBegun s))

theorem initSafeLeft_touched (s : State) : Touches
    [.portA, .portB, .seq, .lamp, .barrier, .cmd, .fault, .queue .command] s (initSafeLeft s) :=
  giveCommands_touches _ _ (by decide) (enterState_touches _ (by decide) ((closureBegun_touched s).mono (by decide)))

theorem initSafeLeft_seq (s : State) : (initSafeLeft s).seq = { s.seq with
    state := .closed, onset := some s.now, longClosure := some (timePlus s.now (tLongClosureOf s.crTab)) } := by
  rw [initSafeLeft, giveCommands_seq, enterState_seq, closureBegun_seq]

theorem leaveInitSafe_eq (s : State) : leaveInitSafe s = actOnDemand (initSafeLeft s) := by
  have heq : (closureBegun s).eqTab = s.eqTab := (closureBegun_touched s).eqTab_eq
  show actOnDemand (giveCommands .lower (barriersInUse (closureBegun s).eqTab) _) = _
  rw [heq]
  rfl

/-- With demand the closure that begins stays (R93). -/
theorem leaveInitSafe_of_demand (h : s.demand = true) : leaveInitSafe s = initSafeLeft s := by
  have hT := initSafeLeft_touched s
  have hdemand : (initSafeLeft s).demand = true := by
    rw [State.demand_congr hT.config_eq hT.axle_eq hT.tracker_eq, h]
  have hclosed : (initSafeLeft s).seq.state = .closed := by rw [initSafeLeft_seq]
  rw [leaveInitSafe_eq, actOnDemand, hclosed]
  dsimp only
  rw [if_pos hdemand, checkProlonged_of_running (congrArg Sequencer.longClosure (initSafeLeft_seq s))]

theorem initSafeLeft_latched (s : State) : SameLatched [.roadLightsFailed] s (initSafeLeft s) := by
  have hbegun : (closureBegun s).fault.latched = s.fault.latched := setOnset_latched s
  exact (SameLatched.of_eq hbegun).trans ((enterState_sameLatched .closed _).trans
    (.of_eq (giveCommands_latched ..)))

theorem initSafeLeft_frame (s : State) : SequenceFrame sequenceClasses (closureBegun s) (initSafeLeft s) :=
  giveCommands_sequenceFrame _ _ (by decide) (enterState_sequenceFrame _ (by decide) (SequenceFrame.refl _ _))

theorem initSafeLeft_barrierRecord (s : State) {b : Nat} (hb : b < 4) : (initSafeLeft s).barrierRecord b
    = (s.barrierRecord b).map fun r => if barrierInUse s.eqTab b then givenNow s .lower (tLowerMaxOf s.crTab) r else r := by
  have hT := closureBegun_touched s
  have hframe : SequenceFrame sequenceClasses (closureBegun s) (enterState .closed (closureBegun s)) :=
    enterState_sequenceFrame _ (by decide) (SequenceFrame.refl _ _)
  have hrec : (enterState .closed (closureBegun s)).barrierRecord = s.barrierRecord :=
    (enterState_barrierRecord ..).trans (State.barrierRecord_congr hT.barrier_eq)
  have hgiven : givenNow (closureBegun s) = givenNow s := by
    funext c ms r
    simp only [givenNow, hT.now_eq]
  rw [initSafeLeft, giveCommands_barrierRecord, hrec, hframe.givenNow_eq, hframe.crTab_eq, hT.crTab_eq, hgiven,
    barriersInUse, map_if_mem_picked hb]
  rfl

theorem setOnset_lampRecord (s : State) (l : Nat) : (setOnset s).lampRecord l
    = (s.lampRecord l).map fun r => if lampRed s.eqTab l then lampUnproved r else r := by
  have hlamp : (setOnset s).lamp = { s.lamp with lamps := mapLamps (fun l => lampRed s.eqTab l) lampUnproved s.lamp.lamps } :=
    (endLampFaults_touches (L := [.fault]) (by decide) (Touches.refl _ _)).lamp_eq
  simp only [State.lampRecord, hlamp, mapLamps, List.getElem?_mapIdx]
  cases s.lamp.lamps[l]? with
  | none => rfl
  | some o => cases o <;> by_cases hred : lampRed s.eqTab l <;> simp [hred]

theorem initSafeLeft_lampRecord (s : State) (l : Nat) : (initSafeLeft s).lampRecord l
    = (s.lampRecord l).map fun r => if lampRed s.eqTab l then lampUnproved r else r := by
  have hT : Touches [.portA, .portB, .seq, .barrier, .cmd, .fault, .queue .command] (closureBegun s) (initSafeLeft s) :=
    giveCommands_touches _ _ (by decide) (enterState_touches _ (by decide) (Touches.refl _ _))
  rw [← setOnset_lampRecord, State.lampRecord, hT.lamp_eq]
  rfl

/-! ## The sequence from the blocks formed anew -/

theorem formSlots_touched (s : State) : Touches [.portA, .portB, .cmd, .queue .command] s (formSlots s) :=
  formSlots_touches (by decide) (Touches.refl _ s)

theorem reinitialise_demand (st : SeqState) (l : List TrackSection)
    (h : ∃ trk < 4, trackConfigured s.detTab trk = true) : (reinitialise st l s).demand = true := by
  obtain ⟨hconfig, -⟩ := reinitialise_blocks st l s
  refine demand_of_unheard ?_ (detectorsInitial_not_ok (congrArg AxleCounter.detectors (reinitialise_axle st l s)))
  rw [State.detTab, hconfig]
  exact h

/-- The blocks formed anew and INIT_SAFE left: what a RESTART KEEP, and an activation taken in INIT_SAFE, do (R93, R95,
R178). -/
def closedAnew (l : List TrackSection) (s : State) : State := formSlots (leaveInitSafe (reinitialise .initSafe l s))

theorem closedAnew_touched (l : List TrackSection) (s : State) : Touches
    [.portA, .portB, .seq, .lamp, .barrier, .cmd, .fault, .queue .command]
    (reinitialise .initSafe l s) (closedAnew l s) :=
  formSlots_touches (by decide) (leaveInitSafe_touches (by decide) (Touches.refl _ _))

section
variable (l : List TrackSection) (hcfg : ∃ trk < 4, trackConfigured s.detTab trk = true)
include hcfg

theorem closedAnew_eq : closedAnew l s = formSlots (initSafeLeft (reinitialise .initSafe l s)) := by
  rw [closedAnew, leaveInitSafe_of_demand (reinitialise_demand .initSafe l hcfg)]

theorem closedAnew_seq : (closedAnew l s).seq = ⟨.closed, some s.now, none, none, none, false,
    some (timePlus s.now (tLongClosureOf s.crTab)), false⟩ := by
  obtain ⟨hconfig, hnow, -, hseq, -⟩ := reinitialise_blocks .initSafe l s
  rw [closedAnew_eq l hcfg, (formSlots_touched _).seq_eq, initSafeLeft_seq, hseq, hnow, State.crTab, hconfig]
  rfl

theorem closedAnew_barrierRecord {b : Nat} (hb : b < 4) : (closedAnew l s).barrierRecord b
    = if barrierInUse s.eqTab b then
        some ⟨.unproved, .lower, true, some (timePlus s.now (tLowerMaxOf s.crTab)), none, none, false, none⟩
      else none := by
  obtain ⟨hconfig, hnow, -, -, -, hbarrier⟩ := reinitialise_blocks .initSafe l s
  have hfresh := barrierInitial_record (s := s) hb (congrArg BarrierSupervisor.barriers hbarrier)
  have heq : (reinitialise .initSafe l s).eqTab = s.eqTab := by rw [State.eqTab, hconfig]; rfl
  have hcr : (reinitialise .initSafe l s).crTab = s.crTab := by rw [State.crTab, hconfig]; rfl
  rw [closedAnew_eq l hcfg, State.barrierRecord_congr (formSlots_touched _).barrier_eq, initSafeLeft_barrierRecord _ hb,
    hfresh, heq, hcr]
  by_cases huse : barrierInUse s.eqTab b = true
  · simp only [huse, if_true, Option.map_some, givenNow, hnow, barrierFresh]
  · simp only [huse, Bool.false_eq_true, if_false, Option.map_none]

theorem closedAnew_presence : (closedAnew l s).barrier.presence = (barrierInitial s).presence := by
  obtain ⟨-, -, -, -, -, hbarrier⟩ := reinitialise_blocks .initSafe l s
  rw [closedAnew_eq l hcfg, (formSlots_touched _).barrier_eq, (initSafeLeft_frame _).presence,
    (closureBegun_touched _).barrier_eq, hbarrier]

theorem closedAnew_lampRecord {i : Nat} (hi : i < 16) : (closedAnew l s).lampRecord i
    = if lampInUse s.eqTab i then some lampFresh else none := by
  obtain ⟨-, -, -, -, hlamp, -⟩ := reinitialise_blocks .initSafe l s
  have hfresh := lampInitial_record (s := s) hi (congrArg LampSupervisor.lamps hlamp)
  rw [closedAnew_eq l hcfg, lampRecord_congr (formSlots_touched _).lamp_eq, initSafeLeft_lampRecord, hfresh]
  by_cases huse : lampInUse s.eqTab i = true
  · rw [if_pos huse, Option.map_some]
    split <;> rfl
  · rw [if_neg huse]
    rfl

theorem closedAnew_latched : SameLatched [.roadLightsFailed] s (closedAnew l s) := by
  obtain ⟨-, hlatched, -⟩ := reinitialise_fault .initSafe l s
  rw [closedAnew_eq l hcfg]
  exact (SameLatched.of_eq hlatched).trans ((initSafeLeft_latched _).trans
    (.of_eq (by rw [(formSlots_touched _).fault_eq])))

end

theorem enterAmber_barrier (s : State) : (enterAmber s).barrier = s.barrier :=
  (enterAmber_touches (L := [.portA, .portB, .seq, .lamp, .cmd, .fault, .queue .command]) (by decide)
    (Touches.refl _ s)).barrier_eq

theorem enterAmber_latched (s : State) : SameLatched [.roadLightsFailed] s (enterAmber s) :=
  (SameLatched.of_eq (setOnset_latched s)).trans ((SameLatched.of_eq (t := (setOnset s).setSeq { (setOnset s).seq with
    amber := some (timePlus (setOnset s).now (tAmberOf (setOnset s).crTab)) }) rfl).trans
      (enterState_sameLatched .amber _))

/-- The blocks formed anew in OPEN, RAISE given to every barrier, and demand acted on: an activation taken in OPEN
(R95, R132). -/
def openedAnew (l : List TrackSection) (s : State) : State :=
  formSlots (actOnDemand (giveCommands .raise (barriersInUse s.eqTab) (reinitialise .opened l s)))

section
variable (l : List TrackSection) (hcfg : ∃ trk < 4, trackConfigured s.detTab trk = true)

theorem raiseGiven_touched : Touches [.portA, .portB, .barrier, .cmd, .fault, .queue .command] (reinitialise .opened l s)
    (giveCommands .raise (barriersInUse s.eqTab) (reinitialise .opened l s)) :=
  giveCommands_touches _ _ (by decide) (Touches.refl _ _)

theorem openedAnew_touched : Touches [.portA, .portB, .tracker, .seq, .lamp, .barrier, .cmd, .fault, .queue .command]
    (reinitialise .opened l s) (openedAnew l s) :=
  formSlots_touches (by decide) (actOnDemand_touches (by decide) ((raiseGiven_touched l).mono (by decide)))

include hcfg

theorem openedAnew_eq : openedAnew l s
    = formSlots (enterAmber (giveCommands .raise (barriersInUse s.eqTab) (reinitialise .opened l s))) := by
  obtain ⟨-, -, -, hseq, -⟩ := reinitialise_blocks .opened l s
  have hT := raiseGiven_touched (s := s) l
  have hopened : (giveCommands .raise (barriersInUse s.eqTab) (reinitialise .opened l s)).seq.state = .opened := by
    rw [hT.seq_eq, hseq]
  rw [openedAnew, actOnDemand, hopened]
  dsimp only
  rw [if_pos (by rw [State.demand_congr hT.config_eq hT.axle_eq hT.tracker_eq, reinitialise_demand .opened l hcfg])]

theorem openedAnew_seq : (openedAnew l s).seq = ⟨.amber, some s.now, some (timePlus s.now (tAmberOf s.crTab)), none,
    none, false, some (timePlus s.now (tLongClosureOf s.crTab)), false⟩ := by
  obtain ⟨hconfig, hnow, -, hseq, -⟩ := reinitialise_blocks .opened l s
  have hT := raiseGiven_touched (s := s) l
  rw [openedAnew_eq l hcfg, (formSlots_touched _).seq_eq, enterAmber_seq, hT.seq_eq, hT.now_eq, hT.crTab_eq, hseq, hnow,
    State.crTab, hconfig]
  rfl

theorem openedAnew_commanded {b : Nat} (hb : b < 4) (huse : barrierInUse s.eqTab b = true) :
    ((openedAnew l s).barrierRecord b).map (·.commanded) = some .raise := by
  obtain ⟨-, -, -, -, -, hbarrier⟩ := reinitialise_blocks .opened l s
  have hfresh := barrierInitial_record (s := s) hb (congrArg BarrierSupervisor.barriers hbarrier)
  have hmem : b ∈ barriersInUse s.eqTab := List.mem_filter.mpr ⟨List.mem_range.mpr hb, huse⟩
  rw [openedAnew_eq l hcfg, State.barrierRecord_congr ((formSlots_touched _).barrier_eq.trans (enterAmber_barrier _)),
    giveCommands_barrierRecord, if_pos hmem, hfresh, if_pos huse]
  rfl

theorem openedAnew_latched : SameLatched [.roadLightsFailed] s (openedAnew l s) := by
  obtain ⟨-, hlatched, -⟩ := reinitialise_fault .opened l s
  rw [openedAnew_eq l hcfg]
  have hgiven : (giveCommands .raise (barriersInUse s.eqTab) (reinitialise .opened l s)).fault.latched = s.fault.latched :=
    (giveCommands_latched ..).trans hlatched
  exact (SameLatched.of_eq hgiven).trans ((enterAmber_latched _).trans (.of_eq (by rw [(formSlots_touched _).fault_eq])))

end

end

end Sys2Proof.Machine
end

section
/-! PROOFS. RESTART (section 9.5) and the activation of a pending set (section 9.4), command by command. -/

namespace Sys2Proof.Machine

/-! ## What a restart that leaves no safety set active leaves -/

section
variable {s t : State}

theorem removeStatus_port (s : State) (p : Port) : (removeStatus s).port p = withoutStatus (s.port p) := by
  cases p <;> rfl

theorem State.port_of_touches {L : List Block} (h : Touches L s t) (p : Port) (hA : .portA ∉ L := by decide)
    (hB : .portB ∉ L := by decide) : t.port p = s.port p := by
  cases p
  · exact h .portA hA
  · exact h .portB hB

theorem stopBlock_port (s : State) (p : Port) : (stopBlock s).port p = { s.port p with command := [] } :=
  (State.port_of_touches (State.setCmd_touches (L := [.cmd]) _ (by decide) (Touches.refl _ (removeBlock s))) p).trans
    (removeBlock_port s p)

theorem reinitialiseEmpty_port (s : State) (p : Port) :
    (reinitialiseEmpty s).port p = { s.port p with command := [] } := by
  have hT : Touches [.axle, .tracker, .seq, .lamp, .barrier, .fault, .statusPeriod] s
      (endFaults ownedClasses (((((discardRecords (s.setAxle axleEmpty)).setSeq seqInitSafe).setLamp
        lampEmpty).setBarrier barrierEmpty).setFault { s.fault with statusExpiry := none })) :=
    endFaults_touches _ (by decide) (State.setFault_touches_all _ (by decide) (by decide)
      (State.setBarrier_touches _ (by decide) (State.setLamp_touches _ (by decide) (State.setSeq_touches _ (by decide)
        (discardRecords_touches (by decide) (State.setAxle_touches _ (by decide) (Touches.refl _ s)))))))
  rw [← State.port_of_touches hT p]
  exact stopBlock_port _ p

theorem restartEmptied_port (code : Nat) (s : State) (p : Port) : (restartEmptied code s).port p
    = { s.port p with command := [], status := (s.port p).status.filter fun e => !entryIsStatus e } := by
  have hnotice : Touches [.fault, .config] s (emptySafety (raiseNotice 33 code s)) :=
    State.setConfig_touches _ (by decide) (raiseNotice_touches _ _ (by decide) (Touches.refl _ s))
  have hgroups := evaluateGroups_touches (L := [.fault]) (by decide)
    (Touches.refl _ (reinitialiseEmpty (emptySafety (raiseNotice 33 code s))))
  rw [restartEmptied, removeStatus_port, State.port_of_touches hgroups p, reinitialiseEmpty_port,
    State.port_of_touches hnotice p]
  rfl

theorem restartEmptied_blocks (code : Nat) (s : State) :
    (restartEmptied code s).tracker = { s.tracker with records := [], overflow := List.replicate 8 false }
      ∧ (restartEmptied code s).seq = seqInitSafe ∧ (restartEmptied code s).lamp = lampEmpty
      ∧ (restartEmptied code s).barrier = barrierEmpty ∧ (restartEmptied code s).cmd = commandsEmpty :=
  reinitialiseEmpty_blocks (emptySafety (raiseNotice 33 code s))

theorem restartEmptied_flags (code : Nat) (s : State) :
    (∀ c, (restartEmptied code s).fault.isActive c = (s.fault.isActive c && !ownedClasses.contains c))
      ∧ (restartEmptied code s).fault.latched = s.fault.latched ||| FaultClass.notice.bit
      ∧ (restartEmptied code s).fault.groups = 0 ∧ (restartEmptied code s).fault.statusExpiry = none := by
  obtain ⟨hactive, hlatched, -, -, hexpiry⟩ := reinitialiseEmpty_fault (emptySafety (raiseNotice 33 code s))
  refine ⟨hactive, hlatched, ?_, hexpiry⟩
  have hsafety : (reinitialiseEmpty (emptySafety (raiseNotice 33 code s))).safetyActive = false := by
    rw [State.safetyActive, (reinitialiseEmpty_touches (L := [.portA, .portB, .axle, .tracker, .seq, .lamp, .barrier,
      .cmd, .fault, .queue .command, .statusPeriod]) (by decide) (Touches.refl _ _)).config_eq]
    rfl
  show groupsOf (reinitialiseEmpty _).safetyActive _ _ _ = 0
  rw [hsafety]
  rfl

theorem restartEmptied_recorded (code : Byte) (s : State) :
    RecordAppended .notice 33 (BitVec.ofNat 16 code.toNat) s (restartEmptied code.toNat s).fault := by
  obtain ⟨-, -, hhistory, hnext, -⟩ := reinitialiseEmpty_fault (emptySafety (raiseNotice 33 code.toNat s))
  refine ⟨hnext, hhistory.trans ?_⟩
  show pushHistory _ _ = _
  rw [pushHistory_eq]
  rfl

/-! ## A RESTART taken -/

/-- What the end of a request leaves of the state its reply was formed in, but for its reply. -/
structure Answered (u t : State) : Prop where
  touches : Touches (.barrier :: answerBlocks) u t
  barrier : t.barrier = { u.barrier with proved := u.crossingProof }

/-- A RESTART taken: its reply is sent from what its effect leaves. -/
theorem restart_taken {a : Arrival} {mode : Byte} (hreq : Requested .restart s a) :
    let u := restartEffect (restartModeOfCode mode.toNat) (hearLink a.port s)
    let payload := [mode] ++ verdict (if (restartModeOfCode mode.toNat).isSome then none else some .badMode)
      ++ bytes2 u.config.activeIdentity ++ [BitVec.ofNat 8 (activationCode u.config.activation)]
    ∃ copy due, receiveRequest .restart a [mode] s
      = withCopy a.port copy (finishProof (hearLink a.port s) due (sendReply a 0x63 payload u)) := by
  obtain ⟨copy, hcopy⟩ := receiveRequest_taken .restart [mode] hreq (by simp)
  exact ⟨copy, restartDue [mode] (hearLink a.port s), hcopy⟩

theorem Answered.of_finishProof {a : Arrival} {kind : Byte} {payload : List Byte} {u : State} (copy : Option Telegram)
    (due : Bool) (before : State) :
    Answered u (withCopy a.port copy (finishProof before due (sendReply a kind payload u))) := by
  have hsent := sendReply_touched a kind payload u
  have hend := (Ended.of_finishProof before due (sendReply a kind payload u)).withCopy a.port copy
  refine ⟨(hsent.mono (by decide)).trans (hend.copied.mono (by decide)), ?_⟩
  rw [hend.barrier, hsent.barrier_eq, crossingProof_congr (congrArg _ hsent.config_eq) hsent.lamp_eq hsent.barrier_eq
    hsent.seq_eq]

theorem Answered.same (h : Answered s t) : t.config = s.config ∧ t.window = s.window ∧ t.axle = s.axle
    ∧ t.tracker = s.tracker ∧ t.seq = s.seq ∧ t.lamp = s.lamp ∧ t.cmd = s.cmd ∧ t.fault = s.fault :=
  ⟨h.touches.config_eq, h.touches.window_eq, h.touches.axle_eq, h.touches.tracker_eq, h.touches.seq_eq,
    h.touches.lamp_eq, h.touches.cmd_eq, h.touches.fault_eq⟩

/-- The blocks a RESTART changes before its reply. -/
abbrev restartBlocks : List Block := [.portA, .portB, .axle, .tracker, .seq, .lamp, .barrier, .cmd, .fault, .config,
  .queue .command, .queue .status, .statusPeriod]

theorem restartEmptied_touched (code : Nat) (s : State) : Touches restartBlocks s (restartEmptied code s) :=
  restartEmptied_touches code (by decide) (Touches.refl _ s)

/-- With no safety set active no status telegram is due (R145). -/
theorem finishProof_of_inactive {before : State} {due : Bool} (h : s.safetyActive = false) :
    finishProof before due s = evaluateProof s := by
  have hdue : statusDue (evaluateProof s) = evaluateProof s := by
    rw [statusDue]
    exact if_pos (.inl h)
  rw [finishProof, finish, hdue]
  exact ite_self _

/-- With INIT_SAFE and nothing of the crossing held CROSSING_PROVED is not asserted (R129). -/
theorem Answered.barrierEmpty (h : Answered s t) (hb : s.barrier = barrierEmpty) (hseq : s.seq = seqInitSafe) :
    t.barrier = Machine.barrierEmpty := by
  rw [h.barrier, crossingProof_of_not_closed (by rw [hseq]; decide), hb]
  rfl

/-- The blocks at the end of a RESTART that leaves no safety set active. -/
structure EmptiedBy (p : Port) (code : Nat) (s t : State) : Prop where
  window : t.window = s.window
  axle : t.axle = axleEmpty
  tracker : t.tracker = { s.tracker with records := [], overflow := List.replicate 8 false }
  seq : t.seq = seqInitSafe
  lamp : t.lamp = lampEmpty
  barrier : t.barrier = Machine.barrierEmpty
  cmd : t.cmd = commandsEmpty
  fault : t.fault = (restartEmptied code (hearLink p s)).fault

theorem EmptiedBy.of_answered {p : Port} {code : Nat} {u : State}
    (hu : Touches [.config] (restartEmptied code (hearLink p s)) u) (h : Answered u t) : EmptiedBy p code s t := by
  obtain ⟨htracker, hseq, hlamp, hbarrier, hcmd⟩ := restartEmptied_blocks code (hearLink p s)
  obtain ⟨-, hwin, haxle, htr, hsq, hlmp, hcm, hflt⟩ := h.same
  exact {
    window := by rw [hwin, hu.window_eq, (restartEmptied_touched code _).window_eq, hearLink_window]
    axle := by rw [haxle, hu.axle_eq, restartEmptied_axle]
    tracker := by rw [htr, hu.tracker_eq, htracker, hearLink_tracker]
    seq := by rw [hsq, hu.seq_eq, hseq]
    lamp := by rw [hlmp, hu.lamp_eq, hlamp]
    barrier := h.barrierEmpty (by rw [hu.barrier_eq, hbarrier]) (by rw [hu.seq_eq, hseq])
    cmd := by rw [hcm, hu.cmd_eq, hcmd]
    fault := by rw [hflt, hu.fault_eq] }

/-- The fault unit at that end (R153). -/
theorem EmptiedBy.flags {p : Port} {code : Nat} (h : EmptiedBy p code s t) :
    (∀ c, t.fault.isActive c = (s.fault.isActive c && !ownedClasses.contains c))
      ∧ t.fault.latched = s.fault.latched ||| FaultClass.notice.bit ∧ t.fault.groups = 0
      ∧ t.fault.statusExpiry = none := by
  have hflags := restartEmptied_flags code (hearLink p s)
  rw [hearLink_fault] at hflags
  rw [h.fault]
  exact hflags

theorem EmptiedBy.recorded {p : Port} {code : Byte} (h : EmptiedBy p code.toNat s t) :
    RecordAppended .notice 33 (BitVec.ofNat 16 code.toNat) s t.fault := by
  have hrecord := restartEmptied_recorded code (hearLink p s)
  rw [RecordAppended, hearLink_fault, hearLink_now] at hrecord
  rw [h.fault]
  exact hrecord

/-- The end of a request with no safety set active: no status telegram joins a queue. -/
theorem finishProof_inactive_touched {a : Arrival} {kind : Byte} {payload : List Byte} (copy : Option Telegram)
    (due : Bool) (before : State) (hinactive : s.safetyActive = false) :
    Touches [.portA, .portB, .barrier, .queue .reply, .queue .forward] s
      (withCopy a.port copy (finishProof before due (sendReply a kind payload s))) := by
  have hsent := sendReply_touched a kind payload s
  have hstill : (sendReply a kind payload s).safetyActive = false := by
    rw [State.safetyActive, hsent.config_eq]
    exact hinactive
  rw [finishProof_of_inactive hstill]
  exact withCopy_touches _ _ (by decide) (evaluateProof_touches (by decide) (hsent.mono (by decide)))

theorem Touches.queue_kept {L : List Block} {c : QueueClass} (h : Touches L s t) (p : Port)
    (hc : .queue c ∉ L := by decide) : SameQueue c (s.port p) (t.port p) := by
  have hq := h (.queue c) hc
  cases p
  · exact hq.1
  · exact hq.2

/-! ## RESTART DISCARD -/

/-- Settles O44: the blocks emptied, block by block; with no safety set active nothing but the reply joins a queue. -/
theorem restartDiscard : Obligations.RestartDiscard := by
  intro a s hreq
  obtain ⟨copy, due, htaken⟩ := restart_taken (mode := 2) hreq
  let h := hearLink a.port s
  let e := restartEmptied 1 h
  let u := cancelActivation e
  have hu : Touches restartBlocks h u := cancelActivation_touches (by decide) (restartEmptied_touched 1 h)
  have heu : Touches [.config] e u := cancelActivation_touches (by decide) (Touches.refl _ e)
  have hconfig : u.config = { s.config with tables := safetyEmpty, activeIdentity := 0, activeCrc := 0,
                                            activation := .idle, pendingSet := none } := by
    show ({ e.config with activation := .idle, pendingSet := none } : ConfigUnit) = _
    rw [restartEmptied_config, hearLink_config]
  have hinactive : u.safetyActive = false := by rw [State.safetyActive, hconfig]; rfl
  have hpayload : [2] ++ verdict none ++ bytes2 u.config.activeIdentity
      ++ [BitVec.ofNat 8 (activationCode u.config.activation)] = [2, 0, 0, 0, 0, 0] := by
    have hid : u.config.activeIdentity = 0 := congrArg ConfigUnit.activeIdentity hconfig
    have hact : u.config.activation = .idle := rfl
    rw [hid, hact]
    decide
  let t := withCopy a.port copy (finishProof h due (sendReply a 0x63 [2, 0, 0, 0, 0, 0] u))
  have hexec : exec (.restartDiscard a) s = .next t := by
    show _ = Host.Outcome.next (withCopy _ _ (finishProof _ _ (sendReply _ _ [2, 0, 0, 0, 0, 0] _)))
    rw [← hpayload]
    exact congrArg Host.Outcome.next htaken
  obtain ⟨hreplied, hend⟩ := finishedProof_reply (kind := 0x63) (payload := [2, 0, 0, 0, 0, 0]) copy due hu (by decide)
    (by decide)
  have hans : Answered u t := .of_finishProof copy due h
  have hquiet := finishProof_inactive_touched (a := a) (kind := 0x63) (payload := [2, 0, 0, 0, 0, 0]) copy due h hinactive
  have hemptied : EmptiedBy a.port 1 s t := .of_answered heu hans
  obtain ⟨hactive, hlatched, hgroups, hexpiry⟩ := hemptied.flags
  have hrecord : RecordAppended .notice 33 1 s t.fault := EmptiedBy.recorded (code := 1) hemptied
  refine ⟨t, hexec, hans.same.1.trans hconfig, hemptied.window, hemptied.axle, hemptied.tracker, hemptied.seq,
    hemptied.lamp, hemptied.barrier, hemptied.cmd, hlatched, hgroups, hexpiry, fun c hc => ?_, fun c hc => ?_,
    ⟨?_, hrecord.1⟩, hrecord.2, fun p => ?_, ?_, ?_⟩
  · rw [hactive, List.contains_iff_mem.mpr hc, Bool.not_true, Bool.and_false]
  · have hnot : ownedClasses.contains c = false := by simpa using hc
    rw [hactive, hnot, Bool.not_false, Bool.and_true]
  · rw [hrecord.2, List.getLast?_concat]
  · obtain ⟨hbusy, hqueues⟩ := hearLink_sending a.port p s
    have hport : u.port p = { h.port p with
        command := [], status := (h.port p).status.filter fun e => !entryIsStatus e } :=
      (State.port_of_touches heu p).trans (restartEmptied_port 1 h p)
    refine ⟨(hquiet.queue_kept (c := .command) p).2 (by rw [hport]; rfl), fun hsend => ?_⟩
    have hstatus : (h.port p).status = (s.port p).status := hqueues .status
    have hkept := ((hquiet.queue_kept (c := .status) p).1 (by rw [hport]; exact (congrArg Option.isSome hbusy).trans hsend)).1
    rw [hport, hstatus] at hkept
    exact hkept
  · rw [hu.ownAddress_eq, hearLink_ownAddress] at hreplied
    exact hreplied
  · exact (hu.mono (by decide)).trans (hend.mono (by decide))

end

end Sys2Proof.Machine
end

section
/-! PROOFS. RESTART KEEP (section 9.5) and a pending set taking effect (section 9.4). -/

namespace Sys2Proof.Machine

section
variable {s t u : State} {a : Arrival}

theorem Answered.barrierRecord (h : Answered u t) : t.barrierRecord = u.barrierRecord := by
  funext b
  rw [State.barrierRecord, h.barrier]
  rfl

theorem Answered.presence (h : Answered u t) : t.barrier.presence = u.barrier.presence := by rw [h.barrier]

/-! ## What the blocks formed anew keep of the fault unit -/

/-- An event that reinitialises the blocks latches NOTICE, loses no latched flag, and leaves the classes whose owners it
does not reinitialise as they were (R152, R153). -/
structure Reinitialised (s t : State) : Prop where
  latched : SameLatched [.notice, .roadLightsFailed] s t
  kept : ∀ c, s.fault.isLatched c = true → t.fault.isLatched c = true
  notice : t.fault.isLatched .notice = true
  active : ∀ c, c ∉ ownedClasses → t.fault.isActive c = s.fault.isActive c

/-- Latched flags none of which is lost, as sets. -/
theorem latched_subset (h : ∀ c, s.fault.isLatched c = true → t.fault.isLatched c = true) :
    s.fault.latched &&& ~~~t.fault.latched = 0 := by
  refine (and_not_eq_zero_iff _ _).mpr fun i hi hx => ?_
  obtain ⟨c, rfl⟩ : ∃ c : FaultClass, c.number = i := by
    interval_cases i
    exacts [⟨.detectorSilent, rfl⟩, ⟨.detectorHeadFault, rfl⟩, ⟨.wheelLoss, rfl⟩, ⟨.countUnderflow, rfl⟩,
      ⟨.countOverflow, rfl⟩, ⟨.unexpectedWheel, rfl⟩, ⟨.trainTableFull, rfl⟩, ⟨.shortWarning, rfl⟩,
      ⟨.longWarning, rfl⟩, ⟨.overspeed, rfl⟩, ⟨.prolongedClosure, rfl⟩, ⟨.redLampFailed, rfl⟩,
      ⟨.roadLightsFailed, rfl⟩, ⟨.amberLampFailed, rfl⟩, ⟨.lampStuckOn, rfl⟩, ⟨.lampModuleSilent, rfl⟩,
      ⟨.barrierNotDown, rfl⟩, ⟨.barrierNotUp, rfl⟩, ⟨.barrierModuleSilent, rfl⟩, ⟨.crossingObstructed, rfl⟩,
      ⟨.presenceModuleSilent, rfl⟩, ⟨.portDown, rfl⟩, ⟨.commandOverrun, rfl⟩, ⟨.notice, rfl⟩]
  exact h c hx

/-- After a NOTICE, reports of the classes owned that latch none but ROAD_LIGHTS_FAILED. -/
theorem Reinitialised.of_noticed {x y : Nat} (hl : SameLatched [.roadLightsFailed] (raiseNotice x y s) t)
    (hr : Reports ownedClasses (raiseNotice x y s) true t) : Reinitialised s t where
  latched c hc := by
    simp only [List.mem_cons, List.not_mem_nil, or_false, not_or] at hc
    rw [hl c (by simpa using hc.2), raiseNotice_isLatched]
    simp [Ne.symm hc.1]
  kept c hc := hr.latched_mono (by rw [raiseNotice_isLatched, hc, Bool.true_or])
  notice := hr.latched_mono (by simp)
  active c hc := by rw [(hr.onlyClasses c hc).1, raiseNotice_isActive]

theorem Reinitialised.congr {s' t' : State} (h : Reinitialised s t) (hs : s.fault = s'.fault) (ht : t'.fault = t.fault) :
    Reinitialised s' t' where
  latched c hc := by rw [ht, h.latched c hc, hs]
  kept c hc := by rw [ht]; exact h.kept c (by rw [hs]; exact hc)
  notice := by rw [ht]; exact h.notice
  active c hc := by rw [ht, h.active c hc, hs]

theorem closedAnew_reports (l : List TrackSection) (s : State) : Reports ownedClasses s true (closedAnew l s) :=
  formSlots_reports (leaveInitSafe_reports (by decide) (reinitialise_reports _ _ (List.Subset.refl _) (.refl true)))

theorem openedAnew_reports (l : List TrackSection) (s : State) : Reports ownedClasses s true (openedAnew l s) :=
  formSlots_reports (actOnDemand_reports (by decide) (giveCommands_reports _ _ (by decide)
    (reinitialise_reports _ _ (List.Subset.refl _) (.refl true))))

theorem closedAnew_statusExpiry (l : List TrackSection) (s : State) :
    (closedAnew l s).fault.statusExpiry = some (timePlus s.now (tStatusOf s.crTab)) :=
  Eq.trans (closedAnew_touched l s .statusPeriod (by decide)) (reinitialise_fault .initSafe l s).2.2

theorem openedAnew_statusExpiry (l : List TrackSection) (s : State) :
    (openedAnew l s).fault.statusExpiry = some (timePlus s.now (tStatusOf s.crTab)) :=
  Eq.trans (openedAnew_touched l .statusPeriod (by decide)) (reinitialise_fault .opened l s).2.2

/-! ## RESTART KEEP -/

theorem restartKept_eq (s : State) :
    restartKept s = closedAnew (s.axle.sections.map disturbed) (raiseNotice 33 0 s) := rfl

theorem restartKept_reinitialised (hcfg : ∃ trk < 4, trackConfigured s.detTab trk = true) :
    Reinitialised s (restartKept s) :=
  .of_noticed (closedAnew_latched _ hcfg) (closedAnew_reports _ _)

theorem restartKept_touched (s : State) : Touches [.portA, .portB, .axle, .tracker, .seq, .lamp, .barrier, .cmd, .fault,
    .queue .command, .statusPeriod] s (restartKept s) :=
  restartKept_touches (by decide) (Touches.refl _ s)

/-- A RESTART KEEP with a safety set active. -/
theorem restartKeep_kept (hreq : Requested .restart s a) (hactive : s.safetyActive = true) :
    ∃ t, exec (.restartKeep a [1]) s = .next t ∧ Answered (restartKept (hearLink a.port s)) t
      ∧ Replied a s.ownAddress 0x63 ([1, 0, 0] ++ bytes2 s.config.activeIdentity
            ++ [BitVec.ofNat 8 (activationCode s.config.activation)]) s t := by
  obtain ⟨copy, due, htaken⟩ := restart_taken (mode := 1) hreq
  have heffect : restartEffect (restartModeOfCode ((1 : Byte).toNat)) (hearLink a.port s)
      = restartKept (hearLink a.port s) := by
    show restartKeepAccepted _ = _
    rw [restartKeepAccepted, if_pos]
    rw [State.safetyActive, hearLink_config]
    exact hactive
  have hu := restartKept_touched (hearLink a.port s)
  have hconfig : (restartKept (hearLink a.port s)).config = s.config := by rw [restartKept_config, hearLink_config]
  rw [heffect, hconfig] at htaken
  obtain ⟨hreplied, -⟩ := finishedProof_reply (kind := 0x63) (payload := [1, 0, 0] ++ bytes2 s.config.activeIdentity
    ++ [BitVec.ofNat 8 (activationCode s.config.activation)]) copy due hu (by decide) (by decide)
  rw [hu.ownAddress_eq, hearLink_ownAddress] at hreplied
  exact ⟨_, congrArg Host.Outcome.next htaken, .of_finishProof copy due _, hreplied⟩

/-- A RESTART KEEP with no safety set active acts as DISCARD does, the activation record kept (R153, R178). -/
theorem restartKeep_emptied (hreq : Requested .restart s a) (hnone : s.safetyActive = false) :
    ∃ t, exec (.restartKeep a [1]) s = .next t ∧ EmptiedBy a.port 0 s t
      ∧ t.config = { s.config with tables := safetyEmpty, activeIdentity := 0, activeCrc := 0 }
      ∧ Replied a s.ownAddress 0x63 [1, 0, 0, 0, 0, BitVec.ofNat 8 (activationCode s.config.activation)] s t
      ∧ Touches [.portA, .portB, .axle, .tracker, .seq, .lamp, .barrier, .cmd, .fault, .config,
          .queue .command, .queue .status, .queue .reply, .queue .forward, .statusPeriod] (hearLink a.port s) t := by
  obtain ⟨copy, due, htaken⟩ := restart_taken (mode := 1) hreq
  have heffect : restartEffect (restartModeOfCode ((1 : Byte).toNat)) (hearLink a.port s)
      = restartEmptied 0 (hearLink a.port s) := by
    show restartKeepAccepted _ = _
    rw [restartKeepAccepted, if_neg]
    rw [State.safetyActive, hearLink_config]
    exact (Bool.not_eq_true _).mpr hnone
  have hconfig : (restartEmptied 0 (hearLink a.port s)).config
      = { s.config with tables := safetyEmpty, activeIdentity := 0, activeCrc := 0 } := by
    rw [restartEmptied_config, hearLink_config]
  have hu := restartEmptied_touched 0 (hearLink a.port s)
  have hzero : bytes2 (0 : Word) = [0, 0] := by decide
  rw [heffect, hconfig, hzero] at htaken
  obtain ⟨hreplied, hend⟩ := finishedProof_reply (kind := 0x63) (payload := [1, 0, 0, 0, 0,
    BitVec.ofNat 8 (activationCode s.config.activation)]) copy due hu (by decide) (by decide)
  rw [hu.ownAddress_eq, hearLink_ownAddress] at hreplied
  let t := withCopy a.port copy (finishProof (hearLink a.port s) due (sendReply a 0x63
    [1, 0, 0, 0, 0, BitVec.ofNat 8 (activationCode s.config.activation)] (restartEmptied 0 (hearLink a.port s))))
  have hans : Answered (restartEmptied 0 (hearLink a.port s)) t := .of_finishProof copy due (hearLink a.port s)
  exact ⟨t, congrArg Host.Outcome.next htaken, .of_answered (Touches.refl _ _) hans, hans.same.1.trans hconfig, hreplied,
    (hu.mono (by decide)).trans (hend.mono (by decide))⟩

theorem restartModeOfCode_none {mode : Byte} (h1 : mode ≠ 1) (h2 : mode ≠ 2) : restartModeOfCode mode.toNat = none := by
  have hne : ∀ k : Byte, mode ≠ k → mode.toNat ≠ k.toNat := fun k hk hn => hk (BitVec.eq_of_toNat_eq hn)
  have hne1 : mode.toNat ≠ 1 := hne 1 h1
  have hne2 : mode.toNat ≠ 2 := hne 2 h2
  rw [restartModeOfCode, if_neg hne1, if_neg hne2]

/-- A RESTART of another mode is refused (R178). -/
theorem restartKeep_refused {mode : Byte} (hreq : Requested .restart s a) (h1 : mode ≠ 1) (h2 : mode ≠ 2)
    (hp : ProofSound s) : ∃ t, exec (.restartKeep a [mode]) s = .next t
      ∧ Replied a s.ownAddress 0x63 ([mode, 1, 26] ++ bytes2 s.config.activeIdentity
            ++ [BitVec.ofNat 8 (activationCode s.config.activation)]) s t
      ∧ Touches [.portA, .portB, .queue .reply, .queue .forward] (hearLink a.port s) t := by
  obtain ⟨copy, htaken⟩ := receiveRequest_taken .restart [mode] hreq (by simp)
  have hmode := restartModeOfCode_none h1 h2
  have hdue : restartDue [mode] (hearLink a.port s) = false := by
    simp [restartDue, byteAt, hmode]
  have hanswer : answerRestart a [mode] (hearLink a.port s) = sendReply a 0x63 ([mode, 1, 26]
      ++ bytes2 s.config.activeIdentity ++ [BitVec.ofNat 8 (activationCode s.config.activation)]) (hearLink a.port s) := by
    rw [answerRestart, if_neg (by simp)]
    have hbyte : byteAt [mode] 0 = mode := rfl
    simp only [hbyte, hmode, restartEffect, hearLink_config]
    rfl
  have htake : takeRequest .restart a [mode] (hearLink a.port s) = finishProof (hearLink a.port s) false
      (sendReply a 0x63 ([mode, 1, 26] ++ bytes2 s.config.activeIdentity
        ++ [BitVec.ofNat 8 (activationCode s.config.activation)]) (hearLink a.port s)) := by
    show finishProof _ (restartDue _ _) (answerRestart _ _ _) = _
    rw [hdue, hanswer]
  rw [finishProof_sendReply hp.heard] at htake
  obtain ⟨_, hreplied, htouch⟩ := quiet_reply (kind := 0x63) (payload := [mode, 1, 26] ++ bytes2 s.config.activeIdentity
    ++ [BitVec.ofNat 8 (activationCode s.config.activation)]) copy (Touches.refl [] (hearLink a.port s)) (by decide)
    (by decide) rfl
  rw [hearLink_ownAddress] at hreplied
  exact ⟨_, congrArg Host.Outcome.next (htaken.trans (congrArg _ htake)), hreplied, htouch⟩

end

/-- Settles O43: with a safety set active CLOSED is entered with the demand of detectors not heard yet; with none the
blocks are emptied. -/
theorem restartKeep : Obligations.RestartKeep := by
  refine ⟨fun a s hreq hactive hcfg => ?_, fun a s hreq hnone => ?_, fun a mode s hreq h1 h2 hp =>
    restartKeep_refused hreq h1 h2 hp⟩
  · obtain ⟨t, hexec, hans, hreplied⟩ := restartKeep_kept hreq hactive
    let h := hearLink a.port s
    have hcfgh : ∃ trk < 4, trackConfigured h.detTab trk = true := by
      rw [hearLink_detTab]
      exact hcfg
    have hcfg' : ∃ trk < 4, trackConfigured (raiseNotice 33 0 h).detTab trk = true := hcfgh
    let l := h.axle.sections.map disturbed
    have hk : restartKept h = closedAnew l (raiseNotice 33 0 h) := restartKept_eq h
    have hu := restartKept_touched h
    obtain ⟨c1, c2, c3, c4, c5, c6, -, c8⟩ := hans.same
    have hfault : Reinitialised s t := (restartKept_reinitialised hcfgh).congr (hearLink_fault a.port s) c8
    have hnow : (raiseNotice 33 0 h).now = s.now := hearLink_now a.port s
    have hdt : (raiseNotice 33 0 h).detTab = s.detTab := hearLink_detTab a.port s
    have hct : (raiseNotice 33 0 h).crTab = s.crTab := hearLink_crTab a.port s
    have het : (raiseNotice 33 0 h).eqTab = s.eqTab := hearLink_eqTab a.port s
    refine ⟨t, hexec, ?_, ?_, ?_, fun d hd => ?_, ?_, ?_, fun b hb => ?_, ?_, fun i hi => ?_, hfault.notice,
      latched_subset hfault.kept, hfault.latched, hfault.active, ?_, hreplied, ?_⟩
    · rw [c1, restartKept_config, hearLink_config]
    · rw [c2, hu.window_eq, hearLink_window]
    · rw [c3, restartKept_axle, hearLink_axle]
      rfl
    · rw [← hnow, ← hdt]
      exact detectorsInitial_record (s := raiseNotice 33 0 h) hd
        (by rw [c3, restartKept_axle]; rfl)
    · obtain ⟨-, -, htracker, -⟩ := reinitialise_blocks .initSafe l (raiseNotice 33 0 h)
      rw [c4, hk, (closedAnew_touched l _).tracker_eq, htracker]
      exact congrArg (fun x : Tracker => { x with records := [], overflow := List.replicate 8 false })
        (hearLink_tracker a.port s)
    · rw [c5, hk, closedAnew_seq l hcfg', hnow, hct]
    · rw [hans.barrierRecord, hk, closedAnew_barrierRecord l hcfg' hb, hnow, hct, het]
    · rw [hans.presence, hk, closedAnew_presence l hcfg']
      intro m hm
      obtain ⟨x, -, rfl⟩ := List.mem_map.mp hm
      rfl
    · rw [lampRecord_congr c6, hk, closedAnew_lampRecord l hcfg' hi, het]
      rfl
    · rw [c8, hk, closedAnew_statusExpiry, hnow, hct]
    · exact (hu.mono (by decide)).trans (hans.touches.mono (by decide))
  · obtain ⟨t, hexec, hemptied, hconfig, hreplied, htouch⟩ := restartKeep_emptied hreq hnone
    obtain ⟨hactive, hlatched, hgroups, hexpiry⟩ := hemptied.flags
    have hrecord : RecordAppended .notice 33 0 s t.fault := EmptiedBy.recorded (code := 0) hemptied
    exact ⟨t, hexec, hconfig, hemptied.window, hemptied.axle, hemptied.tracker, hemptied.seq, hemptied.lamp,
      hemptied.barrier, hemptied.cmd, hlatched, hgroups, hexpiry, hactive, hrecord.2, hreplied, htouch⟩

end Sys2Proof.Machine
end

section
/-! PROOFS. A pending set taking effect (R176), and that no activation is left waiting in a quiescent part. -/

namespace Sys2Proof.Machine

section
variable {s t u : State} {pid crc : Word}

/-! ## What the checks leave certain of the tables -/

theorem mem_detectorsInUse {dt : List Word} {d : Nat} :
    d ∈ detectorsInUse dt ↔ d < 32 ∧ detectorInUse dt d = true := by
  rw [detectorsInUse, List.mem_filter, List.mem_range]

theorem mem_insertByPosition {dt : List Word} {d x : Nat} {l : List Nat} :
    x ∈ insertByPosition dt d l ↔ x = d ∨ x ∈ l := by
  induction l with
  | nil => simp [insertByPosition]
  | cons y rest ih =>
    unfold insertByPosition
    split
    · simp
    · simp [ih, or_left_comm]

theorem mem_trackDetectors {dt : List Word} {trk d : Nat} :
    d ∈ trackDetectors dt trk ↔ d ∈ detectorsInUse dt ∧ (detectorOf dt d).track = trk := by
  have hfold : ∀ l : List Nat, d ∈ l.foldr (insertByPosition dt) [] ↔ d ∈ l := by
    intro l
    induction l with
    | nil => rfl
    | cons y rest ih => rw [List.foldr_cons, mem_insertByPosition, ih, List.mem_cons]
  rw [trackDetectors, hfold]
  simp

/-- A set that passes every check configures some track (R2). -/
theorem TablesPass.trackConfigured {own : Addr} {x : SafetyTables} (h : TablesPass own x) :
    ∃ trk < 4, trackConfigured x.detector trk = true := by
  have hgeometry := h.detectorGeometry
  simp only [detectorsPlaced, Bool.and_eq_true, Bool.not_eq_true', List.isEmpty_eq_false_iff_exists_mem] at hgeometry
  obtain ⟨⟨⟨d, hd⟩, -⟩, -⟩ := hgeometry
  have hrange := List.all_eq_true.mp h.detectorRange d hd
  simp only [detectorInRange, inRange, Bool.and_eq_true, decide_eq_true_eq] at hrange
  refine ⟨(detectorOf x.detector d).track, by omega, ?_⟩
  have hmem : d ∈ trackDetectors x.detector (detectorOf x.detector d).track := mem_trackDetectors.mpr ⟨hd, rfl⟩
  rw [Machine.trackConfigured]
  simpa using List.ne_nil_of_mem hmem

/-! ## The pending set in effect -/

/-- The state with the pending set active and its NOTICE raised, before the blocks are formed anew (R176). -/
def takenIn (pid crc : Word) (s : State) : State := raiseNotice 32 pid.toNat (tablesCopied pid crc s)

/-- The sections of the set taken in, in the state of the sequencer's (R27). -/
def sectionsAnew (pid crc : Word) (s : State) : List TrackSection :=
  sectionsInitial (takenIn pid crc s).detTab (sectionStateAtActivation s.seq.state)

theorem takeEffect_of_initSafe (h : s.seq.state = .initSafe) :
    takeEffect pid crc s = cancelActivation (closedAnew (sectionsAnew pid crc s) (takenIn pid crc s)) := by
  have hv : takeEffect pid crc s = cancelActivation (formSlots (sequenceAfterActivation
      (reinitialise s.seq.state (sectionsAnew pid crc s) (takenIn pid crc s)))) := rfl
  obtain ⟨-, -, -, hseq, -⟩ := reinitialise_blocks .initSafe (sectionsAnew pid crc s) (takenIn pid crc s)
  rw [hv, h, sequenceAfterActivation, hseq]
  rfl

theorem takeEffect_of_opened (h : s.seq.state = .opened) :
    takeEffect pid crc s = cancelActivation (openedAnew (sectionsAnew pid crc s) (takenIn pid crc s)) := by
  have hv : takeEffect pid crc s = cancelActivation (formSlots (sequenceAfterActivation
      (reinitialise s.seq.state (sectionsAnew pid crc s) (takenIn pid crc s)))) := rfl
  obtain ⟨hconfig, -, -, hseq, -⟩ := reinitialise_blocks .opened (sectionsAnew pid crc s) (takenIn pid crc s)
  have heq : (reinitialise .opened (sectionsAnew pid crc s) (takenIn pid crc s)).eqTab = (takenIn pid crc s).eqTab := by
    rw [State.eqTab, hconfig]
    rfl
  rw [hv, h, sequenceAfterActivation, hseq]
  dsimp only
  rw [heq]
  rfl

/-- A quiescent part is in INIT_SAFE or in OPEN (R176). -/
theorem state_of_quiescent (h : s.quiescent = true) : s.seq.state = .initSafe ∨ s.seq.state = .opened := by
  simp only [State.quiescent, Bool.or_eq_true, Bool.and_eq_true, decide_eq_true_eq] at h
  exact h.imp_right fun h => h.1.1

theorem cancelActivation_touched (s : State) : Touches [.config] s (cancelActivation s) :=
  cancelActivation_touches (by decide) (Touches.refl _ s)

/-- With every lamp UNPROVED no road side has its light proof, and CROSSING_PROVED is not asserted (R111, R129). -/
theorem crossingProof_of_unproved (hlamp : ∀ i < 16, ∀ r, s.lampRecord i = some r → r.state ≠ .proved)
    (hmin : 1 ≤ minRedOf s.crTab 0) : s.crossingProof = false := by
  have hnone : (redLampsOfSide s.eqTab 0).filter s.lampProved = [] := by
    refine List.filter_eq_nil_iff.mpr fun i hi hproved => ?_
    have hlt : i < 16 := by
      simp only [redLampsOfSide, redLamps, lampsInUse, List.mem_filter, List.mem_range] at hi
      exact hi.1.1.1
    unfold State.lampProved at hproved
    split at hproved
    next r hr => exact hlamp i hlt r hr (of_decide_eq_true hproved)
    next => cases hproved
  have hside : s.sideProved 0 = false := by
    rw [State.sideProved, State.provedRed, hnone]
    exact decide_eq_false (by simp only [List.length_nil]; omega)
  rw [State.crossingProof, hside, Bool.and_false, Bool.false_and]

theorem takeEffect_axle_eq (pid crc : Word) (s : State) : (takeEffect pid crc s).axle.sections = sectionsAnew pid crc s :=
  congrArg AxleCounter.sections (takeEffect_axle pid crc s)

theorem takeEffect_tables (pid crc : Word) (s : State) :
    (takeEffect pid crc s).detTab = (takenIn pid crc s).detTab ∧ (takeEffect pid crc s).eqTab = (takenIn pid crc s).eqTab
      ∧ (takeEffect pid crc s).crTab = (takenIn pid crc s).crTab := by
  refine ⟨?_, ?_, ?_⟩
  · rw [State.detTab, takeEffect_config]; rfl
  · rw [State.eqTab, takeEffect_config]; rfl
  · rw [State.crTab, takeEffect_config]; rfl

theorem sectionsAnew_of_quiescent (h : s.seq.state = .initSafe ∨ s.seq.state = .opened) : sectionsAnew pid crc s
    = (allSections (takeEffect pid crc s).detTab).map fun x =>
      ⟨x.1, x.2, 0, if s.seq.state = .initSafe then .disturbed else .clear⟩ := by
  rw [(takeEffect_tables pid crc s).1, sectionsAnew, sectionsInitial]
  rcases h with h | h <;> rw [h] <;> rfl

theorem takeEffect_tracker_of_quiescent (h : s.seq.state = .initSafe ∨ s.seq.state = .opened)
    (hcfg : ∃ trk < 4, trackConfigured (takenIn pid crc s).detTab trk = true) :
    (takeEffect pid crc s).tracker = { s.tracker with records := [], overflow := List.replicate 8 false } := by
  rcases h with h | h
  · obtain ⟨-, -, htracker, -⟩ := reinitialise_blocks .initSafe (sectionsAnew pid crc s) (takenIn pid crc s)
    rw [takeEffect_of_initSafe h, (cancelActivation_touched _).tracker_eq, (closedAnew_touched _ _).tracker_eq, htracker]
    rfl
  · obtain ⟨-, -, htracker, -⟩ := reinitialise_blocks .opened (sectionsAnew pid crc s) (takenIn pid crc s)
    have hamber : ∀ v, (enterAmber v).tracker = v.tracker := fun v =>
      (enterAmber_touches (L := [.portA, .portB, .seq, .lamp, .cmd, .fault, .queue .command]) (by decide)
        (Touches.refl _ v)).tracker_eq
    rw [takeEffect_of_opened h, (cancelActivation_touched _).tracker_eq, openedAnew_eq _ hcfg,
      (formSlots_touched _).tracker_eq, hamber, (raiseGiven_touched _).tracker_eq, htracker]
    rfl

theorem takeEffect_reinitialised (h : s.seq.state = .initSafe ∨ s.seq.state = .opened)
    (hcfg : ∃ trk < 4, trackConfigured (takenIn pid crc s).detTab trk = true) :
    Reinitialised s (takeEffect pid crc s) := by
  have hcopied : (tablesCopied pid crc s).fault = s.fault := rfl
  rcases h with h | h
  · rw [takeEffect_of_initSafe h]
    exact (Reinitialised.of_noticed (closedAnew_latched _ hcfg) (closedAnew_reports _ _)).congr hcopied
      (cancelActivation_touched _).fault_eq
  · rw [takeEffect_of_opened h]
    exact (Reinitialised.of_noticed (openedAnew_latched _ hcfg) (openedAnew_reports _ _)).congr hcopied
      (cancelActivation_touched _).fault_eq

theorem takeEffect_statusExpiry (h : s.seq.state = .initSafe ∨ s.seq.state = .opened) :
    (takeEffect pid crc s).fault.statusExpiry = some (timePlus s.now (tStatusOf (takeEffect pid crc s).crTab)) := by
  rw [(takeEffect_tables pid crc s).2.2]
  rcases h with h | h
  · rw [takeEffect_of_initSafe h, (cancelActivation_touched _).fault_eq, closedAnew_statusExpiry]
    rfl
  · rw [takeEffect_of_opened h, (cancelActivation_touched _).fault_eq, openedAnew_statusExpiry]
    rfl

theorem takeEffect_commanded (h : s.seq.state = .initSafe ∨ s.seq.state = .opened)
    (hcfg : ∃ trk < 4, trackConfigured (takenIn pid crc s).detTab trk = true) {b : Nat} (hb : b < 4)
    (huse : barrierInUse (takeEffect pid crc s).eqTab b = true) :
    ((takeEffect pid crc s).barrierRecord b).map (·.commanded)
      = some (if s.seq.state = .initSafe then .lower else .raise) := by
  rw [(takeEffect_tables pid crc s).2.1] at huse
  rcases h with h | h
  · rw [takeEffect_of_initSafe h, State.barrierRecord_congr (cancelActivation_touched _).barrier_eq,
      closedAnew_barrierRecord _ hcfg hb, if_pos huse, if_pos h]
    rfl
  · rw [takeEffect_of_opened h, State.barrierRecord_congr (cancelActivation_touched _).barrier_eq,
      openedAnew_commanded _ hcfg hb huse, if_neg (by rw [h]; decide)]

theorem takeEffect_seq_of_initSafe (h : s.seq.state = .initSafe)
    (hcfg : ∃ trk < 4, trackConfigured (takenIn pid crc s).detTab trk = true) :
    (takeEffect pid crc s).seq = ⟨.closed, some s.now, none, none, none, false,
      some (timePlus s.now (tLongClosureOf (takeEffect pid crc s).crTab)), false⟩ := by
  rw [(takeEffect_tables pid crc s).2.2, takeEffect_of_initSafe h, (cancelActivation_touched _).seq_eq,
    closedAnew_seq _ hcfg]
  rfl

theorem takeEffect_seq_of_opened (h : s.seq.state = .opened)
    (hcfg : ∃ trk < 4, trackConfigured (takenIn pid crc s).detTab trk = true) :
    (takeEffect pid crc s).seq = ⟨.amber, some s.now, some (timePlus s.now (tAmberOf (takeEffect pid crc s).crTab)), none,
      none, false, some (timePlus s.now (tLongClosureOf (takeEffect pid crc s).crTab)), false⟩ := by
  rw [(takeEffect_tables pid crc s).2.2, takeEffect_of_opened h, (cancelActivation_touched _).seq_eq,
    openedAnew_seq _ hcfg]
  rfl

theorem takeEffect_not_proved (h : s.seq.state = .initSafe ∨ s.seq.state = .opened)
    (hcfg : ∃ trk < 4, trackConfigured (takenIn pid crc s).detTab trk = true)
    (hmin : 1 ≤ minRedOf (takeEffect pid crc s).crTab 0) : (takeEffect pid crc s).crossingProof = false := by
  rcases h with h | h
  · refine crossingProof_of_unproved (fun i hi r hr => ?_) hmin
    rw [takeEffect_of_initSafe h, lampRecord_congr (cancelActivation_touched _).lamp_eq,
      closedAnew_lampRecord _ hcfg hi] at hr
    split at hr
    · obtain rfl := Option.some.inj hr
      decide
    · cases hr
  · exact crossingProof_of_not_closed (by rw [takeEffect_seq_of_opened h hcfg]; simp)

end

/-- Settles O50: with the tables copied the detectors not heard yet give demand, from CLOSED and from OPEN alike. -/
theorem activationTakesEffect : Obligations.ActivationTakesEffect := by
  refine ⟨fun s pid crc hact hpend hq hsound => ?_, fun s hstill hp => ?_⟩
  · have hstate := state_of_quiescent hq
    obtain ⟨-, -, hpass⟩ := checkActivate_eq_none.mp (hsound.2 _ hpend)
    have hcfg : ∃ trk < 4, trackConfigured (takenIn pid crc s).detTab trk = true := hpass.trackConfigured
    have hmin : 1 ≤ minRedOf (takeEffect pid crc s).crTab 0 := by
      rw [(takeEffect_tables pid crc s).2.2]
      have hrange := hpass.crossingRange
      simp only [crossingInRange, inRange, Bool.and_eq_true, decide_eq_true_eq] at hrange
      show 1 ≤ minRedOf s.stagedSafety.crossing 0
      omega
    let t := finishProof s false (takeEffect pid crc s)
    have hend : Ended endBlocks (takeEffect pid crc s) t := .of_finishProof s false _
    have hexec : exec .activationTakesEffect s = .next t := by
      show Host.Outcome.next (finishProof s false (activateIfQuiescent s)) = _
      rw [activateIfQuiescent_of_quiescent hact hpend hq]
    have hconfig : t.config = (takeEffect pid crc s).config := hend.copied.config_eq
    have hdt : t.detTab = (takeEffect pid crc s).detTab := State.detTab_congr hconfig
    have het : t.eqTab = (takeEffect pid crc s).eqTab := by rw [State.eqTab, hconfig]; rfl
    have hct : t.crTab = (takeEffect pid crc s).crTab := by rw [State.crTab, hconfig]; rfl
    have hre : Reinitialised s t := (takeEffect_reinitialised hstate hcfg).congr rfl hend.fault_eq
    refine ⟨t, hexec, hconfig.trans (takeEffect_config ..), ?_, fun d hd => ?_, ?_, fun h => ?_, fun h => ?_,
      fun b hb huse => ?_, ?_, hre.notice, latched_subset hre.kept, hre.latched, hre.active, ?_, ?_⟩
    · rw [hend.axle_eq, takeEffect_axle_eq, sectionsAnew_of_quiescent hstate, hdt]
    · rw [hdt, (takeEffect_tables pid crc s).1]
      exact detectorsInitial_record (s := takenIn pid crc s) hd (by rw [hend.axle_eq, takeEffect_axle]; rfl)
    · rw [hend.tracker_eq, takeEffect_tracker_of_quiescent hstate hcfg]
    · rw [hend.seq_eq, takeEffect_seq_of_initSafe h hcfg, hct]
    · rw [hend.seq_eq, takeEffect_seq_of_opened h hcfg, hct]
    · rw [het] at huse
      rw [hend.barrierRecord_eq, takeEffect_commanded hstate hcfg hb huse]
    · rw [hend.barrier, takeEffect_not_proved hstate hcfg hmin]
    · rw [hend.fault_eq, takeEffect_statusExpiry hstate, hct]
    · exact ((takeEffect_touched pid crc s).mono (by decide)).trans (hend.touches.mono (by decide))
  · have hsame : activateIfQuiescent s = s := by
      rcases hstill with hn | hq
      · unfold activateIfQuiescent
        split
        next hact _ => exact absurd hact hn
        next => rfl
      · exact activateIfQuiescent_of_not_quiescent hq
    show Host.Outcome.next (finishProof s false (activateIfQuiescent s)) = _
    rw [hsame, finishProof_of_sound hp]

end Sys2Proof.Machine
end

section
/-! PROOFS. No activation is left waiting in a quiescent part (R176), and every step keeps the configuration unit. -/

namespace Sys2Proof.Machine

section
variable {s t : State}

theorem ActivationPrompt.of_same (h : ActivationPrompt s)
    (ha : t.config.activation = .awaitQuiescent → s.config.activation = .awaitQuiescent)
    (hseq : t.seq = s.seq) (htracker : t.tracker = s.tracker) (haxle : t.axle = s.axle) : ActivationPrompt t :=
  fun hawait => (quiescent_congr hseq htracker haxle).trans (h (ha hawait))

theorem ActivationPrompt.frame {L : List Block} (h : ActivationPrompt s) (hT : Touches L s t)
    (hC : .config ∉ L := by decide) (hS : .seq ∉ L := by decide) (hR : .tracker ∉ L := by decide)
    (hA : .axle ∉ L := by decide) : ActivationPrompt t :=
  h.of_same (fun ha => by rwa [hT.config_eq hC] at ha) (hT.seq_eq hS) (hT.tracker_eq hR) (hT.axle_eq hA)

/-- Where an activation waits a set is pending (R175). -/
def PendingWhileWaiting (s : State) : Prop := s.config.activation = .awaitQuiescent → s.config.pendingSet ≠ none

theorem ActivationSound.pendingWhileWaiting (h : ActivationSound s) : PendingWhileWaiting s := fun ha hnone => by
  rw [h.1.mpr hnone] at ha
  cases ha

/-- The end of an event that looks for quiescence leaves no activation waiting in a quiescent part (R176). -/
theorem activateIfQuiescent_prompt (h : PendingWhileWaiting s) : ActivationPrompt (activateIfQuiescent s) := by
  unfold activateIfQuiescent
  split
  next identity crc hact _ =>
    split
    · intro hawait
      rw [takeEffect_config] at hawait
      cases hawait
    next hq => exact fun _ => (Bool.not_eq_true _).mp hq
  next hnot =>
    intro hact
    obtain ⟨⟨identity, crc⟩, hpend⟩ := Option.ne_none_iff_exists'.mp (h hact)
    exact absurd hpend (hnot identity crc hact)

/-- An activation that is not waiting any more is prompt. -/
theorem prompt_of_idle (h : t.config.activation ≠ .awaitQuiescent) : ActivationPrompt t := fun ha => absurd ha h

/-- What the statement holds of a state with no activation waiting in a quiescent part. -/
structure PromptSound (s : State) : Prop where
  prompt : ActivationPrompt s
  activation : ActivationSound s
  tables : TablesSound s
  sequencer : SequencerSound s

theorem PromptSound.of_same (h : PromptSound s) (hc : t.config = s.config)
    (hw : t.window.loopTable = s.window.loopTable) (hseq : t.seq = s.seq) (htracker : t.tracker = s.tracker)
    (haxle : t.axle = s.axle) : PromptSound t where
  prompt := h.prompt.of_same (fun ha => by rwa [hc] at ha) hseq htracker haxle
  activation := by
    simpa only [ActivationSound, State.loopTab, State.ownAddress, State.stagedSafety, hc, hw] using h.activation
  tables := by
    simpa only [TablesSound, State.loopTab, State.ownAddress, State.safetyActive, hc, hw] using h.tables
  sequencer := by simpa only [SequencerSound, State.safetyActive, hc, hseq] using h.sequencer

theorem PromptSound.frame {L : List Block} (h : PromptSound s) (hT : Touches L s t) (hC : .config ∉ L := by decide)
    (hW : .window ∉ L := by decide) (hS : .seq ∉ L := by decide) (hR : .tracker ∉ L := by decide)
    (hA : .axle ∉ L := by decide) : PromptSound t :=
  h.of_same (hT.config_eq hC) (by rw [hT.window_eq hW]) (hT.seq_eq hS) (hT.tracker_eq hR) (hT.axle_eq hA)

/-! ## Requests -/

/-- A RESTART KEEP leaves the part in CLOSED, which is not quiescent (R93, R178). -/
theorem restartKept_prompt (h : PromptSound s) (hactive : s.safetyActive = true) : ActivationPrompt (restartKept s) := by
  have hcfg : ∃ trk < 4, trackConfigured (raiseNotice 33 0 s).detTab trk = true :=
    (checkTables_eq_none.mp (h.tables.2.2.2 hactive)).trackConfigured
  intro _
  have hseq : (restartKept s).seq.state = .closed := by rw [restartKept_eq, closedAnew_seq _ hcfg]
  rw [State.quiescent, hseq]
  rfl

/-- With no safety set active the part is in INIT_SAFE, where no activation waits (R176). -/
theorem PromptSound.not_awaiting (h : PromptSound s) (hnone : s.safetyActive = false) :
    s.config.activation ≠ .awaitQuiescent := fun hact => by
  have hinit := h.sequencer.1.mpr hnone
  have hq := h.prompt hact
  rw [State.quiescent, hinit] at hq
  cases hq

theorem PromptSound.answerRestart (h : PromptSound s) (a : Arrival) (payload : List Byte) :
    ActivationPrompt (answerRestart a payload s) := by
  unfold Machine.answerRestart
  split
  · exact h.prompt.frame (sendReply_touched _ _ _ _)
  · refine ActivationPrompt.frame ?_ (sendReply_touched _ _ _ _)
    cases restartModeOfCode (byteAt payload 0).toNat with
    | none => exact h.prompt
    | some m =>
      cases m with
      | discard => exact prompt_of_idle (by show Activation.idle ≠ _; decide)
      | keep =>
        show ActivationPrompt (restartKeepAccepted s)
        unfold restartKeepAccepted
        split
        next hactive => exact restartKept_prompt h hactive
        next hnone =>
          refine prompt_of_idle ?_
          rw [restartEmptied_config]
          exact h.not_awaiting ((Bool.not_eq_true _).mp hnone)

theorem PromptSound.answerConfirm (h : PromptSound s) (a : Arrival) (payload : List Byte) :
    ActivationPrompt (answerConfirm a payload s) := by
  unfold Machine.answerConfirm confirmEffect
  split
  · exact h.prompt.frame (sendReply_touched _ _ _ _)
  · refine ActivationPrompt.frame ?_ (sendReply_touched _ _ _ _)
    split
    · exact h.prompt
    next hreason =>
      refine activateIfQuiescent_prompt fun _ hnone => ?_
      rw [checkConfirm_of_idle (s := s) _ (.inr hnone)] at hreason
      cases hreason

theorem PromptSound.answerStageWrite (h : PromptSound s) (a : Arrival) (payload : List Byte) :
    ActivationPrompt (answerStageWrite a payload s) := by
  have heffect : ∀ table start ws reason, ActivationPrompt (stageWriteEffect table start ws reason s) := by
    intro table start ws reason
    have hT := stageWriteEffect_touches (L := [.config]) table start ws reason (by decide) (Touches.refl _ s)
    refine h.prompt.of_same (fun ha => ?_) hT.seq_eq hT.tracker_eq hT.axle_eq
    cases table with
    | none => rwa [stageWriteEffect_none] at ha
    | some i =>
      rw [stageWriteEffect_config] at ha
      dsimp only at ha
      split at ha
      · cases ha
      · exact ha
  unfold Machine.answerStageWrite
  split
  · exact h.prompt.frame (sendReply_touched _ _ _ _)
  · dsimp only
    refine ActivationPrompt.frame ?_ (sendReply_touched _ _ _ _)
    split
    · exact ActivationPrompt.frame (heffect _ _ _ _) (useFree_touched _ _)
    · exact heffect _ _ _ _

theorem PromptSound.answerStageRead (h : PromptSound s) (a : Arrival) (payload : List Byte) :
    ActivationPrompt (answerStageRead a payload s) := by
  have heffect : ∀ table start n reason, ActivationPrompt (stageReadEffect table start n reason s) := by
    intro table start n reason
    cases table with
    | none => exact h.prompt
    | some i =>
      cases reason with
      | some x => exact h.prompt
      | none => exact h.prompt.of_same (fun ha => ha) rfl rfl rfl
  unfold Machine.answerStageRead
  split
  · exact h.prompt.frame (sendReply_touched _ _ _ _)
  · dsimp only
    refine ActivationPrompt.frame ?_ (sendReply_touched _ _ _ _)
    split
    · exact ActivationPrompt.frame (heffect _ _ _ _) (useFree_touched _ _)
    · exact heffect _ _ _ _

theorem answerActivate_prompt (h : ActivationPrompt s) (a : Arrival) (payload : List Byte) :
    ActivationPrompt (answerActivate a payload s) := by
  unfold answerActivate activateEffect
  split
  · exact h.frame (sendReply_touched _ _ _ _)
  · dsimp only
    refine ActivationPrompt.frame ?_ (sendReply_touched _ _ _ _)
    split <;> exact prompt_of_idle (by simp [cancelActivation])

theorem answerActivateLoop_prompt (h : ActivationPrompt s) (a : Arrival) (payload : List Byte) :
    ActivationPrompt (answerActivateLoop a payload s) := by
  unfold answerActivateLoop activateLoopEffect
  split
  · exact h.frame (sendReply_touched _ _ _ _)
  · dsimp only
    refine ActivationPrompt.frame ?_ (sendReply_touched _ _ _ _)
    split
    · exact h
    · exact prompt_of_idle (by simp [cancelActivation])

/-! ## Every step -/

/-- The blocks that quiescence and the activation record are not read of. -/
abbrev unquietBlocks : List Block :=
  [.portA, .portB, .window, .lamp, .barrier, .cmd, .fault, .freeCounter, .links,
   .queue .command, .queue .status, .queue .reply, .queue .forward, .statusPeriod]

theorem stepRule_prompt (may : Port → Byte → Prop) :
    StepRule may PromptSound ActivationPrompt ActivationPrompt PendingWhileWaiting ActivationPrompt :=
  have frame : ∀ {u v : State}, Touches unquietBlocks u v → ActivationPrompt u → ActivationPrompt v :=
    fun hT hu => hu.frame hT
  have settles : ∀ {u v : State}, Touches offConfigBlocks u v → PromptSound u → PendingWhileWaiting v :=
    fun hT hu => by
      rw [PendingWhileWaiting, hT.config_eq]
      exact hu.activation.pendingWhileWaiting
  { kept := fun _ h => h.prompt
    finished := fun _ _ u _ h => frame (finish_touches _ _ (by decide) (.refl _ u)) h
    proofed := fun _ _ u _ h => frame (finishProof_touches _ _ (by decide) (.refl _ u)) h
    settled := fun _ _ u _ h =>
      frame (finishProof_touches _ _ (by decide) (.refl _ _)) (activateIfQuiescent_prompt h)
    heard := fun p _ u _ h => PromptSound.frame (L := [.portA, .portB, .fault, .links, .queue .status]) h
      (portHeard_touches p (by decide) (.refl _ u))
    passed := fun p tel u h => frame (passCopy_touches p tel (by decide) (.refl _ u)) h
    mismatched := fun p src u h => frame (noticeRoleMismatch_touches p src (by decide) (.refl _ u)) h.prompt
    stranger := fun p src u h _ =>
      frame (noticeStranger_touches p src (by decide) (State.setWindow_touches _ (by decide) (.refl _ u))) h.prompt
    wheel := fun d payload u h => settles (wheelReport_touches d payload (by decide) (.refl _ u)) h
    heartbeat := fun d payload u h => settles (heartbeatReport_touches d payload (by decide) (.refl _ u)) h
    lampReport := fun j m chs u h => frame (takeLampReport_touches j m chs (by decide) (.refl _ u)) h.prompt
    barrierReport := fun j m pos echo u h => settles (tellEndedProofs_touches u (by decide)
      (takeBarrierReport_touches j m pos echo (by decide) (.refl _ u))) h
    presenceReport := fun j m v u h => frame (takePresenceReport_touches j m v (by decide) (.refl _ u)) h.prompt
    acknowledge := fun a payload u _ _ h => frame (answerAcknowledge_touches a payload (by decide) (.refl _ u)) h.prompt
    restore := fun a payload u _ h => settles (answerRestore_touches a payload (by decide) (.refl _ u)) h
    confirm := fun a payload u _ h => h.answerConfirm a payload
    restart := fun a payload u _ _ h => h.answerRestart a payload
    historyRead := fun a payload u _ h => frame (answerHistoryRead_touches a payload (by decide) (.refl _ u)) h.prompt
    identify := fun a payload u _ h => frame (answerIdentify_touches a payload (by decide) (.refl _ u)) h.prompt
    stageWrite := fun a payload u _ h => h.answerStageWrite a payload
    stageRead := fun a payload u _ h => h.answerStageRead a payload
    activate := fun a payload u _ h => answerActivate_prompt h.prompt a payload
    activateLoop := fun a payload u _ h => answerActivateLoop_prompt h.prompt a payload
    detectorSilence := fun d r u h _ _ => settles (detectorSilent_touches d r (by decide) (.refl _ u)) h
    entryGap := fun i r u h _ _ => settles (closeEntry_touches i (by decide) (.refl _ u)) h
    scheduledStart := fun i r u h _ _ => settles (startReached_touches i (by decide) (.refl _ u)) h
    amber := fun u h _ => settles (enterRedFlash_touches (by decide) (.refl _ u)) h
    red := fun u h _ => settles (leaveRedFlash_touches (by decide) (.refl _ u)) h
    exitDelay := fun u h _ => settles (startExitLowering_touches (by decide) (.refl _ u)) h
    longClosure := fun u h _ => settles (longClosureReached_touches (by decide) (.refl _ u)) h
    lampSilence := fun j u h => frame (lampModuleSilence_touches j (by decide) (.refl _ u)) h.prompt
    proving := fun b r u h _ _ =>
      settles (tellEndedProofs_touches u (by decide) (expireProof_touches b (by decide) (.refl _ u))) h
    barrierSilence := fun j u h =>
      settles (tellEndedProofs_touches u (by decide) (barrierModuleSilence_touches j (by decide) (.refl _ u))) h
    presenceSilence := fun j u h => frame (presenceModuleSilence_touches j (by decide) (.refl _ u)) h.prompt
    exitWait := fun b r u h _ _ => frame (expireExitWait_touches b (by decide) (.refl _ u)) h.prompt
    statusPeriod := fun u h => frame (nextStatusPeriod_touches (by decide) (.refl _ u)) h.prompt
    activation := fun u h => h.activation.pendingWhileWaiting
    portSilence := fun p u h => frame (portGoesDown_touches p (by decide) (.refl _ u)) h.prompt
    idle := fun p u h => frame (idleReached_touches p (by decide) (.refl _ u)) h.prompt
    transmission := fun p u h _ => frame (transmissionDone_touches p (by decide) (.refl _ u)) h.prompt
    refresh := fun u h => frame (refreshBlock_touches (by decide) (.refl _ u)) h.prompt }

/-- Settles O59: the tables change by staging, activation and restart alone; every event that can make the part quiescent
ends by looking whether an activation waits. -/
theorem configKept : Obligations.ConfigKept := by
  refine ⟨fun s t hstaged hact htables ht => configSound_step ⟨hstaged, hact, htables⟩ ht,
    fun s t hprompt hact htables hseq ht => ?_⟩
  exact (stepRule_prompt _).step (fun strap u _ => prompt_of_idle (by simp [hardwareReset, configReset]))
    (fun _ _ hu => hu.of_same rfl rfl rfl rfl rfl) (fun _ hu => (hu.of_same rfl rfl rfl rfl rfl).prompt)
    ⟨hprompt, hact, htables, hseq⟩ ht

end

end Sys2Proof.Machine
end

section
/-! PROOFS. The fault unit is not kept by every step (O56): the exit delay expiry of a sequencer record that holds an exit
delay although exit lowering has started sets a held barrier's exit wait expiry again, and CROSSING_OBSTRUCTED stays. -/

namespace Sys2Proof.Machine

/-- An equipment table in which barrier 0 alone is in use, an EXIT barrier. -/
def exitBarrierTable : List Word := (List.replicate 112 0).set 105 2

/-- An EXIT barrier held up, its exit wait expiry reached (R128). -/
def obstructedBarrier : BarrierRecord :=
  { state := .provedUp, commanded := .raise, proving := false, provingExpiry := none, cause := none,
    lastPosition := none, held := true, exitWait := none }

/-- EXIT_LOWERING with exit lowering started and an exit delay due all the same, the zone occupied and its one EXIT
barrier held past its exit wait, CROSSING_OBSTRUCTED active with it. -/
def obstructedState : State :=
  { State.reset with
    seq := { seqInitSafe with state := .exitLowering, exitDelay := some 0, exitStarted := true }
    barrier := { barriers := [some obstructedBarrier, none, none, none], modules := [],
                 presence := [⟨.ok, none, .present⟩], proved := false }
    fault := { faultsReset with active := FaultClass.crossingObstructed.bit, latched := FaultClass.crossingObstructed.bit }
    config := { configReset 0 with tables := { safetyEmpty with equipment := exitBarrierTable } }
    pending := [.exitDelayExpiry] }

theorem obstructedState_barrierRecord {b : Nat} {r : BarrierRecord} (h : obstructedState.barrierRecord b = some r) :
    b = 0 ∧ r = obstructedBarrier := by
  match b, h with
  | 0, h => exact ⟨rfl, (Option.some.inj h).symm⟩
  | 1, h | 2, h | 3, h => cases h
  | _ + 4, h => cases h

theorem obstructedState_barriersSound : BarriersSound obstructedState := by
  intro b r hr
  obtain ⟨rfl, rfl⟩ := obstructedState_barrierRecord hr
  refine ⟨by decide, fun _ c hc => ?_, fun _ => ⟨rfl, rfl, rfl, by decide⟩⟩
  have hrole : barrierEntryRole obstructedState.eqTab 0 = false := by decide
  rw [hrole] at hc
  cases hc

theorem obstructedState_barrierFaultsSound : BarrierFaultsSound obstructedState := by
  refine ⟨?_, ?_, ?_, ?_, ?_⟩ <;> decide

/-- What the exit delay expiry leaves of it. -/
def obstructedAfter : State :=
  settle (obstructedState.setPending []) (startExitLowering (obstructedState.setPending []))

theorem obstructedState_step : step obstructedState = .next obstructedAfter := rfl

/-- Refutes O56: the barrier held is not past its new exit wait expiry, and CROSSING_OBSTRUCTED is active all the same. -/
theorem not_faultUnitKept : ¬ Obligations.FaultUnitKept := by
  rintro ⟨-, -, -, -, hbarrier⟩
  obtain ⟨-, -, -, -, hobstructed⟩ := hbarrier _ _ obstructedState_barrierFaultsSound obstructedState_barriersSound
    obstructedState_step
  have hactive : obstructedAfter.fault.isActive .crossingObstructed = true := by decide
  have hnone : (exitBarriers obstructedAfter.eqTab).any obstructedAfter.barrierObstructed = false := by decide
  rw [hactive, hnone] at hobstructed
  cases hobstructed

end Sys2Proof.Machine
end

section
/-! PROOFS. A RESTORE taken in (section 1.6): the statement O41. -/

namespace Sys2Proof.Machine

section
variable {a : Arrival} {trk n mode : Byte} {s : State}

/-- The reply to a RESTORE, of its reason and the state its effect leaves (R25). -/
def restoreResult (reason : Option Reason) (trk n mode : Byte) (u : State) : List Byte :=
  [trk, n, mode] ++ verdict reason ++ sectionBytes reason (u.sectionAt trk.toNat n.toNat)

theorem checkRestore_heard (p : Port) (s : State) (trk n : Nat) (m : Option RestoreMode) :
    checkRestore (hearLink p s) trk n m = checkRestore s trk n m := by
  simp only [checkRestore, State.sectionNamed, State.safetyActive, State.detectorOk,
    hearLink_config, hearLink_detTab, hearLink_tracker, hearLink_axle]

/-- A section that does not exist is the first ground of refusal, and NO_SECTION is the reason of that ground alone
(R22). -/
theorem checkRestore_eq_noSection (s : State) (trk n : Nat) (m : Option RestoreMode) :
    checkRestore s trk n m = some .noSection ↔ s.sectionNamed trk n = false := by
  unfold checkRestore
  cases s.sectionNamed trk n with
  | false => simp [firstReason]
  | true =>
    simp only [firstReason, Bool.not_true, Bool.false_eq_true, if_false, reduceCtorEq, iff_false]
    split_ifs <;> simp

theorem State.sectionNamed_eq_false (s : State) (trk n : Nat) : s.sectionNamed trk n = false ↔
    (s.safetyActive = false ∨ trackConfigured s.detTab trk = false ∨ sectionCount s.detTab trk ≤ n) := by
  simp only [State.sectionNamed, Bool.and_eq_false_iff, decide_eq_false_iff_not, Nat.not_lt, or_assoc]

/-- The blocks an accepted RESTORE changes before its reply. -/
abbrev restoreBlocks : List Block :=
  [.portA, .portB, .axle, .tracker, .seq, .lamp, .barrier, .cmd, .fault, .queue .command]

/-- A RESTORE taken: its reply is sent from what its effect leaves. -/
theorem restore_taken (hn : NotAwaiting s) (hreq : Requested .restore s a) :
    let reason := checkRestore s trk.toNat n.toNat (restoreModeOfCode mode.toNat)
    let u := restoreEffect reason (restoreModeOfCode mode.toNat) trk.toNat n.toNat (hearLink a.port s)
    ∃ copy, receiveRequest .restore a [trk, n, mode] s = withCopy a.port copy
      (finishProof (hearLink a.port s) false (sendReply a 0x61 (restoreResult reason trk n mode u) u)) := by
  intro reason u
  obtain ⟨copy, hcopy⟩ := receiveRequest_taken .restore [trk, n, mode] hreq (by simp)
  have hT : Touches (.queue .reply :: restoreBlocks) (hearLink a.port s) (answerRestore a [trk, n, mode] (hearLink a.port s)) :=
    answerRestore_touches a [trk, n, mode] (by decide) (Touches.refl _ _)
  have hanswer : answerRestore a [trk, n, mode] (hearLink a.port s)
      = sendReply a 0x61 (restoreResult reason trk n mode u) u := by
    simp only [u, reason, ← checkRestore_heard a.port s]
    exact if_neg (by simp)
  refine ⟨copy, hcopy.trans ?_⟩
  show withCopy a.port copy (settle (hearLink a.port s) (answerRestore a [trk, n, mode] (hearLink a.port s))) = _
  rw [settle_notAwaiting (hn.heard.of_touches (by decide) hT), hanswer]

/-- Both accepted modes: the section's new state and balance, the sections else as they were, and the reply. -/
theorem restore_accepted {m : RestoreMode} (hn : NotAwaiting s) (hreq : Requested .restore s a)
    (hm : restoreModeOfCode mode.toNat = some m) (hsome : (s.sectionAt trk.toNat n.toNat).isSome)
    (hcheck : checkRestore s trk.toNat n.toNat (some m) = none) :
    ∃ t, receiveRequest .restore a [trk, n, mode] s = t
      ∧ t.axle = (restoreSection trk.toNat n.toNat (restoredState m) s).axle
      ∧ t.fault = (restoreAccepted m trk.toNat n.toNat (hearLink a.port s)).fault
      ∧ Replied a s.ownAddress 0x61
          [trk, n, mode, 0, 0, BitVec.ofNat 8 (sectionStateCode (restoredState m)), 0, 0] s t
      ∧ Touches [.portA, .portB, .axle, .tracker, .seq, .lamp, .barrier, .cmd, .fault, .queue .command,
          .queue .status, .queue .reply, .queue .forward] (hearLink a.port s) t := by
  obtain ⟨copy, htaken⟩ := restore_taken (trk := trk) (n := n) (mode := mode) hn hreq
  let u := restoreAccepted m trk.toNat n.toNat (hearLink a.port s)
  have hu : Touches restoreBlocks (hearLink a.port s) u :=
    restoreAccepted_touches m _ _ (by decide) (Touches.refl _ _)
  have haxle : u.axle = (restoreSection trk.toNat n.toNat (restoredState m) s).axle := by
    rw [restoreAccepted_axle, restoreSection_axle, hearLink_axle]
    rfl
  have hresult : restoreResult none trk n mode u
      = [trk, n, mode, 0, 0, BitVec.ofNat 8 (sectionStateCode (restoredState m)), 0, 0] := by
    obtain ⟨x, hx⟩ := Option.isSome_iff_exists.mp hsome
    have hsection : u.sectionAt trk.toNat n.toNat = some { x with balance := 0, state := restoredState m } := by
      exact sectionAt_of_mapSection (f := fun x => { x with balance := 0, state := restoredState m })
        (fun _ => ⟨rfl, rfl⟩) haxle hx
    have hzero : bytes2 (BitVec.ofNat 16 0) = [0, 0] := by decide
    rw [restoreResult, hsection, verdict_none, sectionBytes, hzero]
    · rfl
    · simp
  rw [hm, hcheck] at htaken
  obtain ⟨hrep, htouch⟩ := finishedProof_reply (kind := 0x61) (payload := restoreResult none trk n mode u) copy false hu
    (by decide) (by decide)
  rw [hu.ownAddress_eq, hearLink_ownAddress, hresult] at hrep
  refine ⟨_, htaken, htouch.axle_eq.trans haxle, htouch.fault_eq, ?_, (hu.mono (by decide)).trans (htouch.mono (by decide))⟩
  rw [← hresult] at hrep ⊢
  exact hrep

/-- A RESTORE refused: its reply, and CROSSING_PROVED evaluated. -/
theorem restore_refused {reason : Reason} (hn : NotAwaiting s) (hreq : Requested .restore s a)
    (hcheck : checkRestore s trk.toNat n.toNat (restoreModeOfCode mode.toNat) = some reason) :
    ∃ t, receiveRequest .restore a [trk, n, mode] s = t
      ∧ t.barrier = { s.barrier with proved := s.crossingProof }
      ∧ Touches [.portA, .portB, .barrier, .queue .status, .queue .reply, .queue .forward] (hearLink a.port s) t
      ∧ Replied a s.ownAddress 0x61 (restoreResult (some reason) trk n mode (hearLink a.port s)) s t := by
  obtain ⟨copy, htaken⟩ := restore_taken (trk := trk) (n := n) (mode := mode) hn hreq
  rw [hcheck] at htaken
  obtain ⟨hrep, htouch⟩ := finishedProof_reply (a := a) (s := s) (kind := 0x61)
    (payload := restoreResult (some reason) trk n mode (hearLink a.port s)) copy false
    (Touches.refl [] (hearLink a.port s)) (by decide) (by decide)
  have hanswered := Answered.of_finishProof (a := a) (kind := 0x61)
    (payload := restoreResult (some reason) trk n mode (hearLink a.port s)) (u := hearLink a.port s) copy false
    (hearLink a.port s)
  refine ⟨_, htaken, hanswered.barrier.trans ?_, htouch.mono (by decide), ?_⟩
  · rw [hearLink_barrier, crossingProof_congr (s := s) (by rw [hearLink_config]) (hearLink_lamp ..) (hearLink_barrier ..)
      (hearLink_seq ..)]
  · rw [hearLink_ownAddress] at hrep
    exact hrep

end

/-- Settles O41: accepted in either mode by `restore_accepted`, refused by `restore_refused`. -/
theorem restore : Obligations.Restore := by
  constructor
  · intro a trk n s hn hreq set keeps hsome
    constructor
    · intro hcheck
      obtain ⟨t, ht, haxle, hfault, hrep, htouch⟩ := restore_accepted (mode := 1) hn hreq rfl hsome hcheck
      have hreports : Reports sequenceClasses (hearLink a.port s) true
          (restoreSweepAccepted trk.toNat n.toNat (hearLink a.port s)) :=
        restoreSweepAccepted_reports _ _ (List.Subset.refl _) (.refl true)
      exact ⟨t, congrArg _ ht, haxle, hrep, hreports.from_heard.trans (.of_fault_eq hfault), htouch⟩
    · intro hcheck
      obtain ⟨t, ht, haxle, hfault, hrep, htouch⟩ := restore_accepted (mode := 2) hn hreq rfl hsome hcheck
      have hreports : Reports (.notice :: sequenceClasses) (hearLink a.port s) true
          (restoreDirectAccepted trk.toNat n.toNat (hearLink a.port s)) :=
        restoreDirectAccepted_reports _ _ (List.Subset.refl _) (.refl true)
      refine ⟨t, congrArg _ ht, haxle, ?_, hrep, hreports.from_heard.trans (.of_fault_eq hfault), htouch⟩
      rw [hfault]
      exact (react_reports (cls := sequenceClasses) (by simp) (.refl true)).latched_mono (by simp)
  · intro a trk n mode s c reason hn hreq hc hcheck
    obtain ⟨t, ht, hbarrier, htouch, hrep⟩ := restore_refused hn hreq hcheck
    have hexec : exec c s = .next t := by
      rcases hc with rfl | ⟨rfl, rfl⟩
      · exact congrArg _ ht
      · exact congrArg _ ht
    refine ⟨t, hexec, hbarrier, htouch, ?_, fun h => by rw [h] at hrep; exact hrep⟩
    rw [← State.sectionNamed_eq_false, ← checkRestore_eq_noSection (m := restoreModeOfCode mode.toNat), hcheck,
      Option.some.injEq]

end Sys2Proof.Machine
end

section
/-! PROOFS. A head passage that replaces an earliest start may go unreported (O39): the reported content speaks of the
approaches of tracks 0 to 3, and a detector table that no check has passed may name a track beyond them. -/

namespace Sys2Proof.Machine

/-- A detector table of four detectors on track 4, three of them west of the crossing. -/
def farDetectorTable : List Word :=
  [0x100, 0x104, -300, 0, 0, 0, 0x101, 0x104, -200, 0, 0, 0, 0x102, 0x104, -100, 0, 0, 0, 0x103, 0x104, 100, 0, 0, 0]

/-- A record APPROACHING on track 4, one axle past the strike-in, its start that of its approach. -/
def farRecord : TrainRecord :=
  { tag := 1, approach := 8, state := .approaching, entryOpen := true, lastEntry := 0, passed := [1, 0, 0, 0], peak := 1,
    headDetector := 0, headTime := 0, entrySpeed := none, lastSpeed := none, scheduledStart := some 5, warnedAt := none,
    islandEntry := none, achieved := none, merged := false, overspeed := false, short := false, receding := false }

/-- The part with that table and record, its approach unsupervised: detectors of its path are not OK. -/
def farState : State :=
  { State.reset with
    portA := { portReset with link := .up }
    axle := { detectors := [none, some ⟨.unknown, none, none⟩], sections := [] }
    tracker := { records := [farRecord], nextTag := 2, overflow := [] }
    config := { configReset 0 with tables := { safetyEmpty with detector := farDetectorTable }, activeIdentity := 1 } }

/-- The WHEEL of detector 1, the second of the path. -/
def farArrival : Arrival := ⟨.a, 2, 0x101⟩

theorem farState_consumed : Consumed .field farState farArrival :=
  ⟨rfl, by decide, windowOf (strapLoopTable 0) 2, by decide, .inl (by decide), by decide⟩

theorem farState_wheelAt : WheelAt farState farArrival [1, 0, 0, 0] 1 .up :=
  ⟨by decide, farState_consumed, by decide, rfl, rfl, .inl rfl, by decide⟩

/-- What the WHEEL leaves of it: the record WARNED before the wheel is its head passage, so no start is replaced. -/
def farAfter : State := receiveField .wheel farArrival [1, 0, 0, 0] farState

/-- Refutes O39: the record is WARNED for its unsupervised approach and the wheel counted for it, none of which the
reported content shows, and nothing is sent. -/
theorem not_statusTelegrams : ¬ Obligations.StatusTelegrams := by
  rintro ⟨-, -, hreplaced⟩
  obtain ⟨t, hexec, hsent⟩ := hreplaced farArrival [1, 0, 0, 0] farState 1 0 0 .up farRecord 5 farState_wheelAt (by decide)
    (by decide) rfl (by decide) rfl (by decide) (fun j hj => absurd hj (Nat.not_lt_zero j)) rfl rfl rfl (by decide)
    (by decide) rfl
  obtain rfl : farAfter = t := Host.Outcome.next.inj hexec
  have hidle : (farAfter.port farAfter.signallerPort).transmitter = none := by decide
  have hnone : (farAfter.port farAfter.signallerPort).status = [] := by decide
  rcases hsent with h | ⟨e, he, -⟩
  · rw [hidle] at h
    cases h
  · rw [hnone] at he
    cases he

end Sys2Proof.Machine
end

section
/-! PROOFS. The sequence as a chain of moves: what the sequencer can do between two looks at its state, and that every
operation of it, and every event of the axle counter and the train tracker, comes to a chain of them. -/

namespace Sys2Proof.Machine

/-! ## The moves -/

/-- ENTRY_LOWERING with LOWER given to every ENTRY barrier, before the sequencer looks whether they are resolved (R80). -/
def entryBegun (s : State) : State := giveCommands .lower (entryBarriers s.eqTab) (enterState .entryLowering s)

/-- EXIT_LOWERING with its exit delay running (R82). -/
def exitDelayBegun (s : State) : State :=
  (exitPhaseBegun s).setSeq { s.seq with
    state := .exitLowering, exitStarted := false, exitDelay := some (timePlus s.now (tExitDelayOf s.crTab)) }

/-- One move of the sequence: a state entered, with what is commanded at once, or the closure's own record changed, under
the condition the sequencer moves on. -/
inductive Move : State → State → Prop
  | amber {s} : s.seq.state = .opened → s.demand = true → Move s (enterAmber s)
  | redFlash {s} : s.seq.amber = some s.now → Move s (enterRedFlash s)
  | entry {s} : s.seq.red = some s.now → Move s (entryBegun (s.setSeq { s.seq with red := none }))
  | relowered {s} : s.seq.state = .raising → s.demand = true → Move s (entryBegun (closureBegun s))
  | exitDelay {s} : s.seq.state = .entryLowering → s.allResolved .lower (entryBarriers s.eqTab) = true →
      tExitDelayOf s.crTab ≠ 0 → Move s (exitDelayBegun s)
  | exitAtOnce {s} : s.seq.state = .entryLowering → s.allResolved .lower (entryBarriers s.eqTab) = true →
      Move s (exitLoweringBegun (exitPhaseBegun s))
  | exitStarted {s} : s.seq.exitDelay = some s.now → Move s (exitLoweringBegun s)
  | closed {s} : s.seq.exitStarted = true → s.allResolved .lower (exitBarriers s.eqTab) = true →
      Move s (closedBegun s)
  | raising {s} : s.seq.state = .closed → s.demand = false → Move s (raisingBegun s)
  | opened {s} : s.seq.state = .raising → s.allResolved .raise (barriersInUse s.eqTab) = true →
      Move s (enterState .opened s)
  | prolonged {s} : inClosure s.seq.state = true → Move s (checkProlonged s)
  | longClosure {s} : s.seq.longClosure = some s.now → Move s (longClosureReached s)

/-- The blocks of the axle counter, the train tracker and the fault unit: no move of the sequence needs them kept but for
demand. -/
abbrev countedBlocks : List Block := [.axle, .tracker, .fault]

/-- From `s` to `t` by moves of the sequence, changes of the axle counter, the tracker and the fault unit, and passage
reports handed over. -/
inductive Evolves (s : State) : State → Prop
  | refl : Evolves s s
  | counted {t u} : Evolves s t → Touches countedBlocks t u → Evolves s u
  | reported {t} (o : PassageOutcome) (r : TrainRecord) : Evolves s t → Evolves s (handPassageReport o r t)
  | moved {t u} : Evolves s t → Move t u → Evolves s u

/-! ## The sequencer's operations -/

/-- A predicate that every move keeps. -/
structure KeptByMoves (I : State → Prop) : Prop where
  moved : ∀ {u v}, I u → Move u v → I v

section
variable {I : State → Prop} {t : State}

theorem KeptByMoves.enterRaising (hI : KeptByMoves I) (h : I t) (hc : t.seq.state = .closed) (hd : t.demand = false) :
    I (enterRaising t) := by
  have hbegun := hI.moved h (.raising hc hd)
  rw [enterRaising_eq]
  split
  next hnone =>
    refine hI.moved hbegun (.opened (by rw [raisingBegun_seq]) ?_)
    rw [(raisingBegun_sequenceFrame (l := sequenceClasses) (by decide) (by decide) (SequenceFrame.refl _ t)).eqTab_eq,
      hnone]
    rfl
  next => exact hbegun

theorem KeptByMoves.reopenDecision (hI : KeptByMoves I) (h : I t) (hc : t.seq.state = .closed) (hd : t.demand = false) :
    I (reopenDecision t) := by
  unfold Machine.reopenDecision
  split
  · exact h
  · exact hI.enterRaising h hc hd

theorem KeptByMoves.enterClosed (hI : KeptByMoves I) (h : I t) (he : t.seq.exitStarted = true)
    (hr : t.allResolved .lower (exitBarriers t.eqTab) = true) : I (enterClosed t) := by
  have hbegun := hI.moved h (.closed he hr)
  show I (if (closedBegun t).demand = true then closedBegun t else Machine.reopenDecision (closedBegun t))
  split
  · exact hbegun
  next hd => exact hI.reopenDecision hbegun (by rw [closedBegun_seq]) ((Bool.not_eq_true _).mp hd)

theorem KeptByMoves.checkExitLowered (hI : KeptByMoves I) (h : I t) (he : t.seq.exitStarted = true) :
    I (checkExitLowered t) := by
  unfold Machine.checkExitLowered
  split
  next hr => exact hI.enterClosed h he hr
  next => exact h

theorem KeptByMoves.startExitLowering (hI : KeptByMoves I) (h : I t) (hdue : t.seq.exitDelay = some t.now) :
    I (startExitLowering t) :=
  hI.checkExitLowered (hI.moved h (.exitStarted hdue)) (congrArg Sequencer.exitStarted (exitLoweringBegun_seq t))

theorem KeptByMoves.checkEntryLowered (hI : KeptByMoves I) (h : I t) (he : t.seq.state = .entryLowering) :
    I (checkEntryLowered t) := by
  unfold Machine.checkEntryLowered
  split
  next hr =>
    rw [enterExitLowering_eq]
    split
    · exact hI.checkExitLowered (hI.moved h (.exitAtOnce he hr)) (congrArg Sequencer.exitStarted (exitLoweringBegun_seq _))
    next hdelay => exact hI.moved h (.exitDelay he hr hdelay)
  next => exact h

theorem entryBegun_seq (s : State) : (entryBegun s).seq = { s.seq with state := .entryLowering } := by
  rw [entryBegun, giveCommands_seq, enterState_seq]

theorem KeptByMoves.leaveRedFlash (hI : KeptByMoves I) (h : I t) (hdue : t.seq.red = some t.now) : I (leaveRedFlash t) :=
  hI.checkEntryLowered (hI.moved h (.entry hdue)) (congrArg Sequencer.state (entryBegun_seq _))

theorem KeptByMoves.relower (hI : KeptByMoves I) (h : I t) (hs : t.seq.state = .raising) (hd : t.demand = true) :
    I (relower t) :=
  hI.checkEntryLowered (hI.moved h (.relowered hs hd)) (congrArg Sequencer.state (entryBegun_seq _))

theorem KeptByMoves.actOnDemand (hI : KeptByMoves I) (h : I t) : I (actOnDemand t) := by
  unfold Machine.actOnDemand
  split
  next => exact h
  next hs =>
    split
    next hd => exact hI.moved h (.amber hs hd)
    next => exact h
  next hs =>
    split
    next hd => exact hI.relower h hs hd
    next => exact h
  next hs =>
    split
    next => exact hI.moved h (.prolonged (by rw [hs]; rfl))
    next hd => exact hI.reopenDecision h hs ((Bool.not_eq_true _).mp hd)
  all_goals
    next hs =>
      split
      next => exact hI.moved h (.prolonged (by rw [hs]; rfl))
      next => exact h

theorem KeptByMoves.barrierResolved (hI : KeptByMoves I) (h : I t) : I (barrierResolved t) := by
  unfold Machine.barrierResolved
  split
  next hs => exact hI.checkEntryLowered h hs
  next =>
    split
    next he => exact hI.checkExitLowered h he
    next => exact h
  next hs =>
    unfold checkRaised
    split
    next hr => exact hI.moved h (.opened hs hr)
    next => exact h
  all_goals exact h

theorem KeptByMoves.tellEndedProofs (hI : KeptByMoves I) (before : State) (h : I t) : I (tellEndedProofs before t) := by
  unfold Machine.tellEndedProofs
  split
  · exact hI.barrierResolved h
  · exact h

end

section
variable {s t : State}

theorem evolves_keptByMoves (s : State) : KeptByMoves (Evolves s) := ⟨fun h m => h.moved m⟩

theorem Evolves.startExitLowering (h : Evolves s t) (hdue : t.seq.exitDelay = some t.now) :
    Evolves s (startExitLowering t) := (evolves_keptByMoves s).startExitLowering h hdue

theorem Evolves.leaveRedFlash (h : Evolves s t) (hdue : t.seq.red = some t.now) : Evolves s (leaveRedFlash t) :=
  (evolves_keptByMoves s).leaveRedFlash h hdue

theorem Evolves.actOnDemand (h : Evolves s t) : Evolves s (actOnDemand t) := (evolves_keptByMoves s).actOnDemand h

theorem Evolves.tellEndedProofs (before : State) (h : Evolves s t) : Evolves s (tellEndedProofs before t) :=
  (evolves_keptByMoves s).tellEndedProofs before h

theorem Evolves.react (h : Evolves s t) : Evolves s (react t) :=
  (h.counted (warnUnsupervised_touches (by decide) (clearOverflow_touches (by decide) (.refl _ t)))).actOnDemand

end

/-! ## Events of the train tracker -/

section
variable {s t : State}

theorem Evolves.checkRetirement (i : Nat) (h : Evolves s t) : Evolves s (checkRetirement i t) := by
  unfold Machine.checkRetirement
  split
  · exact h
  · split
    · exact h
    · exact (h.reported _ _).counted (State.setTracker_touches _ (by decide) (.refl _ _))

theorem Evolves.takeInward (i k : Nat) (w : WheelPassage) (h : Evolves s t) : Evolves s (takeInward i k w t) := by
  unfold Machine.takeInward
  split
  · exact h
  · refine Evolves.checkRetirement i (h.counted (putRecord_touches _ _ (by decide) ?_))
    split
    · exact headPassage_touches _ _ _ _ (by decide) (.refl _ t)
    · exact .refl _ t

theorem Evolves.takeOutward (i k : Nat) (h : Evolves s t) : Evolves s (takeOutward i k t) := by
  unfold Machine.takeOutward
  split
  · exact h
  · exact Evolves.checkRetirement i (h.counted (putRecord_touches _ _ (by decide) (.refl _ t)))

theorem Evolves.unattributed (w : WheelPassage) (h : Evolves s t) : Evolves s (unattributed w t) :=
  h.counted (unattributed_touches w (by decide) (.refl _ t))

theorem Evolves.offerOutward (w : WheelPassage) (h : Evolves s t) : Evolves s (offerOutward w t) := by
  have houtward : ∀ a k, Evolves s (outwardWheel a k t).1 := fun a k => by
    unfold outwardWheel
    split
    · exact h
    · exact h.takeOutward _ _
  unfold Machine.offerOutward
  dsimp only
  split
  · exact h.unattributed w
  · split
    · exact houtward _ _
    · exact (houtward _ _).unattributed w

theorem Evolves.attributeWheel (w : WheelPassage) (h : Evolves s t) : Evolves s (attributeWheel w t) := by
  have hinner : ∀ a k, Evolves s (innerWheel a k w t).1 := fun a k => by
    unfold innerWheel
    split
    · exact h
    · exact h.takeInward _ _ _
  have hstrikeIn : ∀ a, Evolves s (strikeIn a w t).1 := fun a =>
    h.counted (strikeIn_touches a w (by decide) (.refl _ t))
  unfold Machine.attributeWheel
  dsimp only
  split
  · exact h.offerOutward w
  · split
    · exact hstrikeIn _
    · exact (hstrikeIn _).unattributed w
  · split
    · exact hinner _ _
    · exact (hinner _ _).offerOutward w

theorem Evolves.trackWheel (w : WheelPassage) (h : Evolves s t) : Evolves s (trackWheel w t) :=
  (h.attributeWheel w).react

theorem Evolves.closeEntry (i : Nat) (h : Evolves s t) : Evolves s (closeEntry i t) := by
  unfold Machine.closeEntry
  split
  · exact h
  · exact ((h.counted (putRecord_touches _ _ (by decide) (.refl _ t))).checkRetirement i).react

theorem Evolves.startReached (i : Nat) (h : Evolves s t) : Evolves s (startReached i t) := by
  unfold Machine.startReached
  split
  · exact h
  · exact (h.counted (putRecord_touches _ _ (by decide) (.refl _ t))).react

end

/-! ## Events of the axle counter -/

section
variable {s t : State}

theorem Evolves.putDetector (d : Nat) (r : DetectorRecord) (h : Evolves s t) : Evolves s (putDetector d r t) :=
  h.counted (putDetector_touches d r (by decide) (.refl _ t))

theorem Evolves.gapEffect (d : Nat) (gap : Option Byte) (seq : Byte) (h : Evolves s t) :
    Evolves s (gapEffect d gap seq t) := by
  cases gap with
  | none => exact h
  | some expected =>
    exact (h.counted (raiseFault_touches _ _ _ (by decide) (disturbAdjacent_touches d (by decide) (.refl _ t)))).react

theorem endDetectorFaults_touched (s : State) : Touches [.fault] s (endDetectorFaults s) := by
  exact endFaultUnless_touches _ _ (by decide) (endFaultUnless_touches _ _ (by decide) (.refl _ s))

theorem Evolves.failDetector (d : Nat) (c : DetectorCause) (r : DetectorRecord) (h : Evolves s t) :
    Evolves s (failDetector d c r t) := by
  have hput := h.putDetector d { r with state := .failed c }
  have hfaults := hput.counted (enterDetectorFault_touches d c (by decide) (.refl _ _))
  have hended := hfaults.counted ((endDetectorFaults_touched _).mono (by decide))
  unfold Machine.failDetector
  dsimp only
  split
  · exact hput
  · split
    · exact hended.react
    · exact (hended.counted (disturbAdjacent_touches d (by decide) (.refl _ _))).react

theorem Evolves.passDetector (d : Nat) (r : DetectorRecord) (h : Evolves s t) : Evolves s (passDetector d r t) :=
  ((h.putDetector d { r with state := .ok }).counted ((endDetectorFaults_touched _).mono (by decide))).react

theorem Evolves.detectorSilent (d : Nat) (r : DetectorRecord) (h : Evolves s t) : Evolves s (detectorSilent d r t) :=
  h.failDetector d .silent _

theorem Evolves.wheelReport (d : Nat) (payload : List Byte) (h : Evolves s t) : Evolves s (wheelReport d payload t) := by
  unfold Machine.wheelReport
  split
  · exact h
  · split
    · refine Evolves.trackWheel _ ?_
      show Evolves s (moveWheel _ _ (Machine.gapEffect _ _ _ (Machine.putDetector _ _ t)))
      exact (((h.putDetector _ _).gapEffect _ _ _).counted (moveAxle_touches _ _ (by decide) (.refl _ _))).react
    · exact h

theorem Evolves.heartbeatReport (d : Nat) (payload : List Byte) (h : Evolves s t) :
    Evolves s (heartbeatReport d payload t) := by
  unfold Machine.heartbeatReport
  split
  · exact h
  · split
    · exact h
    · split
      · unfold takeHeartbeat
        dsimp only
        split
        · exact ((h.putDetector d _).gapEffect d _ _).passDetector d _
        · exact ((h.putDetector d _).gapEffect d _ _).failDetector d _ _
      · exact h

theorem Evolves.restoreAccepted (m : RestoreMode) (trk n : Nat) (h : Evolves s t) :
    Evolves s (restoreAccepted m trk n t) := by
  have hrestored : ∀ st, Evolves s (restoreSection trk n st t) := fun st =>
    h.counted (restoreSection_touches trk n st (by decide) (.refl _ t))
  cases m with
  | sweep => exact (hrestored .prepared).react
  | direct => exact ((hrestored .clear).counted (raiseNotice_touches _ _ (by decide) (.refl _ _))).react

theorem Evolves.restoreEffect (reason : Option Reason) (mode : Option RestoreMode) (trk n : Nat) (h : Evolves s t) :
    Evolves s (restoreEffect reason mode trk n t) := by
  unfold Machine.restoreEffect
  split
  · exact h.restoreAccepted _ _ _
  · exact h

end

end Sys2Proof.Machine
end

section
/-! PROOFS. What every step keeps of the sequencer's record (R72, R75, R129): the rule for a predicate of the sequence,
and the sequencer's part of the statement O57. -/

namespace Sys2Proof.Machine

/-! ## The rule for a predicate of the sequence -/

/-- Every block but those of the sequence, its tables and what the axle counter and the tracker hold. -/
abbrev offSequenceBlocks : List Block :=
  [.portA, .portB, .window, .cmd, .fault, .freeCounter, .pending, .timebase, .links, .queue .command, .queue .status,
   .queue .reply, .queue .forward, .statusPeriod]

theorem setPending_touched (l : List Instr) (s : State) : Touches offSequenceBlocks s (s.setPending l) := by
  intro b hb
  have hsame := Touches.refl offSequenceBlocks s b hb
  cases b with
  | pending => exact absurd (by decide) hb
  | _ => exact hsame

theorem tick_touched (s : State) : Touches offSequenceBlocks s (tick s) := by
  intro b hb
  have hsame := Touches.refl offSequenceBlocks s b hb
  cases b with
  | timebase => exact absurd (by decide) hb
  | _ => exact hsame

/-- The tables stay in effect, and a set newly pending has an identity (R174). -/
structure TablesStay (u v : State) : Prop where
  touches : Touches (.config :: offSequenceBlocks) u v
  tables : v.config.tables = u.config.tables
  identity : v.config.activeIdentity = u.config.activeIdentity
  pending : ∀ x, v.config.pendingSet = some x → u.config.pendingSet = some x ∨ x.1 ≠ 0

theorem TablesStay.of_frame {u v : State} (h : Touches offSequenceBlocks u v) : TablesStay u v :=
  ⟨h.mono (by decide), by rw [h.config_eq], by rw [h.config_eq], fun x hx => .inl (by rwa [h.config_eq] at hx)⟩

theorem TablesStay.trans {u v w : State} (h : TablesStay u v) (k : TablesStay v w) : TablesStay u w :=
  ⟨h.touches.trans k.touches, k.tables.trans h.tables, k.identity.trans h.identity, fun x hx =>
    (k.pending x hx).elim (h.pending x) .inr⟩

theorem TablesStay.of_config {u v : State} (hT : Touches (.config :: offSequenceBlocks) u v)
    (h : v.config.tables = u.config.tables) (hi : v.config.activeIdentity = u.config.activeIdentity)
    (hp : ∀ x, v.config.pendingSet = some x → u.config.pendingSet = some x ∨ x.1 ≠ 0) : TablesStay u v := ⟨hT, h, hi, hp⟩

section
variable {s : State}

theorem sendReply_tablesStay (a : Arrival) (kind : Byte) (payload : List Byte) (s : State) :
    TablesStay s (sendReply a kind payload s) := .of_frame (sendReply_touches _ _ _ (by decide) (.refl _ s))

theorem cancelActivation_tablesStay (s : State) : TablesStay s (cancelActivation s) :=
  .of_config (cancelActivation_touches (by decide) (.refl _ s)) rfl rfl fun _ hx => by cases hx

theorem putStaged_tablesStay (i : TableId) (x : StagedTable) (s : State) : TablesStay s (putStaged i x s) := by
  cases i <;> exact .of_config (State.setConfig_touches _ (by decide) (.refl _ s)) rfl rfl fun _ hx => .inl hx

theorem useFree_tablesStay (n : Nat) (s : State) : TablesStay s (useFree n s) :=
  .of_frame ((useFree_touched n s).mono (by decide))

theorem answerStageWrite_tablesStay (a : Arrival) (payload : List Byte) (s : State) :
    TablesStay s (answerStageWrite a payload s) := by
  have heffect : ∀ table start ws reason, TablesStay s (stageWriteEffect table start ws reason s) := by
    intro table start ws reason
    have hcancelled : ∀ t, TablesStay s t → TablesStay s (if writeCancels table t then cancelActivation t else t) :=
      fun t h => by split <;> [exact h.trans (cancelActivation_tablesStay t); exact h]
    unfold stageWriteEffect
    refine hcancelled _ ?_
    split
    · exact putStaged_tablesStay ..
    · exact .of_frame (.refl _ s)
  unfold answerStageWrite
  split
  · exact sendReply_tablesStay ..
  · refine TablesStay.trans ?_ (sendReply_tablesStay ..)
    split
    · exact (heffect ..).trans (useFree_tablesStay ..)
    · exact heffect ..

theorem answerStageRead_tablesStay (a : Arrival) (payload : List Byte) (s : State) :
    TablesStay s (answerStageRead a payload s) := by
  have heffect : ∀ table start n reason, TablesStay s (stageReadEffect table start n reason s) := by
    intro table start n reason
    unfold stageReadEffect
    split
    · exact putStaged_tablesStay ..
    · exact .of_frame (.refl _ s)
  unfold answerStageRead
  split
  · exact sendReply_tablesStay ..
  · refine TablesStay.trans ?_ (sendReply_tablesStay ..)
    split
    · exact (heffect ..).trans (useFree_tablesStay ..)
    · exact heffect ..

theorem answerActivate_tablesStay (a : Arrival) (payload : List Byte) (s : State) :
    TablesStay s (answerActivate a payload s) := by
  unfold answerActivate activateEffect
  split
  · exact sendReply_tablesStay ..
  · refine TablesStay.trans ?_ (sendReply_tablesStay ..)
    split
    · exact cancelActivation_tablesStay s
    next hreason =>
      obtain ⟨hid, -, -⟩ := checkActivate_eq_none.mp hreason
      refine .of_config (State.setConfig_touches _ (by decide) (.refl _ s)) rfl rfl fun x hx => .inr ?_
      obtain rfl : (wordAt payload 0, wordAt payload 2) = x := Option.some.inj hx
      exact hid

theorem answerActivateLoop_tablesStay (a : Arrival) (payload : List Byte) (s : State) :
    TablesStay s (answerActivateLoop a payload s) := by
  unfold answerActivateLoop activateLoopEffect
  split
  · exact sendReply_tablesStay ..
  · refine TablesStay.trans ?_ (sendReply_tablesStay ..)
    split
    · exact .of_frame (.refl _ s)
    · exact (TablesStay.of_frame (State.setWindow_touches _ (by decide) (.refl _ s))).trans (cancelActivation_tablesStay _)

theorem confirmed_tablesStay (s : State) : TablesStay s (confirmed s) :=
  .of_config (State.setConfig_touches _ (by decide) (.refl _ s)) rfl rfl fun _ hx => .inl hx

theorem answerAcknowledge_tablesStay (a : Arrival) (payload : List Byte) (s : State) :
    TablesStay s (answerAcknowledge a payload s) := .of_frame (answerAcknowledge_touches a payload (by decide) (.refl _ s))

end

/-! ## The blocks formed anew -/

theorem leaveInitSafe_evolves (s : State) : Evolves (initSafeLeft s) (leaveInitSafe s) := by
  rw [leaveInitSafe_eq]
  exact Evolves.refl.actOnDemand

/-- The state an activation starts the sequence from: CLOSED out of INIT_SAFE, else RAISE given in OPEN (R93, R95, R132). -/
def activationBegun (s : State) : State :=
  match s.seq.state with
  | .initSafe => initSafeLeft s
  | _ => giveCommands .raise (barriersInUse s.eqTab) s

theorem activationBegun_of_initSafe {s : State} (h : s.seq.state = .initSafe) : activationBegun s = initSafeLeft s := by
  rw [activationBegun, h]

theorem activationBegun_of_opened {s : State} (h : s.seq.state = .opened) :
    activationBegun s = giveCommands .raise (barriersInUse s.eqTab) s := by
  rw [activationBegun, h]

theorem sequenceAfterActivation_evolves (s : State) : Evolves (activationBegun s) (sequenceAfterActivation s) := by
  unfold activationBegun sequenceAfterActivation
  cases s.seq.state with
  | initSafe => exact leaveInitSafe_evolves s
  | _ => exact Evolves.refl.actOnDemand

/-- The blocks as an activation forms them anew, before the sequence goes on (R27, R50, R95, R115, R132). -/
def anewBegun (pid crc : Word) (s : State) : State :=
  reinitialise s.seq.state (sectionsAnew pid crc s) (takenIn pid crc s)

theorem takeEffect_eq (pid crc : Word) (s : State) :
    takeEffect pid crc s = cancelActivation (formSlots (sequenceAfterActivation (anewBegun pid crc s))) := rfl

/-- The blocks as a RESTART that keeps the tables forms them anew (R27, R50, R95, R115, R132, R178). -/
def keptBegun (s : State) : State :=
  reinitialise .initSafe (sectionsRestarted (raiseNotice 33 0 s).axle.sections) (raiseNotice 33 0 s)

/-- The blocks as a RESTART that leaves no safety set active empties them (R153, R178). -/
def emptiedBegun (code : Nat) (s : State) : State := reinitialiseEmpty (emptySafety (raiseNotice 33 code s))

/-- A predicate of the sequence, its tables and its records: what is left to show for every step to keep it. -/
structure SequenceRule (I : State → Prop) : Prop where
  stay : ∀ {u v}, TablesStay u v → I u → I v
  evolved : ∀ {u v}, Evolves u v → I u → I v
  proved : ∀ u, I u → I (evaluateProof u)
  lampReport : ∀ j m chs u, I u → I (takeLampReport j m chs u)
  lampSilence : ∀ j u, I u → I (lampModuleSilence j u)
  barrierReport : ∀ j m pos echo u, I u → I (takeBarrierReport j m pos echo u)
  barrierSilence : ∀ j u, I u → I (barrierModuleSilence j u)
  proving : ∀ b r u, I u → u.barrierRecord b = some r → r.provingExpiry = some u.now → I (expireProof b u)
  exitWait : ∀ b r u, I u → u.barrierRecord b = some r → r.exitWait = some u.now → I (expireExitWait b u)
  presenceReport : ∀ j m v u, I u → I (takePresenceReport j m v u)
  presenceSilence : ∀ j u, I u → I (presenceModuleSilence j u)
  begun : ∀ pid crc u, I u → u.config.pendingSet = some (pid, crc) → u.quiescent = true →
    I (activationBegun (anewBegun pid crc u))
  kept : ∀ u, I u → u.safetyActive = true → I (initSafeLeft (keptBegun u))
  emptied : ∀ code u, I u → I (emptiedBegun code u)

namespace SequenceRule

variable {I : State → Prop}

theorem activated (h : SequenceRule I) {u : State} (hu : I u) : I (activateIfQuiescent u) := by
  unfold activateIfQuiescent
  split
  next pid crc _ hpend =>
    split
    next hq =>
      have hafter := h.evolved (sequenceAfterActivation_evolves _) (h.begun pid crc u hu hpend hq)
      rw [takeEffect_eq]
      exact h.stay (cancelActivation_tablesStay _) (h.stay (.of_frame (formSlots_touches (by decide) (.refl _ _))) hafter)
    next => exact hu
  next => exact hu

theorem restartEmptied (h : SequenceRule I) (code : Nat) {u : State} (hu : I u) : I (restartEmptied code u) :=
  h.stay (.of_frame (removeStatus_touches (by decide) (evaluateGroups_touches (by decide) (.refl _ _))))
    (h.emptied code u hu)

theorem restarted (h : SequenceRule I) (m : Option RestartMode) {u : State} (hu : I u) : I (restartEffect m u) := by
  unfold restartEffect
  split
  · unfold restartKeepAccepted
    split
    next hsafe =>
      exact h.stay (.of_frame (formSlots_touches (by decide) (.refl _ _)))
        (h.evolved (leaveInitSafe_evolves _) (h.kept u hu hsafe))
    next => exact h.restartEmptied 0 hu
  · exact h.stay (cancelActivation_tablesStay _) (h.restartEmptied 1 hu)
  · exact hu

theorem finishedProof (h : SequenceRule I) (before : State) (due : Bool) {u : State} (hu : I u) :
    I (finishProof before due u) :=
  h.stay (.of_frame (finish_touches _ _ (by decide) (.refl _ _))) (h.proved u hu)

theorem answerRestart (h : SequenceRule I) (a : Arrival) (payload : List Byte) {u : State} (hu : I u) :
    I (answerRestart a payload u) := by
  unfold Machine.answerRestart
  split
  · exact h.stay (sendReply_tablesStay ..) hu
  · exact h.stay (sendReply_tablesStay ..) (h.restarted _ hu)

theorem answerConfirm (h : SequenceRule I) (a : Arrival) (payload : List Byte) {u : State} (hu : I u) :
    I (answerConfirm a payload u) := by
  unfold Machine.answerConfirm confirmEffect
  split
  · exact h.stay (sendReply_tablesStay ..) hu
  · refine h.stay (sendReply_tablesStay ..) ?_
    split
    · exact hu
    · exact h.activated (h.stay (confirmed_tablesStay u) hu)

theorem answerRestore (h : SequenceRule I) (a : Arrival) (payload : List Byte) {u : State} (hu : I u) :
    I (answerRestore a payload u) := by
  unfold Machine.answerRestore
  split
  · exact h.stay (sendReply_tablesStay ..) hu
  · exact h.stay (sendReply_tablesStay ..) (h.evolved (Evolves.refl.restoreEffect _ _ _ _) hu)

theorem stepRule (h : SequenceRule I) (may : Port → Byte → Prop) : StepRule may I I I I I :=
  have frame : ∀ {u v : State}, Touches offSequenceBlocks u v → I u → I v := fun hT => h.stay (.of_frame hT)
  { kept := fun _ hu => hu
    finished := fun _ _ u _ hu => frame (finish_touches _ _ (by decide) (.refl _ u)) hu
    proofed := fun _ _ _ _ hu => h.finishedProof _ _ hu
    settled := fun _ _ u _ hu => h.finishedProof _ _ (h.activated hu)
    heard := fun p _ u _ hu => frame (portHeard_touches p (by decide) (.refl _ u)) hu
    passed := fun p tel u hu => frame (passCopy_touches p tel (by decide) (.refl _ u)) hu
    mismatched := fun p src u hu => frame (noticeRoleMismatch_touches p src (by decide) (.refl _ u)) hu
    stranger := fun p src u hu _ =>
      frame (noticeStranger_touches p src (by decide) (State.setWindow_touches _ (by decide) (.refl _ u))) hu
    wheel := fun d payload _ hu => h.evolved (Evolves.refl.wheelReport d payload) hu
    heartbeat := fun d payload _ hu => h.evolved (Evolves.refl.heartbeatReport d payload) hu
    lampReport := fun j m chs u hu => h.lampReport j m chs u hu
    barrierReport := fun j m pos echo u hu =>
      h.evolved (Evolves.refl.tellEndedProofs u) (h.barrierReport j m pos echo u hu)
    presenceReport := fun j m v u hu => h.presenceReport j m v u hu
    acknowledge := fun a payload u _ _ hu => h.stay (answerAcknowledge_tablesStay a payload u) hu
    restore := fun a payload _ _ hu => h.answerRestore a payload hu
    confirm := fun a payload _ _ hu => h.answerConfirm a payload hu
    restart := fun a payload _ _ _ hu => h.answerRestart a payload hu
    historyRead := fun a payload u _ hu => frame (answerHistoryRead_touches a payload (by decide) (.refl _ u)) hu
    identify := fun a payload u _ hu => frame (answerIdentify_touches a payload (by decide) (.refl _ u)) hu
    stageWrite := fun a payload u _ hu => h.stay (answerStageWrite_tablesStay a payload u) hu
    stageRead := fun a payload u _ hu => h.stay (answerStageRead_tablesStay a payload u) hu
    activate := fun a payload u _ hu => h.stay (answerActivate_tablesStay a payload u) hu
    activateLoop := fun a payload u _ hu => h.stay (answerActivateLoop_tablesStay a payload u) hu
    detectorSilence := fun d r _ hu _ _ => h.evolved (Evolves.refl.detectorSilent d r) hu
    entryGap := fun i _ _ hu _ _ => h.evolved (Evolves.refl.closeEntry i) hu
    scheduledStart := fun i _ _ hu _ _ => h.evolved (Evolves.refl.startReached i) hu
    amber := fun _ hu hdue => h.evolved (Evolves.refl.moved (.redFlash hdue)) hu
    red := fun _ hu hdue => h.evolved (Evolves.refl.leaveRedFlash hdue) hu
    exitDelay := fun _ hu hdue => h.evolved (Evolves.refl.startExitLowering hdue) hu
    longClosure := fun _ hu hdue => h.evolved (Evolves.refl.moved (.longClosure hdue)) hu
    lampSilence := fun j u hu => h.lampSilence j u hu
    proving := fun b r u hu hr hdue => h.evolved (Evolves.refl.tellEndedProofs u) (h.proving b r u hu hr hdue)
    barrierSilence := fun j u hu => h.evolved (Evolves.refl.tellEndedProofs u) (h.barrierSilence j u hu)
    presenceSilence := fun j u hu => h.presenceSilence j u hu
    exitWait := fun b r u hu hr hdue => h.exitWait b r u hu hr hdue
    statusPeriod := fun u hu => frame (nextStatusPeriod_touches (by decide) (.refl _ u)) hu
    activation := fun _ hu => hu
    portSilence := fun p u hu => frame (portGoesDown_touches p (by decide) (.refl _ u)) hu
    idle := fun p u hu => frame (idleReached_touches p (by decide) (.refl _ u)) hu
    transmission := fun p u hu _ => frame (transmissionDone_touches p (by decide) (.refl _ u)) hu
    refresh := fun u hu => frame (refreshBlock_touches (by decide) (.refl _ u)) hu }

theorem step {s t : State} (h : SequenceRule I) (hreset : ∀ strap u, I (hardwareReset strap u)) (hs : I s)
    (ht : step s = .next t) : I t :=
  (h.stepRule _).step (fun strap u _ => hreset strap u)
    (fun l u hu => h.stay (.of_frame (setPending_touched l u)) hu)
    (fun u hu => h.stay (.of_frame (tick_touched u)) hu) hs ht

end SequenceRule

end Sys2Proof.Machine
end

section
/-! PROOFS. The sequencer's record through every move, activation and restart (R72), for the statement O57. -/

namespace Sys2Proof.Machine

/-! ## The sequencer's record after each move -/

/-- The timers and marks of a sequencer record are those of its state (R72). -/
structure FieldsOfPhase (q : Sequencer) : Prop where
  onset : q.onset.isSome = inClosure q.state
  amber : q.amber.isSome = true ↔ q.state = .amber
  red : q.red.isSome = true ↔ q.state = .redFlash
  exitDelay : q.exitDelay.isSome = true ↔ q.state = .exitLowering ∧ q.exitStarted = false
  exitStarted : q.exitStarted = true → q.state = .exitLowering
  longClosure : q.longClosure.isSome = true → inClosure q.state = true
  prolonged : q.prolonged = true → inClosure q.state = true ∧ q.longClosure = none

theorem sequencerSound_iff (s : State) :
    SequencerSound s ↔ (s.seq.state = .initSafe ↔ s.safetyActive = false) ∧ FieldsOfPhase s.seq :=
  ⟨fun ⟨hi, h1, h2, h3, h4, h5, h6, h7⟩ => ⟨hi, h1, h2, h3, h4, h5, h6, h7⟩,
    fun ⟨hi, h1, h2, h3, h4, h5, h6, h7⟩ => ⟨hi, h1, h2, h3, h4, h5, h6, h7⟩⟩

section
variable {s t : State}

/-- A timer that is set has the sequencer in the state it belongs to. -/
theorem FieldsOfPhase.of_amber {q : Sequencer} (h : FieldsOfPhase q) {x : Time} (hx : q.amber = some x) :
    q.state = .amber := h.amber.mp (by rw [hx]; rfl)

theorem FieldsOfPhase.of_red {q : Sequencer} (h : FieldsOfPhase q) {x : Time} (hx : q.red = some x) :
    q.state = .redFlash := h.red.mp (by rw [hx]; rfl)

theorem FieldsOfPhase.of_exitDelay {q : Sequencer} (h : FieldsOfPhase q) {x : Time} (hx : q.exitDelay = some x) :
    q.state = .exitLowering ∧ q.exitStarted = false := h.exitDelay.mp (by rw [hx]; rfl)

/-- The timers and marks that are not set outside their state. -/
theorem FieldsOfPhase.absent {q : Sequencer} (h : FieldsOfPhase q) :
    (q.state ≠ .amber → q.amber = none) ∧ (q.state ≠ .redFlash → q.red = none)
      ∧ (q.state ≠ .exitLowering → q.exitDelay = none ∧ q.exitStarted = false)
      ∧ (inClosure q.state = false → q.onset = none ∧ q.longClosure = none ∧ q.prolonged = false) := by
  obtain ⟨h1, h2, h3, h4, h5, h6, h7⟩ := h
  refine ⟨fun hne => ?_, fun hne => ?_, fun hne => ⟨?_, ?_⟩, fun hopen => ⟨?_, ?_, ?_⟩⟩
  · exact Option.not_isSome_iff_eq_none.mp fun hsome => hne (h2.mp hsome)
  · exact Option.not_isSome_iff_eq_none.mp fun hsome => hne (h3.mp hsome)
  · exact Option.not_isSome_iff_eq_none.mp fun hsome => hne (h4.mp hsome).1
  · exact (Bool.not_eq_true _).mp fun hyes => hne (h5 hyes)
  · exact Option.not_isSome_iff_eq_none.mp fun hsome => by rw [h1, hopen] at hsome; cases hsome
  · exact Option.not_isSome_iff_eq_none.mp fun hsome => by rw [h6 hsome] at hopen; cases hopen
  · exact (Bool.not_eq_true _).mp fun hyes => by rw [(h7 hyes).1] at hopen; cases hopen

/-- The state a move leaves or enters is never INIT_SAFE, and the record keeps the fields of its state. -/
theorem Move.fieldsOfPhase (m : Move s t) (h : FieldsOfPhase s.seq) :
    FieldsOfPhase t.seq ∧ (t.seq.state = .initSafe ↔ s.seq.state = .initSafe) := by
  obtain ⟨hamber, hred, hexit, hopen⟩ := h.absent
  have hlong : s.seq.prolonged = true → s.seq.longClosure = none := fun hp => (h.prolonged hp).2
  cases m with
  | amber hs hd =>
    obtain ⟨-, -, hprolonged⟩ := hopen (by rw [hs]; rfl)
    rw [enterAmber_seq]
    exact ⟨by constructor <;> simp [inClosure, hs, hred, hexit, hprolonged], by simp [hs]⟩
  | redFlash hdue =>
    have hs := h.of_amber hdue
    rw [enterRedFlash_seq]
    exact ⟨by constructor <;> simp +contextual [inClosure, hs, hexit, h.onset, hlong], by simp [hs]⟩
  | entry hdue =>
    have hs := h.of_red hdue
    rw [entryBegun_seq, State.setSeq_seq]
    exact ⟨by constructor <;> simp +contextual [inClosure, hs, hamber, hexit, h.onset, hlong], by simp [hs]⟩
  | relowered hs hd =>
    obtain ⟨-, -, hprolonged⟩ := hopen (by rw [hs]; rfl)
    rw [entryBegun_seq, closureBegun_seq]
    exact ⟨by constructor <;> simp [inClosure, hs, hamber, hred, hexit, hprolonged], by simp [hs]⟩
  | exitDelay hs hr hdelay =>
    rw [exitDelayBegun, State.setSeq_seq]
    exact ⟨by constructor <;> simp +contextual [inClosure, hs, hamber, hred, h.onset, hlong], by simp [hs]⟩
  | exitAtOnce hs hr =>
    rw [exitLoweringBegun_seq, exitPhaseBegun_seq]
    exact ⟨by constructor <;> simp +contextual [inClosure, hs, hamber, hred, h.onset, hlong], by simp [hs]⟩
  | exitStarted hdue =>
    obtain ⟨hs, -⟩ := h.of_exitDelay hdue
    rw [exitLoweringBegun_seq]
    exact ⟨by constructor <;> simp +contextual [inClosure, hs, hamber, hred, h.onset, hlong], by simp [hs]⟩
  | closed he hr =>
    have hs := h.exitStarted he
    rw [closedBegun_seq]
    exact ⟨by constructor <;> simp +contextual [inClosure, hs, hamber, hred, h.onset, hlong], by simp [hs]⟩
  | raising hs hd =>
    rw [raisingBegun_seq]
    exact ⟨by constructor <;> simp [inClosure, hs, hamber, hred, hexit], by simp [hs]⟩
  | opened hs hr =>
    obtain ⟨honset, hclosure, hprolonged⟩ := hopen (by rw [hs]; rfl)
    rw [enterState_seq]
    exact ⟨by constructor <;> simp [inClosure, hs, hamber, hred, hexit, honset, hclosure, hprolonged], by simp [hs]⟩
  | prolonged hc =>
    rw [checkProlonged_seq]
    refine ⟨⟨h.onset, h.amber, h.red, h.exitDelay, h.exitStarted, h.longClosure, fun hp => ⟨hc, ?_⟩⟩, Iff.rfl⟩
    rw [Bool.or_eq_true, decide_eq_true_eq] at hp
    exact hp.elim hlong id
  | longClosure hdue =>
    have hc : inClosure s.seq.state = true := h.longClosure (by rw [hdue]; rfl)
    rw [longClosureReached_seq]
    exact ⟨⟨h.onset, h.amber, h.red, h.exitDelay, h.exitStarted, fun _ => hc, fun _ => ⟨hc, rfl⟩⟩, Iff.rfl⟩

/-- The blocks a move changes. -/
abbrev moveBlocks : List Block := [.portA, .portB, .seq, .lamp, .barrier, .cmd, .fault, .queue .command]

theorem Move.touches (m : Move s t) : Touches moveBlocks s t := by
  have hframe : ∀ {u v : State}, SequenceFrame sequenceClasses u v → Touches moveBlocks u v :=
    fun h => h.touches.mono (by decide)
  have hrefl := SequenceFrame.refl sequenceClasses s
  have hentry : ∀ u, SequenceFrame sequenceClasses u (entryBegun u) := fun u =>
    giveCommands_sequenceFrame _ _ (by decide) (enterState_sequenceFrame _ (by decide) (.refl _ u))
  cases m with
  | amber => exact enterAmber_touches (by decide) (.refl _ s)
  | redFlash => exact enterRedFlash_touches (by decide) (.refl _ s)
  | entry => exact hframe ((setSeq_sequenceFrame _ hrefl).trans (hentry _))
  | relowered => exact ((closureBegun_touched s).mono (by decide)).trans (hframe (hentry _))
  | exitDelay => exact hframe (setSeq_sequenceFrame _ (exitPhaseBegun_sequenceFrame hrefl))
  | exitAtOnce => exact hframe (exitLoweringBegun_sequenceFrame (exitPhaseBegun_sequenceFrame hrefl))
  | exitStarted => exact hframe (exitLoweringBegun_sequenceFrame hrefl)
  | closed => exact hframe (closedBegun_sequenceFrame hrefl)
  | raising => exact hframe (raisingBegun_sequenceFrame (by decide) (by decide) hrefl)
  | opened => exact hframe (enterState_sequenceFrame _ (by decide) hrefl)
  | prolonged => exact (checkProlonged_touched s).mono (by decide)
  | longClosure => exact longClosureReached_touches (by decide) (.refl _ s)

/-- The blocks that moves, the axle counter, the tracker and passage reports change. -/
abbrev evolvedBlocks : List Block := [.axle, .tracker, .queue .status] ++ moveBlocks

theorem Evolves.touches (h : Evolves s t) : Touches evolvedBlocks s t := by
  induction h with
  | refl => exact .refl _ s
  | counted _ hT ih => exact ih.trans (hT.mono (by decide))
  | reported o r _ ih => exact ih.trans (handPassageReport_touches o r (by decide) (.refl _ _))
  | moved _ m ih => exact ih.trans (m.touches.mono (by decide))

theorem Evolves.fieldsOfPhase (h : Evolves s t) (hs : FieldsOfPhase s.seq) :
    FieldsOfPhase t.seq ∧ (t.seq.state = .initSafe ↔ s.seq.state = .initSafe) := by
  induction h with
  | refl => exact ⟨hs, Iff.rfl⟩
  | counted _ hT ih => rwa [hT.seq_eq]
  | @reported u o r _ ih =>
    have hT : Touches [.portA, .portB, .fault, .queue .status] u (handPassageReport o r u) :=
      handPassageReport_touches o r (by decide) (.refl _ _)
    rwa [hT.seq_eq]
  | moved _ m ih =>
    obtain ⟨hfields, hsafe⟩ := m.fieldsOfPhase ih.1
    exact ⟨hfields, hsafe.trans ih.2⟩

end

/-! ## The record formed anew -/

section
variable {s t : State}

theorem fieldsOfPhase_initSafe : FieldsOfPhase seqInitSafe := by constructor <;> decide

theorem fieldsOfPhase_opened : FieldsOfPhase { seqInitSafe with state := .opened } := by constructor <;> decide

theorem initSafeLeft_fieldsOfPhase (h : s.seq = seqInitSafe) : FieldsOfPhase (initSafeLeft s).seq := by
  rw [initSafeLeft_seq, h]
  constructor <;> simp [seqInitSafe, inClosure]

/-- A record formed anew in INIT_SAFE or OPEN, as the sequence starts from it. -/
theorem activationBegun_fieldsOfPhase {st : SeqState} (hst : st = .initSafe ∨ st = .opened)
    (h : s.seq = { seqInitSafe with state := st }) :
    FieldsOfPhase (activationBegun s).seq ∧ (activationBegun s).seq.state ≠ .initSafe := by
  rcases hst with rfl | rfl
  · rw [activationBegun_of_initSafe (by rw [h])]
    exact ⟨initSafeLeft_fieldsOfPhase h, by simp [initSafeLeft_seq]⟩
  · rw [activationBegun_of_opened (by rw [h]), giveCommands_seq, h]
    exact ⟨fieldsOfPhase_opened, by simp⟩

theorem activationBegun_touched (s : State) : Touches moveBlocks s (activationBegun s) := by
  unfold activationBegun
  split
  · exact (initSafeLeft_touched s).mono (by decide)
  · exact giveCommands_touches _ _ (by decide) (.refl _ s)

theorem anewBegun_seq (pid crc : Word) (s : State) : (anewBegun pid crc s).seq = { seqInitSafe with state := s.seq.state } := by
  obtain ⟨-, -, -, hseq, -⟩ := reinitialise_blocks s.seq.state (sectionsAnew pid crc s) (takenIn pid crc s)
  exact hseq

theorem anewBegun_config (pid crc : Word) (s : State) : (anewBegun pid crc s).config
    = { s.config with tables := s.stagedSafety, activeIdentity := pid, activeCrc := crc } := by
  obtain ⟨hconfig, -⟩ := reinitialise_blocks s.seq.state (sectionsAnew pid crc s) (takenIn pid crc s)
  rw [anewBegun, hconfig]
  rfl

theorem keptBegun_seq (s : State) : (keptBegun s).seq = seqInitSafe := by
  obtain ⟨-, -, -, hseq, -⟩ := reinitialise_blocks .initSafe (sectionsRestarted (raiseNotice 33 0 s).axle.sections)
    (raiseNotice 33 0 s)
  exact hseq

theorem keptBegun_config (s : State) : (keptBegun s).config = s.config := by
  obtain ⟨hconfig, -⟩ := reinitialise_blocks .initSafe (sectionsRestarted (raiseNotice 33 0 s).axle.sections)
    (raiseNotice 33 0 s)
  exact hconfig

theorem emptiedBegun_seq (code : Nat) (s : State) : (emptiedBegun code s).seq = seqInitSafe := by
  obtain ⟨-, hseq, -⟩ := reinitialiseEmpty_blocks (emptySafety (raiseNotice 33 code s))
  exact hseq

theorem emptiedBegun_config (code : Nat) (s : State) : (emptiedBegun code s).config
    = { s.config with tables := safetyEmpty, activeIdentity := 0, activeCrc := 0 } :=
  (reinitialiseEmpty_touches (L := [.portA, .portB, .axle, .tracker, .seq, .lamp, .barrier, .cmd, .fault, .queue .command,
    .statusPeriod]) (by decide) (.refl _ (emptySafety (raiseNotice 33 code s)))).config_eq

end

/-! ## The invariant -/

/-- A sound sequencer record, with no pending identity 0 (R72, R174). -/
def SequencerKept (s : State) : Prop := SequencerSound s ∧ ∀ x, s.config.pendingSet = some x → x.1 ≠ 0

section
variable {s t : State}

theorem SequencerKept.of_seq (h : SequencerKept s) (hq : t.seq = s.seq)
    (hi : t.config.activeIdentity = s.config.activeIdentity)
    (hp : ∀ x, t.config.pendingSet = some x → s.config.pendingSet = some x ∨ x.1 ≠ 0) : SequencerKept t := by
  obtain ⟨hsound, hpending⟩ := h
  refine ⟨?_, fun x hx => (hp x hx).elim (hpending x) id⟩
  simpa only [SequencerSound, State.safetyActive, hq, hi] using hsound

theorem SequencerKept.frame {L : List Block} (h : SequencerKept s) (hT : Touches L s t) (hS : .seq ∉ L := by decide)
    (hC : .config ∉ L := by decide) : SequencerKept t :=
  h.of_seq (hT.seq_eq hS) (by rw [hT.config_eq hC]) fun x hx => .inl (by rwa [hT.config_eq hC] at hx)

theorem SequencerKept.of_fields (hf : FieldsOfPhase t.seq) (hi : t.seq.state = .initSafe ↔ t.safetyActive = false)
    (hp : ∀ x, t.config.pendingSet = some x → x.1 ≠ 0) : SequencerKept t := ⟨(sequencerSound_iff t).mpr ⟨hi, hf⟩, hp⟩

theorem SequencerKept.evolved (h : SequencerKept s) (hev : Evolves s t) : SequencerKept t := by
  obtain ⟨hsound, hpending⟩ := h
  obtain ⟨hi, hfields⟩ := (sequencerSound_iff s).mp hsound
  obtain ⟨hfields', hsafe⟩ := hev.fieldsOfPhase hfields
  have hconfig := hev.touches.config_eq
  refine .of_fields hfields' (hsafe.trans ?_) (by rw [hconfig]; exact hpending)
  rw [hi, State.safetyActive, State.safetyActive, hconfig]

theorem sequencerKept_rule : SequenceRule SequencerKept where
  stay hT h := h.of_seq hT.touches.seq_eq hT.identity hT.pending
  evolved hev h := h.evolved hev
  proved _ h := h.of_seq rfl rfl fun _ hx => .inl hx
  lampReport j m chs u h := h.frame (takeLampReport_touches j m chs (List.Subset.refl _) (.refl _ u))
  lampSilence j u h := h.frame (lampModuleSilence_touches j (List.Subset.refl _) (.refl _ u))
  barrierReport j m pos echo u h := h.frame (takeBarrierReport_touches j m pos echo (List.Subset.refl _) (.refl _ u))
  barrierSilence j u h := h.frame (barrierModuleSilence_touches j (List.Subset.refl _) (.refl _ u))
  proving b _ u h _ _ := h.frame (expireProof_touches b (List.Subset.refl _) (.refl _ u))
  exitWait b _ u h _ _ := h.frame (expireExitWait_touches b (List.Subset.refl _) (.refl _ u))
  presenceReport j m v u h := h.frame (takePresenceReport_touches j m v (List.Subset.refl _) (.refl _ u))
  presenceSilence j u h := h.frame (presenceModuleSilence_touches j (List.Subset.refl _) (.refl _ u))
  begun pid crc u h hpend hq := by
    obtain ⟨hfields, hstate⟩ := activationBegun_fieldsOfPhase (state_of_quiescent hq) (anewBegun_seq pid crc u)
    have hconfig := (activationBegun_touched (anewBegun pid crc u)).config_eq
    have hid : pid ≠ 0 := h.2 _ hpend
    refine .of_fields hfields ⟨fun hi => absurd hi hstate, fun hsafe => ?_⟩ ?_
    · rw [State.safetyActive, hconfig, anewBegun_config] at hsafe
      exact absurd (by simpa using hsafe) hid
    · rw [hconfig, anewBegun_config]
      exact h.2
  kept u h hsafe := by
    have hconfig := ((initSafeLeft_touched (keptBegun u)).config_eq).trans (keptBegun_config u)
    refine .of_fields (initSafeLeft_fieldsOfPhase (keptBegun_seq u)) ⟨fun hi => ?_, fun hno => ?_⟩ (by rw [hconfig]; exact h.2)
    · rw [initSafeLeft_seq] at hi
      cases hi
    · rw [State.safetyActive, hconfig] at hno
      rw [State.safetyActive, hno] at hsafe
      cases hsafe
  emptied code u h := by
    have hseq := emptiedBegun_seq code u
    have hconfig := emptiedBegun_config code u
    refine .of_fields (by rw [hseq]; exact fieldsOfPhase_initSafe) ?_ (by rw [hconfig]; exact h.2)
    rw [hseq, State.safetyActive, hconfig]
    exact ⟨fun _ => rfl, fun _ => rfl⟩

theorem hardwareReset_sequencerKept (strap : BitVec 12) (s : State) : SequencerKept (hardwareReset strap s) :=
  .of_fields fieldsOfPhase_initSafe ⟨fun _ => rfl, fun _ => rfl⟩ fun x hx => by cases hx

theorem sequencerKept_step (h : SequencerKept s) (ht : step s = .next t) : SequencerKept t :=
  sequencerKept_rule.step hardwareReset_sequencerKept h ht

end

end Sys2Proof.Machine
end

section
/-! PROOFS. What every step keeps of the lamp records (R106, R112), of the road closed on demand (R75) and of
CROSSING_PROVED (R129), for the statement O57. -/

namespace Sys2Proof.Machine

/-! ## The lamp records -/

theorem forall_mem_modify {α : Type} {p : α → Prop} {l : List α} {f : α → α} (i : Nat) (h : ∀ x ∈ l, p x)
    (hf : ∀ x, p x → p (f x)) : ∀ x ∈ l.modify i f, p x := by
  intro x hx
  obtain ⟨k, hk⟩ := List.mem_iff_getElem?.mp hx
  rw [List.getElem?_modify] at hk
  obtain ⟨y, hy, rfl⟩ := Option.map_eq_some_iff.mp hk
  have hp := h y (List.mem_of_getElem? hy)
  split
  · exact hf y hp
  · exact hp

section
variable {n : Nat} {r : LampRecord}

/-- Runs within `n`, and of two opposed ones one is 0 (R106). -/
structure RunsWithin (n : Nat) (r : LampRecord) : Prop where
  badLit : r.badLit ≤ n
  goodLit : r.goodLit ≤ n
  stuckRun : r.stuckRun ≤ n
  goodDark : r.goodDark ≤ n
  lit : r.badLit = 0 ∨ r.goodLit = 0
  dark : r.stuckRun = 0 ∨ r.goodDark = 0

theorem lampRunsSound_iff : lampRunsSound n r = true ↔ RunsWithin n r := by
  simp only [lampRunsSound, Bool.and_eq_true, Bool.or_eq_true, decide_eq_true_eq]
  exact ⟨fun ⟨⟨⟨⟨⟨h1, h2⟩, h3⟩, h4⟩, h5⟩, h6⟩ => ⟨h1, h2, h3, h4, h5, h6⟩,
    fun ⟨h1, h2, h3, h4, h5, h6⟩ => ⟨⟨⟨⟨⟨h1, h2⟩, h3⟩, h4⟩, h5⟩, h6⟩⟩

theorem runUp_le (n run : Nat) : runUp n run ≤ n := Nat.min_le_right ..

theorem judgeSample_runsWithin (k : SampleKind) (h : RunsWithin n r) : RunsWithin n (judgeSample n k r) := by
  obtain ⟨h1, h2, h3, h4, h5, h6⟩ := h
  cases k with
  | goodLit => exact ⟨Nat.zero_le _, runUp_le .., h3, h4, .inl rfl, h6⟩
  | badLit => exact ⟨runUp_le .., Nat.zero_le _, h3, h4, .inr rfl, h6⟩
  | stuckOn => exact ⟨h1, h2, runUp_le .., Nat.zero_le _, h5, .inr rfl⟩
  | goodDark => exact ⟨h1, h2, Nat.zero_le _, runUp_le .., h5, .inl rfl⟩
  | highDark => exact ⟨h1, h2, Nat.zero_le _, Nat.zero_le _, h5, .inl rfl⟩

theorem lampUnproved_runsWithin (h : RunsWithin n r) : RunsWithin n (lampUnproved r) :=
  ⟨Nat.zero_le _, Nat.zero_le _, h.stuckRun, h.goodDark, .inl rfl, h.dark⟩

theorem lampFresh_runsWithin (n : Nat) : RunsWithin n lampFresh :=
  ⟨Nat.zero_le _, Nat.zero_le _, Nat.zero_le _, Nat.zero_le _, .inl rfl, .inl rfl⟩

end

section
variable {s t : State}

theorem lampsSound_iff : LampsSound s ↔ (∀ l r, s.lampRecord l = some r → RunsWithin (nLampOf s.crTab) r)
    ∧ ∀ m ∈ s.lamp.modules, m.redCount ≤ 10 := by
  simp only [LampsSound, lampRunsSound_iff]

theorem LampsSound.of_lamp (h : LampsSound s) (hl : t.lamp = s.lamp) (hc : t.config.tables = s.config.tables) :
    LampsSound t := by
  have hcr : t.crTab = s.crTab := by rw [State.crTab, hc]; rfl
  rwa [LampsSound, lampRecord_congr hl, hl, hcr]

theorem LampsSound.frame {L : List Block} (h : LampsSound s) (hT : Touches L s t) (hL : .lamp ∉ L := by decide)
    (hC : .config ∉ L := by decide) : LampsSound t := h.of_lamp (hT.lamp_eq hL) (by rw [hT.config_eq hC])

/-- Every lamp's record as `f` makes it of the one before, red report counts within their bound. -/
theorem LampsSound.mapped {L : List Block} {f : Nat → LampRecord → LampRecord} (h : LampsSound s) (hT : Touches L s t)
    (hrec : ∀ l, t.lampRecord l = (s.lampRecord l).map (f l))
    (hf : ∀ l r, RunsWithin (nLampOf s.crTab) r → RunsWithin (nLampOf s.crTab) (f l r))
    (hm : ∀ m ∈ t.lamp.modules, m.redCount ≤ 10) (hC : .config ∉ L := by decide) : LampsSound t := by
  obtain ⟨hruns, -⟩ := lampsSound_iff.mp h
  refine lampsSound_iff.mpr ⟨fun l r hr => ?_, hm⟩
  rw [hrec] at hr
  obtain ⟨r0, hr0, rfl⟩ := Option.map_eq_some_iff.mp hr
  rw [hT.crTab_eq hC]
  exact hf l r0 (hruns l r0 hr0)

theorem setOnset_lampsSound (h : LampsSound s) : LampsSound (setOnset s) := by
  have hlamp : (setOnset s).lamp.modules = s.lamp.modules := by
    rw [setOnset, unproveRedLamps, endLampFaults_lamp]
    rfl
  refine h.mapped (setOnset_touched s) (setOnset_lampRecord s) (fun l r hr => ?_) (by rw [hlamp]; exact h.2)
  split
  · exact lampUnproved_runsWithin hr
  · exact hr

theorem redBegins_lampsSound (h : LampsSound s) : LampsSound (redBegins s) := by
  refine ⟨h.1, fun m hm => ?_⟩
  obtain ⟨x, -, rfl⟩ := List.mem_map.mp hm
  exact Nat.zero_le _

theorem closureBegun_lampsSound (h : LampsSound s) : LampsSound (closureBegun s) :=
  redBegins_lampsSound (setOnset_lampsSound h)

theorem enterState_lampsSound (st : SeqState) (h : LampsSound s) : LampsSound (enterState st s) :=
  h.frame (enterState_touches (L := [.portA, .portB, .seq, .cmd, .fault, .queue .command]) st (by decide) (.refl _ s))

theorem Move.lampsSound (m : Move s t) (h : LampsSound s) : LampsSound t := by
  have hframe : ∀ {u v : State}, SequenceFrame sequenceClasses u v → LampsSound u → LampsSound v :=
    fun hF hu => hu.frame hF.touches
  have hrefl := SequenceFrame.refl sequenceClasses s
  have hentry : ∀ u, SequenceFrame sequenceClasses u (entryBegun u) := fun u =>
    giveCommands_sequenceFrame _ _ (by decide) (enterState_sequenceFrame _ (by decide) (.refl _ u))
  cases m with
  | amber => exact enterState_lampsSound _ (setOnset_lampsSound h)
  | redFlash => exact enterState_lampsSound _ (redBegins_lampsSound h)
  | entry => exact hframe ((setSeq_sequenceFrame _ hrefl).trans (hentry _)) h
  | relowered => exact hframe (hentry _) (closureBegun_lampsSound h)
  | exitDelay => exact hframe (setSeq_sequenceFrame _ (exitPhaseBegun_sequenceFrame hrefl)) h
  | exitAtOnce => exact hframe (exitLoweringBegun_sequenceFrame (exitPhaseBegun_sequenceFrame hrefl)) h
  | exitStarted => exact hframe (exitLoweringBegun_sequenceFrame hrefl) h
  | closed => exact hframe (closedBegun_sequenceFrame hrefl) h
  | raising => exact hframe (raisingBegun_sequenceFrame (by decide) (by decide) hrefl) h
  | opened => exact hframe (enterState_sequenceFrame _ (by decide) hrefl) h
  | prolonged => exact h.frame (checkProlonged_touched s)
  | longClosure => exact h.frame (longClosureReached_touches (L := [.seq, .fault]) (by decide) (.refl _ s))

theorem Evolves.lampsSound (hev : Evolves s t) (h : LampsSound s) : LampsSound t := by
  induction hev with
  | refl => exact h
  | counted _ hT ih => exact ih.frame hT
  | reported o r _ ih =>
    exact ih.frame (handPassageReport_touches (L := [.portA, .portB, .fault, .queue .status]) o r (by decide) (.refl _ _))
  | moved _ m ih => exact m.lampsSound ih

/-! ## Reports and silence of lamp modules -/

theorem lampJudged_runsWithin {j l : Nat} {o : Option ChannelReport} {q : Option LampRecord}
    (h : ∀ r, q = some r → RunsWithin (nLampOf s.crTab) r) :
    ∀ r, lampJudged s j l o q = some r → RunsWithin (nLampOf s.crTab) r := by
  unfold lampJudged
  split
  · exact h
  · split
    · split
      · exact h
      next k _ =>
        intro r hr
        obtain ⟨r0, hr0, rfl⟩ := Option.map_eq_some_iff.mp hr
        exact judgeSample_runsWithin k (h r0 hr0)
    · exact h

theorem takeLampReport_lampsSound (j m : Nat) (chs : List ChannelReport) (h : LampsSound s) :
    LampsSound (takeLampReport j m chs s) := by
  have hT : Touches [.lamp, .fault] s (takeLampReport j m chs s) :=
    takeLampReport_touches j m chs (by decide) (.refl _ s)
  obtain ⟨hruns, hcounts⟩ := lampsSound_iff.mp h
  refine lampsSound_iff.mpr ⟨fun l r hr => ?_, ?_⟩
  · rw [takeLampReport_lampRecord] at hr
    rw [hT.crTab_eq]
    exact lampJudged_runsWithin (hruns l) r hr
  · rw [takeLampReport_modules]
    exact forall_mem_modify (p := fun m : LampModule => m.redCount ≤ 10) j hcounts fun _ _ => Nat.min_le_right ..

theorem lampModuleSilence_lampsSound (j : Nat) (h : LampsSound s) : LampsSound (lampModuleSilence j s) := by
  refine h.mapped (f := fun l r => if decide ((lampOf s.eqTab l).module = j) then lampFresh else r)
    (lampModuleSilence_touches (L := [.lamp, .fault]) j (by decide) (.refl _ s))
    (fun l => ?_) (fun l r hr => ?_) ?_
  · rw [State.lampRecord, lampModuleSilence_lamp]
    exact mapLamps_record _ _ _ l
  · split
    · exact lampFresh_runsWithin _
    · exact hr
  · rw [lampModuleSilence_lamp]
    exact forall_mem_modify (p := fun m : LampModule => m.redCount ≤ 10) j h.2 fun _ hx => hx

/-! ## The lamp supervisor formed anew -/

theorem lampsSound_of_initial {u : State} (h : t.lamp = lampInitial u) : LampsSound t := by
  refine lampsSound_iff.mpr ⟨fun l r hr => ?_, fun m hm => ?_⟩
  · rw [State.lampRecord, h] at hr
    obtain ⟨o, ho, rfl⟩ := (by simpa [Option.join_eq_some_iff] using hr :
      ∃ o, (lampInitial u).lamps[l]? = some o ∧ o = some r)
    obtain ⟨x, -, hx⟩ := List.mem_map.mp (List.mem_of_getElem? ho)
    split at hx
    · obtain rfl := Option.some.inj hx
      exact lampFresh_runsWithin _
    · cases hx
  · rw [h] at hm
    obtain ⟨x, -, rfl⟩ := List.mem_map.mp hm
    exact Nat.zero_le _

theorem lampsSound_of_empty (h : t.lamp = lampEmpty) : LampsSound t := by
  refine lampsSound_iff.mpr ⟨fun l r hr => ?_, fun m hm => ?_⟩
  · rw [State.lampRecord, h] at hr
    obtain ⟨o, ho, rfl⟩ := (by simpa [Option.join_eq_some_iff] using hr :
      ∃ o, lampEmpty.lamps[l]? = some o ∧ o = some r)
    cases (List.mem_replicate.mp (List.mem_of_getElem? ho)).2
  · rw [h] at hm
    cases hm

theorem initSafeLeft_lampsSound (h : LampsSound s) : LampsSound (initSafeLeft s) :=
  (enterState_lampsSound _ (closureBegun_lampsSound h)).frame
    (giveCommands_touches (L := [.portA, .portB, .barrier, .cmd, .fault, .queue .command]) _ _ (by decide) (.refl _ _))

theorem activationBegun_lampsSound (h : LampsSound s) : LampsSound (activationBegun s) := by
  unfold activationBegun
  split
  · exact initSafeLeft_lampsSound h
  · exact h.frame (giveCommands_touches (L := [.portA, .portB, .barrier, .cmd, .fault, .queue .command]) _ _ (by decide)
      (.refl _ _))

theorem reinitialise_lampsSound (st : SeqState) (l : List TrackSection) (s : State) :
    LampsSound (reinitialise st l s) := by
  obtain ⟨-, -, -, -, hlamp, -⟩ := reinitialise_blocks st l s
  exact lampsSound_of_initial hlamp

theorem lampsSound_rule : SequenceRule LampsSound where
  stay hT h := h.of_lamp hT.touches.lamp_eq hT.tables
  evolved hev h := hev.lampsSound h
  proved _ h := h.of_lamp rfl rfl
  lampReport j m chs _ h := takeLampReport_lampsSound j m chs h
  lampSilence j _ h := lampModuleSilence_lampsSound j h
  barrierReport j m pos echo u h :=
    h.frame (takeBarrierReport_touches j m pos echo (List.Subset.refl _) (.refl _ u))
  barrierSilence j u h := h.frame (barrierModuleSilence_touches j (List.Subset.refl _) (.refl _ u))
  proving b _ u h _ _ := h.frame (expireProof_touches b (List.Subset.refl _) (.refl _ u))
  exitWait b _ u h _ _ := h.frame (expireExitWait_touches b (List.Subset.refl _) (.refl _ u))
  presenceReport j m v u h := h.frame (takePresenceReport_touches j m v (List.Subset.refl _) (.refl _ u))
  presenceSilence j u h := h.frame (presenceModuleSilence_touches j (List.Subset.refl _) (.refl _ u))
  begun _ _ _ _ _ _ := activationBegun_lampsSound (reinitialise_lampsSound ..)
  kept _ _ _ := initSafeLeft_lampsSound (reinitialise_lampsSound ..)
  emptied code u _ := by
    obtain ⟨-, -, hlamp, -⟩ := reinitialiseEmpty_blocks (emptySafety (raiseNotice 33 code u))
    exact lampsSound_of_empty hlamp

theorem lampsSound_step (h : LampsSound s) (ht : step s = .next t) : LampsSound t :=
  lampsSound_rule.step (fun _ _ => lampsSound_of_empty rfl) h ht

end

end Sys2Proof.Machine
end

section
/-! PROOFS. What the sequencer and the tracker watch (R46, R47, R75): every event ends by reacting to it, or leaves it
as it was. -/

namespace Sys2Proof.Machine

/-! ## What is watched -/

/-- What demand and the supervision of an approach are read of is the same, and so is the sequencer's state. -/
structure SameWatch (s t : State) : Prop where
  tables : t.config.tables = s.config.tables
  sections : t.axle.sections = s.axle.sections
  detectorOk : t.detectorOk = s.detectorOk
  tracker : t.tracker = s.tracker
  phase : t.seq.state = s.seq.state

section
variable {s t : State}

theorem SameWatch.detTab_eq (h : SameWatch s t) : t.detTab = s.detTab := by rw [State.detTab, h.tables]; rfl

theorem SameWatch.unsupervised_eq (h : SameWatch s t) : t.unsupervised = s.unsupervised := by
  have hsec : t.sectionUntrusted = s.sectionUntrusted := by
    funext trk n
    simp only [State.sectionUntrusted, State.sectionAt, h.sections]
  funext a
  simp only [State.unsupervised, State.overflowed, h.detTab_eq, h.detectorOk, hsec, h.tracker]

theorem SameWatch.demand_eq (h : SameWatch s t) : t.demand = s.demand := by
  have hclear : t.sectionClear = s.sectionClear := by
    funext trk n
    simp only [State.sectionClear, State.sectionAt, h.sections]
  simp only [State.demand, State.recordDemand, State.islandDemand, State.supervisionDemand, h.detTab_eq, hclear,
    h.unsupervised_eq, h.tracker]

theorem SameWatch.of_eq (hc : t.config.tables = s.config.tables) (ha : t.axle = s.axle) (ht : t.tracker = s.tracker)
    (hq : t.seq.state = s.seq.state) : SameWatch s t :=
  ⟨hc, by rw [ha], by funext d; rw [State.detectorOk, ha]; rfl, ht, hq⟩

theorem SameWatch.of_touches {L : List Block} (hT : Touches L s t) (hC : .config ∉ L := by decide)
    (hA : .axle ∉ L := by decide) (hR : .tracker ∉ L := by decide) (hS : .seq ∉ L := by decide) : SameWatch s t :=
  .of_eq (by rw [hT.config_eq hC]) (hT.axle_eq hA) (hT.tracker_eq hR) (by rw [hT.seq_eq hS])

theorem TablesStay.sameWatch (h : TablesStay s t) : SameWatch s t :=
  .of_eq h.tables h.touches.axle_eq h.touches.tracker_eq (by rw [h.touches.seq_eq])

theorem detectorOk_of_record {d : Nat} {r : DetectorRecord} (h : s.detectorRecord d = some r) :
    s.detectorOk d = decide (r.state = .ok) := by
  have hjoin : (s.axle.detectors[d]?).join = some r := h
  rw [State.detectorOk, hjoin]

/-- A detector's record replaced by one that is OK where it was changes nothing watched. -/
theorem putDetector_sameWatch {d : Nat} {r r' : DetectorRecord} (h : s.detectorRecord d = some r)
    (hok : r'.state = .ok ↔ r.state = .ok) : SameWatch s (putDetector d r' s) := by
  refine ⟨rfl, rfl, funext fun x => ?_, rfl, rfl⟩
  by_cases hx : x = d
  · subst hx
    have hlen : x < s.axle.detectors.length := by
      by_contra hge
      rw [State.detectorRecord, List.getElem?_eq_none (Nat.not_lt.mp hge)] at h
      cases h
    rw [detectorOk_of_record h, State.detectorOk, putDetector, State.setAxle_axle, List.getElem?_set_self hlen]
    exact decide_eq_decide.mpr hok
  · rw [State.detectorOk, State.detectorOk, putDetector, State.setAxle_axle, List.getElem?_set_ne (Ne.symm hx)]

end

/-! ## The rule for a predicate of what is watched -/

/-- A predicate of what is watched that the reaction to it establishes: what is left to show for every step to keep it. -/
structure WatchRule (I : State → Prop) : Prop where
  stay : ∀ {u v}, SameWatch u v → I u → I v
  reacted : ∀ u, I (react u)
  moves : KeptByMoves I
  begun : ∀ pid crc u, u.quiescent = true → I (sequenceAfterActivation (anewBegun pid crc u))
  kept : ∀ u, u.safetyActive = true → I (leaveInitSafe (keptBegun u))
  emptied : ∀ code u, I (emptiedBegun code u)

namespace WatchRule

variable {I : State → Prop} {s t : State} {d : Nat} {r : DetectorRecord}

theorem frame (hI : WatchRule I) {L : List Block} (h : I s) (hT : Touches L s t) (hC : .config ∉ L := by decide)
    (hA : .axle ∉ L := by decide) (hR : .tracker ∉ L := by decide) (hS : .seq ∉ L := by decide) : I t :=
  hI.stay (.of_touches hT hC hA hR hS) h

theorem gapEffect (hI : WatchRule I) (gap : Option Byte) (seq : Byte) (h : I t) : I (gapEffect d gap seq t) := by
  cases gap with
  | none => exact h
  | some expected => exact hI.reacted _

theorem failDetector (hI : WatchRule I) (c : DetectorCause) (hr : t.detectorRecord d = some r) (h : I t)
    (r' : DetectorRecord) (hstate : r'.state = r.state) : I (failDetector d c r' t) := by
  unfold Machine.failDetector
  dsimp only
  split
  next hc => exact hI.stay (putDetector_sameWatch hr (by simp [← hstate, hc])) h
  next => exact hI.reacted _

theorem putDetector_record {r' : DetectorRecord} (hr : t.detectorRecord d = some r) :
    (putDetector d r' t).detectorRecord d = some r' := by
  have hlen : d < t.axle.detectors.length := by
    by_contra hge
    rw [State.detectorRecord, List.getElem?_eq_none (Nat.not_lt.mp hge)] at hr
    cases hr
  rw [State.detectorRecord, putDetector, State.setAxle_axle, List.getElem?_set_self hlen]
  rfl

theorem gapEffect_record {gap : Option Byte} {seq : Byte} :
    (Machine.gapEffect d gap seq t).detectorRecord = t.detectorRecord := by
  funext x
  rw [State.detectorRecord, gapEffect_axle]
  rfl

theorem heartbeatReport (hI : WatchRule I) (payload : List Byte) (h : I t) : I (heartbeatReport d payload t) := by
  unfold Machine.heartbeatReport
  split
  · exact h
  next r hr =>
    split
    · exact h
    · split
      · unfold takeHeartbeat
        dsimp only
        have hput := hI.stay (putDetector_sameWatch hr (r' := { setDetectorTimer d r t with lastSeq := some (byteAt payload 0) })
          Iff.rfl) h
        split
        · exact hI.reacted _
        · refine hI.failDetector .headFault ?_ (hI.gapEffect _ _ hput) _ rfl
          rw [gapEffect_record]
          exact putDetector_record hr
      · exact h

theorem wheelReport (hI : WatchRule I) (payload : List Byte) (h : I t) : I (wheelReport d payload t) := by
  unfold Machine.wheelReport
  split
  · exact h
  · split
    · exact hI.reacted _
    · exact h

theorem closeEntry (hI : WatchRule I) (i : Nat) (h : I t) : I (closeEntry i t) := by
  unfold Machine.closeEntry
  split
  · exact h
  · exact hI.reacted _

theorem startReached (hI : WatchRule I) (i : Nat) (h : I t) : I (startReached i t) := by
  unfold Machine.startReached
  split
  · exact h
  · exact hI.reacted _

theorem restoreEffect (hI : WatchRule I) (reason : Option Reason) (mode : Option RestoreMode) (trk n : Nat) (h : I t) :
    I (restoreEffect reason mode trk n t) := by
  unfold Machine.restoreEffect
  split
  next m =>
    cases m with
    | sweep => exact hI.reacted _
    | direct => exact hI.reacted _
  · exact h

theorem activated (hI : WatchRule I) (h : I t) : I (activateIfQuiescent t) := by
  unfold activateIfQuiescent
  split
  next pid crc _ _ =>
    split
    next hq =>
      rw [takeEffect_eq]
      exact hI.stay (cancelActivation_tablesStay _).sameWatch (hI.frame (hI.begun pid crc t hq) (formSlots_touched _))
    next => exact h
  next => exact h

theorem restartEmptied (hI : WatchRule I) (code : Nat) (t : State) : I (restartEmptied code t) :=
  hI.frame (hI.emptied code t) (removeStatus_touches (L := [.portA, .portB, .fault, .queue .status])
    (by decide) (evaluateGroups_touches (by decide) (.refl _ _)))

theorem restarted (hI : WatchRule I) (m : Option RestartMode) (h : I t) : I (restartEffect m t) := by
  unfold restartEffect
  split
  · unfold restartKeepAccepted
    split
    next hsafe => exact hI.frame (hI.kept t hsafe) (formSlots_touched _)
    next => exact hI.restartEmptied 0 t
  · exact hI.stay (cancelActivation_tablesStay _).sameWatch (hI.restartEmptied 1 t)
  · exact h

theorem finishedProof (hI : WatchRule I) (before : State) (due : Bool) (h : I t) : I (finishProof before due t) :=
  hI.frame h (finishProof_touches (L := [.portA, .portB, .barrier, .queue .status]) before due (by decide) (.refl _ t))

theorem answered (hI : WatchRule I) (a : Arrival) (kind : Byte) (payload : List Byte) (h : I t) :
    I (sendReply a kind payload t) := hI.frame h (sendReply_touched a kind payload t)

theorem answerRestore (hI : WatchRule I) (a : Arrival) (payload : List Byte) (h : I t) : I (answerRestore a payload t) := by
  unfold Machine.answerRestore
  split
  · exact hI.answered _ _ _ h
  · exact hI.answered _ _ _ (hI.restoreEffect _ _ _ _ h)

theorem answerConfirm (hI : WatchRule I) (a : Arrival) (payload : List Byte) (h : I t) : I (answerConfirm a payload t) := by
  unfold Machine.answerConfirm confirmEffect
  split
  · exact hI.answered _ _ _ h
  · refine hI.answered _ _ _ ?_
    split
    · exact h
    · exact hI.activated (hI.stay (confirmed_tablesStay t).sameWatch h)

theorem answerRestart (hI : WatchRule I) (a : Arrival) (payload : List Byte) (h : I t) : I (answerRestart a payload t) := by
  unfold Machine.answerRestart
  split
  · exact hI.answered _ _ _ h
  · exact hI.answered _ _ _ (hI.restarted _ h)

theorem tables (hI : WatchRule I) {f : Arrival → List Byte → State → State} (hf : ∀ a pl u, TablesStay u (f a pl u))
    (a : Arrival) (payload : List Byte) (h : I t) : I (f a payload t) := hI.stay (hf a payload t).sameWatch h

/-- Barriers and lamps are not watched, nor are ports, flags and time. -/
abbrev unwatchedBlocks : List Block := [.lamp, .barrier, .freeCounter] ++ offSequenceBlocks

theorem stepRule (hI : WatchRule I) (may : Port → Byte → Prop) : StepRule may I I I I I :=
  have frame : ∀ {u v : State}, Touches unwatchedBlocks u v → I u → I v := fun hT h => hI.frame h hT
  { kept := fun _ h => h
    finished := fun _ _ u _ h => frame (finish_touches _ _ (by decide) (.refl _ u)) h
    proofed := fun _ _ _ _ h => hI.finishedProof _ _ h
    settled := fun _ _ _ _ h => hI.finishedProof _ _ (hI.activated h)
    heard := fun p _ u _ h => frame (portHeard_touches p (by decide) (.refl _ u)) h
    passed := fun p tel u h => frame (passCopy_touches p tel (by decide) (.refl _ u)) h
    mismatched := fun p src u h => frame (noticeRoleMismatch_touches p src (by decide) (.refl _ u)) h
    stranger := fun p src u h _ =>
      frame (noticeStranger_touches p src (by decide) (State.setWindow_touches _ (by decide) (.refl _ u))) h
    wheel := fun _ payload _ h => hI.wheelReport payload h
    heartbeat := fun _ payload _ h => hI.heartbeatReport payload h
    lampReport := fun j m chs u h => frame (takeLampReport_touches j m chs (by decide) (.refl _ u)) h
    barrierReport := fun j m pos echo u h => hI.moves.tellEndedProofs u
      (frame (takeBarrierReport_touches j m pos echo (by decide) (.refl _ u)) h)
    presenceReport := fun j m v u h => frame (takePresenceReport_touches j m v (by decide) (.refl _ u)) h
    acknowledge := fun a payload u _ _ h => hI.stay (answerAcknowledge_tablesStay a payload u).sameWatch h
    restore := fun a payload _ _ h => hI.answerRestore a payload h
    confirm := fun a payload _ _ h => hI.answerConfirm a payload h
    restart := fun a payload _ _ _ h => hI.answerRestart a payload h
    historyRead := fun a payload u _ h => frame (answerHistoryRead_touches a payload (by decide) (.refl _ u)) h
    identify := fun a payload u _ h => frame (answerIdentify_touches a payload (by decide) (.refl _ u)) h
    stageWrite := fun a payload _ _ h => hI.tables answerStageWrite_tablesStay a payload h
    stageRead := fun a payload _ _ h => hI.tables answerStageRead_tablesStay a payload h
    activate := fun a payload _ _ h => hI.tables answerActivate_tablesStay a payload h
    activateLoop := fun a payload _ _ h => hI.tables answerActivateLoop_tablesStay a payload h
    detectorSilence := fun _ _ _ h hr _ => hI.failDetector .silent hr h _ rfl
    entryGap := fun i _ _ h _ _ => hI.closeEntry i h
    scheduledStart := fun i _ _ h _ _ => hI.startReached i h
    amber := fun _ h hdue => hI.moves.moved h (.redFlash hdue)
    red := fun _ h hdue => hI.moves.leaveRedFlash h hdue
    exitDelay := fun _ h hdue => hI.moves.startExitLowering h hdue
    longClosure := fun _ h hdue => hI.moves.moved h (.longClosure hdue)
    lampSilence := fun j u h => frame (lampModuleSilence_touches j (by decide) (.refl _ u)) h
    proving := fun b _ u h _ _ => hI.moves.tellEndedProofs u (frame (expireProof_touches b (by decide) (.refl _ u)) h)
    barrierSilence := fun j u h =>
      hI.moves.tellEndedProofs u (frame (barrierModuleSilence_touches j (by decide) (.refl _ u)) h)
    presenceSilence := fun j u h => frame (presenceModuleSilence_touches j (by decide) (.refl _ u)) h
    exitWait := fun b _ u h _ _ => frame (expireExitWait_touches b (by decide) (.refl _ u)) h
    statusPeriod := fun u h => frame (nextStatusPeriod_touches (by decide) (.refl _ u)) h
    activation := fun _ h => h
    portSilence := fun p u h => frame (portGoesDown_touches p (by decide) (.refl _ u)) h
    idle := fun p u h => frame (idleReached_touches p (by decide) (.refl _ u)) h
    transmission := fun p u h _ => frame (transmissionDone_touches p (by decide) (.refl _ u)) h
    refresh := fun u h => frame (refreshBlock_touches (by decide) (.refl _ u)) h }

theorem step (hI : WatchRule I) (hreset : ∀ strap u, I (hardwareReset strap u)) (h : I s) (ht : step s = .next t) : I t :=
  (hI.stepRule _).step (fun strap u _ => hreset strap u)
    (fun l u hu => hI.frame hu (setPending_touched l u)) (fun u hu => hI.frame hu (tick_touched u)) h ht

end WatchRule

/-! ## The road is closed on demand -/

section
variable {s t : State}

theorem Move.demand_eq (m : Move s t) : t.demand = s.demand :=
  State.demand_congr m.touches.config_eq m.touches.axle_eq m.touches.tracker_eq

theorem DemandSound.of_phase (st : SeqState) (h : t.seq.state = st) (ho : st ≠ .opened := by decide)
    (hr : st ≠ .raising := by decide) : DemandSound t := by
  rintro (hs | hs)
  · exact absurd (h.symm.trans hs) ho
  · exact absurd (h.symm.trans hs) hr

/-- The road opens, or is left open, only without demand (R75). -/
theorem demandSound_moves : KeptByMoves DemandSound where
  moved := by
    intro s t h m
    have hdemand := m.demand_eq
    cases m with
    | amber => exact .of_phase .amber (congrArg Sequencer.state (enterAmber_seq s))
    | redFlash => exact .of_phase .redFlash (congrArg Sequencer.state (enterRedFlash_seq s))
    | entry => exact .of_phase .entryLowering (congrArg Sequencer.state (entryBegun_seq _))
    | relowered => exact .of_phase .entryLowering (congrArg Sequencer.state (entryBegun_seq _))
    | exitDelay => exact .of_phase .exitLowering rfl
    | exitAtOnce => exact .of_phase .exitLowering (by rw [exitLoweringBegun_seq, exitPhaseBegun_seq])
    | exitStarted hdue =>
      intro ho
      rw [exitLoweringBegun_seq] at ho
      exact hdemand.trans (h ho)
    | closed => exact .of_phase .closed (congrArg Sequencer.state (closedBegun_seq s))
    | raising hs hd => exact fun _ => hdemand.trans hd
    | opened hs => exact fun _ => hdemand.trans (h (.inr hs))
    | prolonged =>
      intro ho
      rw [checkProlonged_seq] at ho
      exact hdemand.trans (h ho)
    | longClosure =>
      intro ho
      rw [longClosureReached_seq] at ho
      exact hdemand.trans (h ho)

/-- Acting on demand closes the road on demand, whatever was (R75). -/
theorem actOnDemand_demandSound (s : State) : DemandSound (actOnDemand s) := by
  by_cases h : DemandSound s
  · exact demandSound_moves.actOnDemand h
  · obtain ⟨hs, hd⟩ : (s.seq.state = .opened ∨ s.seq.state = .raising) ∧ s.demand = true := by
      simpa [DemandSound] using h
    rcases hs with hs | hs
    · have hact : actOnDemand s = enterAmber s := by rw [actOnDemand, hs]; exact if_pos hd
      rw [hact]
      exact .of_phase .amber (congrArg Sequencer.state (enterAmber_seq s))
    · have hact : actOnDemand s = relower s := by rw [actOnDemand, hs]; exact if_pos hd
      rw [hact]
      exact demandSound_moves.checkEntryLowered (t := entryBegun (closureBegun s))
        (.of_phase .entryLowering (congrArg Sequencer.state (entryBegun_seq _)))
        (congrArg Sequencer.state (entryBegun_seq _))

theorem demandSound_rule : WatchRule DemandSound where
  stay hW h := by rwa [DemandSound, hW.phase, hW.demand_eq]
  reacted _ := actOnDemand_demandSound _
  moves := demandSound_moves
  begun pid crc u _ := by
    unfold sequenceAfterActivation
    split <;> exact actOnDemand_demandSound _
  kept _ _ := actOnDemand_demandSound _
  emptied code u := .of_phase .initSafe (congrArg Sequencer.state (emptiedBegun_seq code u))

theorem demandSound_step (h : DemandSound s) (ht : step s = .next t) : DemandSound t :=
  demandSound_rule.step (fun _ _ => .of_phase .initSafe rfl) h ht

end

end Sys2Proof.Machine
end

section
/-! PROOFS. CROSSING_PROVED is asserted exactly while its conditions hold (R129), for the statement O57. -/

namespace Sys2Proof.Machine

section
variable {s t : State}

/-- The end of an event that evaluates the crossing proof leaves it exact, whatever was before. -/
theorem finishProof_proofSound (before : State) (due : Bool) (u : State) : ProofSound (finishProof before due u) := by
  have hT : Touches [.portA, .portB, .barrier, .queue .status] u (finishProof before due u) :=
    finishProof_touches before due (by decide) (.refl _ u)
  have hproof : (finishProof before due u).crossingProof = u.crossingProof :=
    crossingProof_congr_states hT.config_eq hT.lamp_eq (by rw [hT.seq_eq])
      fun b => by rw [finishProof_barrierRecord]
  rw [ProofSound, hproof, finishProof_barrier]

theorem TablesStay.proofSound (h : TablesStay s t) (hs : ProofSound s) : ProofSound t :=
  hs.of_touches h.touches h.tables

/-- Only events that end by evaluating the crossing proof change what it is read of. -/
theorem proofSound_rule (may : Port → Byte → Prop) :
    StepRule may ProofSound ProofSound (fun _ => True) (fun _ => True) ProofSound :=
  have frame : ∀ {u v : State}, Touches offSequenceBlocks u v → ProofSound u → ProofSound v :=
    fun hT h => (TablesStay.of_frame hT).proofSound h
  { kept := fun _ h => h
    finished := fun _ _ u _ h => frame (finish_touches _ _ (by decide) (.refl _ u)) h
    proofed := fun _ _ _ _ _ => finishProof_proofSound ..
    settled := fun _ _ _ _ _ => finishProof_proofSound ..
    heard := fun p _ u _ h => frame (portHeard_touches p (by decide) (.refl _ u)) h
    passed := fun p tel u h => frame (passCopy_touches p tel (by decide) (.refl _ u)) h
    mismatched := fun p src u h => frame (noticeRoleMismatch_touches p src (by decide) (.refl _ u)) h
    stranger := fun p src u h _ =>
      frame (noticeStranger_touches p src (by decide) (State.setWindow_touches _ (by decide) (.refl _ u))) h
    wheel := fun _ _ _ _ => trivial
    heartbeat := fun _ _ _ _ => trivial
    lampReport := fun _ _ _ _ _ => trivial
    barrierReport := fun _ _ _ _ _ _ => trivial
    presenceReport := fun _ _ _ _ _ => trivial
    acknowledge := fun a payload u _ _ h => (answerAcknowledge_tablesStay a payload u).proofSound h
    restore := fun _ _ _ _ _ => trivial
    confirm := fun _ _ _ _ _ => trivial
    restart := fun _ _ _ _ _ _ => trivial
    historyRead := fun a payload u _ h => frame (answerHistoryRead_touches a payload (by decide) (.refl _ u)) h
    identify := fun a payload u _ h => frame (answerIdentify_touches a payload (by decide) (.refl _ u)) h
    stageWrite := fun a payload u _ h => (answerStageWrite_tablesStay a payload u).proofSound h
    stageRead := fun a payload u _ h => (answerStageRead_tablesStay a payload u).proofSound h
    activate := fun a payload u _ h => (answerActivate_tablesStay a payload u).proofSound h
    activateLoop := fun a payload u _ h => (answerActivateLoop_tablesStay a payload u).proofSound h
    detectorSilence := fun _ _ _ _ _ _ => trivial
    entryGap := fun _ _ _ _ _ _ => trivial
    scheduledStart := fun _ _ _ _ _ _ => trivial
    amber := fun _ _ _ => trivial
    red := fun _ _ _ => trivial
    exitDelay := fun _ _ _ => trivial
    longClosure := fun _ _ _ => trivial
    lampSilence := fun _ _ _ => trivial
    proving := fun _ _ _ _ _ _ => trivial
    barrierSilence := fun _ _ _ => trivial
    presenceSilence := fun _ _ _ => trivial
    exitWait := fun _ _ _ _ _ _ => trivial
    statusPeriod := fun u h => frame (nextStatusPeriod_touches (by decide) (.refl _ u)) h
    activation := fun _ _ => trivial
    portSilence := fun p u h => frame (portGoesDown_touches p (by decide) (.refl _ u)) h
    idle := fun p u h => frame (idleReached_touches p (by decide) (.refl _ u)) h
    transmission := fun p u h _ => frame (transmissionDone_touches p (by decide) (.refl _ u)) h
    refresh := fun u h => frame (refreshBlock_touches (by decide) (.refl _ u)) h }

theorem hardwareReset_proofSound (strap : BitVec 12) (s : State) : ProofSound (hardwareReset strap s) := by
  rw [ProofSound, crossingProof_of_not_closed]
  · rfl
  · show SeqState.initSafe ≠ .closed
    decide

theorem proofSound_step (h : ProofSound s) (ht : step s = .next t) : ProofSound t :=
  (proofSound_rule _).step (fun strap u _ => hardwareReset_proofSound strap u)
    (fun l u hu => (TablesStay.of_frame (setPending_touched l u)).proofSound hu)
    (fun u hu => (TablesStay.of_frame (tick_touched u)).proofSound hu) h ht

end

end Sys2Proof.Machine
end

section
/-! PROOFS. Which barriers have a record: the same ones through every move, report and expiry (R116). -/

namespace Sys2Proof.Machine

/-! ## Which barriers have a record -/

/-- Which places of the barrier supervisor hold a record. -/
def State.barrierShape (s : State) : List Bool := s.barrier.barriers.map Option.isSome

section
variable {s t : State}

theorem barrierShape_congr (h : t.barrier.barriers = s.barrier.barriers) : t.barrierShape = s.barrierShape := by
  rw [State.barrierShape, h]
  rfl

/-- A record put where there was one leaves the places of a list. -/
theorem map_isSome_set {α : Type} {l : List (Option α)} {i : Nat} {x : α} (h : (l[i]?).join = some x) (y : α) :
    (l.set i (some y)).map Option.isSome = l.map Option.isSome := by
  have hplace : l[i]? = some (some x) := by simpa [Option.join_eq_some_iff] using h
  rw [List.map_set]
  exact set_of_getElem? (by rw [List.getElem?_map, hplace]; rfl)

theorem putBarrier_shape {b : Nat} {r : BarrierRecord} (h : s.barrierRecord b = some r) (r' : BarrierRecord) :
    (putBarrier b r' s).barrierShape = s.barrierShape := map_isSome_set h r'

theorem changeBarrier_shape {b : Nat} {r : BarrierRecord} (h : s.barrierRecord b = some r) (was now : BarrierRecord) :
    (changeBarrier b was now s).barrierShape = s.barrierShape :=
  (barrierShape_congr (congrArg BarrierSupervisor.barriers (changeBarrier_barrier b was now s))).trans (putBarrier_shape h now)

theorem giveCommand_shape (c : BarrierCommand) (b : Nat) (s : State) : (giveCommand c b s).barrierShape = s.barrierShape := by
  cases hb : s.barrierRecord b with
  | none => simp only [giveCommand, hb]
  | some r =>
    exact (barrierShape_congr (congrArg BarrierSupervisor.barriers (giveCommand_barrier hb))).trans (putBarrier_shape hb _)

theorem giveCommands_shape (c : BarrierCommand) (bs : List Nat) (s : State) :
    (giveCommands c bs s).barrierShape = s.barrierShape := by
  induction bs generalizing s with
  | nil => rfl
  | cons b rest ih => rw [giveCommands, ih, giveCommand_shape]

theorem holdBarrier_shape (b : Nat) (s : State) : (holdBarrier b s).barrierShape = s.barrierShape := by
  unfold holdBarrier
  split
  · rfl
  next r hr => exact putBarrier_shape hr _

theorem holdBarriers_shape (bs : List Nat) (s : State) : (holdBarriers bs s).barrierShape = s.barrierShape := by
  induction bs generalizing s with
  | nil => rfl
  | cons b rest ih => rw [holdBarriers, ih, holdBarrier_shape]

theorem startExitHold_shape (s : State) : (startExitHold s).barrierShape = s.barrierShape := by
  unfold startExitHold
  split
  · exact holdBarriers_shape ..
  · exact giveCommands_shape ..

theorem releaseBarriers_shape (bs : List Nat) (s : State) : (releaseBarriers bs s).barrierShape = s.barrierShape := by
  induction bs generalizing s with
  | nil => rfl
  | cons b rest ih =>
    rw [releaseBarriers, ih]
    unfold releaseBarrier
    split
    · rfl
    next r hr =>
      split
      · rw [giveCommand_shape, putBarrier_shape hr]
      · rfl

theorem takeBackBarriers_shape (bs : List Nat) (s : State) : (takeBackBarriers bs s).barrierShape = s.barrierShape := by
  induction bs generalizing s with
  | nil => rfl
  | cons b rest ih =>
    rw [takeBackBarriers, ih]
    unfold takeBackBarrier
    split
    · rfl
    · split
      · rw [holdBarrier_shape, giveCommand_shape]
      · rfl

theorem occupancyChanged_shape (was : Bool) (s : State) : (occupancyChanged was s).barrierShape = s.barrierShape := by
  unfold occupancyChanged
  split
  · split
    · exact takeBackBarriers_shape ..
    · rw [barrierShape_congr (congrArg BarrierSupervisor.barriers (endObstructed_barrier _)), releaseBarriers_shape]
  · rfl

/-- A frame without the barriers keeps their places. -/
theorem Touches.barrierShape_eq {L : List Block} (h : Touches L s t) (hB : .barrier ∉ L := by decide) :
    t.barrierShape = s.barrierShape := barrierShape_congr (by rw [h.barrier_eq hB])

theorem enterState_shape (st : SeqState) (s : State) : (enterState st s).barrierShape = s.barrierShape :=
  barrierShape_congr (by rw [enterState_barrier])

theorem Move.barrierShape_eq (m : Move s t) : t.barrierShape = s.barrierShape := by
  cases m with
  | amber => exact barrierShape_congr (by rw [enterAmber_barrier])
  | redFlash => exact barrierShape_congr (by rw [enterRedFlash_barrier])
  | entry => exact (giveCommands_shape ..).trans (enterState_shape ..)
  | relowered =>
    exact (giveCommands_shape ..).trans ((enterState_shape ..).trans (closureBegun_touched s).barrierShape_eq)
  | exitDelay => exact enterState_shape ..
  | exitAtOnce => exact (startExitHold_shape _).trans (enterState_shape ..)
  | exitStarted => exact startExitHold_shape _
  | closed => exact enterState_shape ..
  | raising =>
    exact (giveCommands_shape ..).trans ((enterState_shape ..).trans
      (clearProlonged_touches (L := [.seq, .fault]) (by decide) (State.setSeq_touches _ (by decide) (.refl _ s))).barrierShape_eq)
  | opened => exact enterState_shape ..
  | prolonged => exact (checkProlonged_touched s).barrierShape_eq
  | longClosure =>
    exact (longClosureReached_touches (L := [.seq, .fault]) (by decide) (.refl _ s)).barrierShape_eq

theorem Evolves.barrierShape_eq (hev : Evolves s t) : t.barrierShape = s.barrierShape := by
  induction hev with
  | refl => rfl
  | counted _ hT ih => exact hT.barrierShape_eq.trans ih
  | reported o r _ ih =>
    exact (handPassageReport_touches (L := [.portA, .portB, .fault, .queue .status]) o r (by decide)
      (.refl _ _)).barrierShape_eq.trans ih
  | moved _ m ih => exact m.barrierShape_eq.trans ih

theorem takeBarrierReport_shape (j m : Nat) (pos : BarrierPosition) (echo : Option BarrierCommand) (s : State) :
    (takeBarrierReport j m pos echo s).barrierShape = s.barrierShape := by
  have hheard : (barrierModuleHeard j (moduleOf s.eqTab m).silence s).barrierShape = s.barrierShape :=
    barrierShape_congr (by rw [barrierModuleHeard_barrier])
  unfold takeBarrierReport
  dsimp only
  split
  · exact hheard
  · split
    · exact hheard
    next hr => exact (changeBarrier_shape hr ..).trans hheard

theorem expireProof_shape (b : Nat) (s : State) : (expireProof b s).barrierShape = s.barrierShape := by
  unfold expireProof
  split
  · rfl
  next hr => exact changeBarrier_shape hr ..

theorem silenceBarrier_shape (b : Nat) (s : State) : (silenceBarrier b s).barrierShape = s.barrierShape := by
  unfold silenceBarrier
  split
  · rfl
  · split
    · rfl
    next hr => exact changeBarrier_shape hr ..

theorem barrierModuleSilence_shape (j : Nat) (s : State) : (barrierModuleSilence j s).barrierShape = s.barrierShape := by
  have hsilenced : (moduleSilenced j s).barrierShape = s.barrierShape :=
    barrierShape_congr (by rw [moduleSilenced_barrier])
  show State.barrierShape (match barrierOfModule (moduleSilenced j s).eqTab j with
    | none => moduleSilenced j s
    | some b => silenceBarrier b (moduleSilenced j s)) = _
  split
  · exact hsilenced
  · exact (silenceBarrier_shape ..).trans hsilenced

theorem expireExitWait_shape (b : Nat) (s : State) : (expireExitWait b s).barrierShape = s.barrierShape := by
  unfold expireExitWait
  split
  · rfl
  next r hr =>
    exact (enterFault_touches (L := [.fault]) _ _ _ (by decide) (.refl _ _)).barrierShape_eq.trans (putBarrier_shape hr _)

theorem takePresenceReport_shape (j m : Nat) (v : Presence) (s : State) :
    (takePresenceReport j m v s).barrierShape = s.barrierShape :=
  (occupancyChanged_shape ..).trans (barrierShape_congr (by rw [presenceModuleHeard_barrier]))

theorem presenceModuleSilence_shape (j : Nat) (s : State) :
    (presenceModuleSilence j s).barrierShape = s.barrierShape := by
  rw [presenceModuleSilence_eq, occupancyChanged_shape]
  exact barrierShape_congr (by rw [presenceSilenced_barrier])

theorem initSafeLeft_shape (s : State) : (initSafeLeft s).barrierShape = s.barrierShape :=
  (giveCommands_shape ..).trans ((enterState_shape ..).trans (closureBegun_touched s).barrierShape_eq)

theorem activationBegun_shape (s : State) : (activationBegun s).barrierShape = s.barrierShape := by
  unfold activationBegun
  split
  · exact initSafeLeft_shape s
  · exact giveCommands_shape ..

theorem barrierShape_initial {u : State} (h : t.barrier = barrierInitial u) :
    t.barrierShape = (List.range 4).map (barrierInUse u.eqTab) := by
  rw [State.barrierShape, h, barrierInitial, List.map_map]
  refine List.map_congr_left fun b _ => ?_
  rw [Function.comp_apply]
  split
  next hb => exact hb.symm
  next hb => exact ((Bool.not_eq_true _).mp hb).symm

end

end Sys2Proof.Machine
end

section
/-! PROOFS. The barrier records through every move, report, expiry and restart (R76, R118, R126, R127), and the statement
O57. -/

namespace Sys2Proof.Machine

/-! ## One record -/

/-- The record of barrier `b` has the fields of its state, is commanded as the sequencer `q` says, and held only while
exit lowering goes on (R76, R118, R126, R127). -/
def RecordFits (et : List Word) (q : Sequencer) (b : Nat) (r : BarrierRecord) : Prop :=
  barrierFieldsSound r = true
    ∧ (barrierInUse et b = true → ∀ c, commandOf q (barrierEntryRole et b) = some c → r.commanded = c)
    ∧ (r.held = true → q.state = .exitLowering ∧ q.exitStarted = true ∧ r.commanded = .raise
        ∧ barrierExitRole et b = true)

section
variable {s t : State} {r r' : BarrierRecord} {et : List Word} {q q' : Sequencer} {b : Nat}

theorem barriersSound_iff : BarriersSound s ↔ ∀ b r, s.barrierRecord b = some r → RecordFits s.eqTab s.seq b r := Iff.rfl

theorem givenNow_fieldsSound (s : State) (c : BarrierCommand) (ms : Nat) (h : barrierFieldsSound r = true) :
    barrierFieldsSound (givenNow s c ms r) = true := by
  simp only [barrierFieldsSound, givenNow, Bool.and_eq_true] at h ⊢
  exact ⟨by simp, h.2⟩

theorem recordHeld_fieldsSound (limit : Time) (h : barrierFieldsSound r = true) :
    barrierFieldsSound (recordHeld limit r) = true := by
  simp only [barrierFieldsSound, recordHeld, Bool.and_eq_true, Bool.or_true] at h ⊢
  exact ⟨h.1, trivial⟩

theorem recordReleased_fieldsSound (h : barrierFieldsSound r = true) : barrierFieldsSound (recordReleased r) = true := by
  simp only [barrierFieldsSound, recordReleased, Bool.and_eq_true, Option.isNone_none, Bool.true_or] at h ⊢
  exact ⟨h.1, trivial⟩

theorem recordLost_fieldsSound (cause : BarrierCause) (h : barrierFieldsSound r = true) :
    barrierFieldsSound (recordLost cause r) = true := by
  simp only [barrierFieldsSound, recordLost, Bool.and_eq_true] at h ⊢
  exact ⟨by simp, h.2⟩

theorem recordProved_fieldsSound (h : barrierFieldsSound r = true) : barrierFieldsSound (recordProved r) = true := by
  have hstate : provedState r.commanded ≠ .notProved := by cases r.commanded <;> decide
  simp only [barrierFieldsSound, recordProved, Bool.and_eq_true] at h ⊢
  exact ⟨by simp [hstate], h.2⟩

theorem silenceOver_fieldsSound (h : barrierFieldsSound r = true) : barrierFieldsSound (silenceOver r) = true := by
  unfold silenceOver
  split
  next hsilent =>
    simp only [barrierFieldsSound, hsilent.1, hsilent.2, Option.isSome_some] at h ⊢
    exact h
  next => exact h

/-- A report keeps the fields sound, the command and the hold (R120, R121). -/
theorem reportedRecord_kept (st : SeqState) (pos : BarrierPosition) (echo : Option BarrierCommand)
    (h : barrierFieldsSound r = true) : barrierFieldsSound (reportedRecord st pos echo r) = true
      ∧ (reportedRecord st pos echo r).commanded = r.commanded ∧ (reportedRecord st pos echo r).held = r.held := by
  have hplaced : barrierFieldsSound { r with lastPosition := some pos } = true := h
  have hover : ∀ x : BarrierRecord, barrierFieldsSound x = true → x.commanded = r.commanded → x.held = r.held →
      barrierFieldsSound (silenceOver x) = true ∧ (silenceOver x).commanded = r.commanded
        ∧ (silenceOver x).held = r.held := by
    intro x hx hc hh
    refine ⟨silenceOver_fieldsSound hx, ?_, ?_⟩ <;> (unfold silenceOver; split <;> assumption)
  unfold reportedRecord
  dsimp only
  split
  · exact ⟨hplaced, rfl, rfl⟩
  · unfold reportOnRecord
    split_ifs
    · exact hover _ (recordLost_fieldsSound _ hplaced) rfl rfl
    · exact hover _ (recordProved_fieldsSound hplaced) rfl rfl
    · exact hover _ hplaced rfl rfl
    · exact hover _ (recordLost_fieldsSound _ hplaced) rfl rfl
    · exact hover _ hplaced rfl rfl
    · exact hover _ hplaced rfl rfl

/-- A record keeps fitting where only its state changes. -/
theorem RecordFits.rewritten (h : RecordFits et q b r) (hf : barrierFieldsSound r' = true)
    (hc : r'.commanded = r.commanded) (hh : r'.held = r.held) : RecordFits et q b r' := by
  obtain ⟨-, hcmd, hheld⟩ := h
  refine ⟨hf, fun hu c hq => hc.trans (hcmd hu c hq), fun hx => ?_⟩
  rw [hc]
  exact hheld (hh.symm.trans hx)

/-- A record keeps fitting where the sequencer's new state commands the same. -/
theorem RecordFits.of_phase (h : RecordFits et q b r) (hc : ∀ e, commandOf q' e = commandOf q e)
    (hh : q.state = .exitLowering → q.exitStarted = true → q'.state = .exitLowering ∧ q'.exitStarted = true) :
    RecordFits et q' b r := by
  obtain ⟨hf, hcmd, hheld⟩ := h
  refine ⟨hf, fun hu c hq => hcmd hu c ((hc _).symm.trans hq), fun hx => ?_⟩
  obtain ⟨hst, hstarted, hrest⟩ := hheld hx
  obtain ⟨hst', hstarted'⟩ := hh hst hstarted
  exact ⟨hst', hstarted', hrest⟩

/-- A record not held that is given a command fits a sequencer state that says so. -/
theorem RecordFits.given (s : State) (ms : Nat) {c : BarrierCommand} (hf : barrierFieldsSound r = true)
    (hn : r.held = false) (hc : ∀ x, commandOf q (barrierEntryRole et b) = some x → c = x) :
    RecordFits et q b (givenNow s c ms r) :=
  ⟨givenNow_fieldsSound s c ms hf, fun _ => hc,
    fun hx => absurd (hn.symm.trans hx) Bool.false_ne_true⟩

/-- A record not held and commanded as the sequencer's state says fits. -/
theorem RecordFits.commanded (hf : barrierFieldsSound r = true) (hn : r.held = false)
    (hc : barrierInUse et b = true → ∀ x, commandOf q (barrierEntryRole et b) = some x → r.commanded = x) :
    RecordFits et q b r := ⟨hf, hc, fun hx => by rw [hx] at hn; cases hn⟩

/-- Nothing is held but while exit lowering goes on. -/
theorem RecordFits.not_held (h : RecordFits et q b r) (hq : q.state = .exitLowering → q.exitStarted = false) :
    r.held = false := by
  obtain ⟨-, -, hheld⟩ := h
  refine (Bool.not_eq_true _).mp fun hx => ?_
  obtain ⟨hst, hstarted, -⟩ := hheld hx
  rw [hq hst] at hstarted
  cases hstarted

theorem entryRole_of_exitRole (h : barrierExitRole et b = true) : barrierEntryRole et b = false := by
  simp only [barrierExitRole, barrierEntryRole, decide_eq_true_eq, decide_eq_false_iff_not] at h ⊢
  omega

theorem inUse_of_exitRole (h : barrierExitRole et b = true) : barrierInUse et b = true := by
  rw [barrierInUse, h, Bool.or_true]

end

/-! ## The invariant -/

/-- Sound barrier records, at the places of a table, with a sequencer's record that has the fields of its state. -/
structure BarriersKept (s : State) : Prop where
  sound : BarriersSound s
  fields : FieldsOfPhase s.seq
  places : s.barrierShape.length = 4

section
variable {s t : State}

theorem BarriersKept.place_lt (h : s.barrierShape.length = 4) {b : Nat} {r : BarrierRecord}
    (hr : s.barrierRecord b = some r) : b < 4 := by
  have hlen := lt_of_barrierRecord_some hr
  rwa [← List.length_map (f := Option.isSome), ← State.barrierShape, h] at hlen

/-- Every record as `f` makes it of the one before. -/
theorem BarriersKept.mapped {f : Nat → BarrierRecord → BarrierRecord} (h : BarriersKept s)
    (hrec : ∀ b < 4, t.barrierRecord b = (s.barrierRecord b).map (f b)) (hplaces : t.barrierShape = s.barrierShape)
    (heq : t.eqTab = s.eqTab) (hq : FieldsOfPhase t.seq)
    (hf : ∀ b < 4, ∀ r, s.barrierRecord b = some r → RecordFits s.eqTab s.seq b r → RecordFits s.eqTab t.seq b (f b r)) :
    BarriersKept t := by
  have hlen : t.barrierShape.length = 4 := by rw [hplaces, h.places]
  refine ⟨fun b r hr => ?_, hq, hlen⟩
  have hb := BarriersKept.place_lt hlen hr
  rw [hrec b hb] at hr
  obtain ⟨r0, hr0, rfl⟩ := Option.map_eq_some_iff.mp hr
  have hfits := hf b hb r0 hr0 (h.sound b r0 hr0)
  rwa [← heq] at hfits

/-- The records as they were, under a new sequencer record. -/
theorem BarriersKept.same (h : BarriersKept s) (hrec : t.barrierRecord = s.barrierRecord)
    (hplaces : t.barrierShape = s.barrierShape) (heq : t.eqTab = s.eqTab) (hq : FieldsOfPhase t.seq)
    (hf : ∀ b < 4, ∀ r, s.barrierRecord b = some r → RecordFits s.eqTab s.seq b r → RecordFits s.eqTab t.seq b r) :
    BarriersKept t :=
  h.mapped (f := fun _ r => r) (fun b _ => by rw [hrec]; exact Option.map_id'.symm) hplaces heq hq hf

theorem BarriersKept.of_blocks (h : BarriersKept s) (hb : t.barrier.barriers = s.barrier.barriers)
    (heq : t.eqTab = s.eqTab) (hq : t.seq = s.seq) : BarriersKept t :=
  h.same (by funext b; rw [State.barrierRecord, hb]; rfl) (barrierShape_congr hb) heq (by rw [hq]; exact h.fields)
    fun b _ r _ hr => by rwa [hq]

theorem BarriersKept.frame {L : List Block} (h : BarriersKept s) (hT : Touches L s t) (hB : .barrier ∉ L := by decide)
    (hC : .config ∉ L := by decide) (hS : .seq ∉ L := by decide) : BarriersKept t :=
  h.of_blocks (by rw [hT.barrier_eq hB]) (hT.eqTab_eq hC) (hT.seq_eq hS)

/-! ## The moves -/

theorem entryBegun_barrierRecord (s : State) {b : Nat} (hb : b < 4) : (entryBegun s).barrierRecord b
    = (s.barrierRecord b).map fun r =>
        if barrierEntryRole s.eqTab b then givenNow s .lower (tLowerMaxOf s.crTab) r else r := by
  have hframe : SequenceFrame sequenceClasses s (enterState .entryLowering s) :=
    enterState_sequenceFrame _ (by decide) (.refl _ s)
  rw [entryBegun, giveCommands_barrierRecord, enterState_barrierRecord, hframe.givenNow_eq, hframe.crTab_eq,
    entryBarriers, map_if_mem_picked hb]
  rfl

/-- LOWER given to the ENTRY barriers out of a state in which every barrier is commanded up (R80, R90). -/
theorem entryBegun_barriersKept {u : State} (h : BarriersKept s) (hrec : u.barrierRecord = s.barrierRecord)
    (hplaces : u.barrierShape = s.barrierShape) (heq : u.eqTab = s.eqTab) (hq : FieldsOfPhase (entryBegun u).seq)
    (hup : ∀ e, commandOf s.seq e = some .raise) (hst : s.seq.state ≠ .exitLowering) : BarriersKept (entryBegun u) := by
  have htab : (entryBegun u).eqTab = s.eqTab := by
    have hgiven : Touches [.portA, .portB, .seq, .barrier, .cmd, .fault, .queue .command] u (entryBegun u) :=
      giveCommands_touches _ _ (by decide) (enterState_touches _ (by decide) (.refl _ u))
    rw [hgiven.eqTab_eq, heq]
  refine h.mapped (fun b hb => by rw [entryBegun_barrierRecord u hb, hrec])
    (((giveCommands_shape ..).trans (enterState_shape ..)).trans hplaces) htab hq fun b _ r _ hr => ?_
  have hn := hr.not_held fun hx => absurd hx hst
  rw [heq, entryBegun_seq]
  dsimp only
  split
  next hentry => exact .given u _ hr.1 hn fun x hx => by simpa [commandOf, hentry] using hx
  next hexit =>
    refine .commanded hr.1 hn fun hu x hx => ?_
    have hx' : BarrierCommand.raise = x := by simpa [commandOf, hexit] using hx
    rw [← hx']
    exact hr.2.1 hu .raise (hup _)

/-- Exit lowering starts with every EXIT barrier commanded up (R83, R126). -/
theorem RecordFits.exitLowered {et : List Word} {q q' : Sequencer} {b : Nat} {r : BarrierRecord} {u : State}
    (h : RecordFits et q b r) (heq : u.eqTab = et) (hn : r.held = false)
    (hst : q'.state = .exitLowering) (hstarted : q'.exitStarted = true)
    (hc : ∀ e, commandOf q e = some (if e then .lower else .raise)) :
    RecordFits et q' b (exitLowered u b r) := by
  subst heq
  have hcommand : ∀ e, commandOf q' e = if e then some .lower else none := fun e => by
    cases e <;> simp [commandOf, hst, hstarted]
  unfold Machine.exitLowered
  split_ifs with hexit hocc
  · have hraise : r.commanded = .raise :=
      h.2.1 (inUse_of_exitRole hexit) .raise (by rw [hc, entryRole_of_exitRole hexit]; rfl)
    refine ⟨recordHeld_fieldsSound _ h.1, fun _ x hx => ?_, fun _ => ⟨hst, hstarted, hraise, hexit⟩⟩
    rw [hcommand, entryRole_of_exitRole hexit] at hx
    cases hx
  · refine .given u _ h.1 hn fun x hx => ?_
    rw [hcommand, entryRole_of_exitRole hexit] at hx
    cases hx
  · refine .commanded h.1 hn fun hu x hx => ?_
    have hentry : barrierEntryRole u.eqTab b = true := by
      rw [barrierInUse, (Bool.not_eq_true _).mp hexit, Bool.or_false] at hu
      exact hu
    rw [hcommand, hentry] at hx
    exact (h.2.1 hu .lower (by rw [hc, hentry]; rfl)).trans (Option.some.inj hx)

/-- Every barrier of a list resolved for a command is commanded so. -/
theorem commanded_of_allResolved {c : BarrierCommand} {bs : List Nat} (h : s.allResolved c bs = true) {b : Nat}
    (hb : b ∈ bs) {r : BarrierRecord} (hr : s.barrierRecord b = some r) : r.commanded = c := by
  have hresolved := List.all_eq_true.mp h b hb
  simp only [State.resolved, hr, recordResolved, Bool.and_eq_true, decide_eq_true_eq] at hresolved
  exact hresolved.1.1

theorem mem_exitBarriers {et : List Word} {b : Nat} (hb : b < 4) (h : barrierExitRole et b = true) :
    b ∈ exitBarriers et := by
  rw [exitBarriers, List.mem_filter, List.mem_range]
  exact ⟨hb, h⟩

/-- CLOSED is entered with every EXIT barrier resolved for lowering, none held (R83). -/
theorem closedBegun_barriersKept (h : BarriersKept s) (he : s.seq.exitStarted = true)
    (hr : s.allResolved .lower (exitBarriers s.eqTab) = true) (hq : FieldsOfPhase (closedBegun s).seq) :
    BarriersKept (closedBegun s) := by
  have hst := h.fields.exitStarted he
  refine h.same (closedBegun_barrierRecord s) (enterState_shape ..) (closedBegun_sequenceFrame (.refl _ s)).eqTab_eq hq
    fun b hb r hrec hfits => ?_
  have hlower : barrierExitRole s.eqTab b = true → r.commanded = .lower := fun hexit =>
    commanded_of_allResolved hr (mem_exitBarriers hb hexit) hrec
  have hn : r.held = false := by
    refine (Bool.not_eq_true _).mp fun hx => ?_
    obtain ⟨-, -, hraise, hexit⟩ := hfits.2.2 hx
    rw [hlower hexit] at hraise
    cases hraise
  refine .commanded hfits.1 hn fun hu x hx => ?_
  rw [closedBegun_seq] at hx
  have hx' : BarrierCommand.lower = x := by simpa [commandOf] using hx
  rw [← hx']
  cases hexit : barrierExitRole s.eqTab b with
  | true => exact hlower hexit
  | false =>
    have hentry : barrierEntryRole s.eqTab b = true := by rwa [barrierInUse, hexit, Bool.or_false] at hu
    exact hfits.2.1 hu .lower (by simp [commandOf, hst, hentry])

theorem Move.barriersKept (m : Move s t) (h : BarriersKept s) : BarriersKept t := by
  obtain ⟨hq, -⟩ := m.fieldsOfPhase h.fields
  have hplaces := m.barrierShape_eq
  have heq : t.eqTab = s.eqTab := m.touches.eqTab_eq
  cases m with
  | amber hs hd =>
    exact h.same (State.barrierRecord_congr (enterAmber_barrier s)) hplaces heq hq fun b _ r _ hr =>
      hr.of_phase (fun e => by rw [enterAmber_seq]; simp [commandOf, hs]) fun hx => by rw [hs] at hx; cases hx
  | redFlash hdue =>
    have hs := h.fields.of_amber hdue
    exact h.same (State.barrierRecord_congr (enterRedFlash_barrier s)) hplaces heq hq fun b _ r _ hr =>
      hr.of_phase (fun e => by rw [enterRedFlash_seq]; simp [commandOf, hs]) fun hx => by rw [hs] at hx; cases hx
  | entry hdue =>
    have hs := h.fields.of_red hdue
    exact entryBegun_barriersKept h rfl rfl rfl hq (fun e => by simp [commandOf, hs]) (by simp [hs])
  | relowered hs hd =>
    have hT := closureBegun_touched s
    exact entryBegun_barriersKept h (State.barrierRecord_congr hT.barrier_eq) hT.barrierShape_eq hT.eqTab_eq hq
      (fun e => by simp [commandOf, hs]) (by simp [hs])
  | exitDelay hs hr hdelay =>
    exact h.same (exitPhaseBegun_barrierRecord s) hplaces heq hq fun b _ r _ hr =>
      hr.of_phase (fun e => by cases e <;> simp [exitDelayBegun, commandOf, hs]) fun hx => by rw [hs] at hx; cases hx
  | exitAtOnce hs hr =>
    have htab : (exitPhaseBegun s).eqTab = s.eqTab := (exitPhaseBegun_sequenceFrame (.refl _ s)).eqTab_eq
    refine h.mapped (fun b hb => by rw [exitLoweringBegun_barrierRecord _ hb, exitPhaseBegun_barrierRecord])
      hplaces heq hq fun b _ r _ hr => ?_
    refine hr.exitLowered htab (hr.not_held fun hx => by rw [hs] at hx; cases hx) ?_ ?_ fun e => ?_
    · rw [exitLoweringBegun_seq, exitPhaseBegun_seq]
    · rw [exitLoweringBegun_seq]
    · simp [commandOf, hs]
  | exitStarted hdue =>
    obtain ⟨hs, hnot⟩ := h.fields.of_exitDelay hdue
    refine h.mapped (fun b hb => exitLoweringBegun_barrierRecord s hb) hplaces heq hq fun b _ r _ hr => ?_
    refine hr.exitLowered rfl (hr.not_held fun _ => hnot) ?_ ?_ fun e => ?_
    · rw [exitLoweringBegun_seq, hs]
    · rw [exitLoweringBegun_seq]
    · cases e <;> simp [commandOf, hs, hnot]
  | closed he hr => exact closedBegun_barriersKept h he hr hq
  | raising hs hd =>
    refine h.mapped (fun b hb => raisingBegun_barrierRecord s hb) hplaces heq hq fun b _ r _ hr => ?_
    have hn := hr.not_held fun hx => by rw [hs] at hx; cases hx
    rw [raisingBegun_seq]
    dsimp only
    split
    next => exact .given s _ hr.1 hn fun x hx => by simpa [commandOf] using hx
    next hu => exact .commanded hr.1 hn fun hu' => absurd hu' hu
  | opened hs hr =>
    exact h.same (enterState_barrierRecord ..) hplaces heq hq fun b _ r _ hr =>
      hr.of_phase (fun e => by rw [enterState_seq]; simp [commandOf, hs]) fun hx => by rw [hs] at hx; cases hx
  | prolonged hc =>
    exact h.same (State.barrierRecord_congr (checkProlonged_touched s).barrier_eq) hplaces heq hq fun b _ r _ hr =>
      hr.of_phase (fun e => by rw [checkProlonged_seq]; rfl) fun hx hy => by rw [checkProlonged_seq]; exact ⟨hx, hy⟩
  | longClosure hdue =>
    have hT : Touches [.seq, .fault] s (longClosureReached s) := longClosureReached_touches (by decide) (.refl _ s)
    exact h.same (State.barrierRecord_congr hT.barrier_eq) hplaces heq hq fun b _ r _ hr =>
      hr.of_phase (fun e => by rw [longClosureReached_seq]; rfl)
        fun hx hy => by rw [longClosureReached_seq]; exact ⟨hx, hy⟩

theorem Evolves.barriersKept (hev : Evolves s t) (h : BarriersKept s) : BarriersKept t := by
  induction hev with
  | refl => exact h
  | counted _ hT ih => exact ih.frame hT
  | reported o r _ ih =>
    exact ih.frame (handPassageReport_touches (L := [.portA, .portB, .fault, .queue .status]) o r (by decide) (.refl _ _))
  | moved _ m ih => exact m.barriersKept ih

/-! ## Reports, expiries and road presence -/

/-- One record replaced by one that fits. -/
theorem changeBarrier_barriersKept {b : Nat} {r : BarrierRecord} (h : BarriersKept s) (hr : s.barrierRecord b = some r)
    (was : BarrierRecord) {now : BarrierRecord} (hf : barrierFieldsSound now = true)
    (hc : now.commanded = r.commanded) (hh : now.held = r.held) : BarriersKept (changeBarrier b was now s) := by
  have hT := changeBarrier_touched b was now s
  have heq : (changeBarrier b was now s).eqTab = s.eqTab := hT.eqTab_eq
  refine ⟨fun x y hy => ?_, by rw [hT.seq_eq]; exact h.fields, by rw [changeBarrier_shape hr, h.places]⟩
  rw [changeBarrier_barrierRecord hr] at hy
  have hfits : RecordFits s.eqTab s.seq x y := by
    split at hy
    next hx =>
      obtain rfl := Option.some.inj hy
      exact hx ▸ RecordFits.rewritten (h.sound b r hr) hf hc hh
    next => exact h.sound x y hy
  rwa [← heq, ← hT.seq_eq] at hfits

theorem takeBarrierReport_barriersKept (j m : Nat) (pos : BarrierPosition) (echo : Option BarrierCommand)
    (h : BarriersKept s) : BarriersKept (takeBarrierReport j m pos echo s) := by
  have hT := barrierModuleHeard_touched j (moduleOf s.eqTab m).silence s
  have hheard : BarriersKept (barrierModuleHeard j (moduleOf s.eqTab m).silence s) :=
    h.of_blocks (by rw [barrierModuleHeard_barrier]) hT.eqTab_eq hT.seq_eq
  unfold takeBarrierReport
  dsimp only
  split
  · exact hheard
  · split
    · exact hheard
    next r hr =>
      obtain ⟨hf, hc, hh⟩ := reportedRecord_kept (barrierModuleHeard j (moduleOf s.eqTab m).silence s).seq.state pos echo
        (hheard.sound _ r hr).1
      exact changeBarrier_barriersKept hheard hr r hf hc hh

theorem expireProof_barriersKept (b : Nat) (h : BarriersKept s) : BarriersKept (expireProof b s) := by
  unfold expireProof
  split
  · exact h
  next r hr => exact changeBarrier_barriersKept h hr r (recordLost_fieldsSound _ (h.sound b r hr).1) rfl rfl

theorem silenceBarrier_barriersKept (b : Nat) (h : BarriersKept s) : BarriersKept (silenceBarrier b s) := by
  unfold silenceBarrier
  split
  · exact h
  · split
    · exact h
    next r hr => exact changeBarrier_barriersKept h hr r (recordLost_fieldsSound _ (h.sound b r hr).1) rfl rfl

theorem barrierModuleSilence_barriersKept (j : Nat) (h : BarriersKept s) : BarriersKept (barrierModuleSilence j s) := by
  have hT := moduleSilenced_touched j s
  have hsilenced : BarriersKept (moduleSilenced j s) :=
    h.of_blocks (by rw [moduleSilenced_barrier]) hT.eqTab_eq hT.seq_eq
  show BarriersKept (match barrierOfModule (moduleSilenced j s).eqTab j with
    | none => moduleSilenced j s
    | some b => silenceBarrier b (moduleSilenced j s))
  split
  · exact hsilenced
  · exact silenceBarrier_barriersKept _ hsilenced

theorem expireExitWait_barriersKept (b : Nat) (h : BarriersKept s) : BarriersKept (expireExitWait b s) := by
  unfold expireExitWait
  split
  · exact h
  next r hr =>
    have hput : BarriersKept (putBarrier b { r with exitWait := none } s) := by
      refine ⟨fun x y hy => ?_, h.fields, by rw [putBarrier_shape hr, h.places]⟩
      rw [putBarrier_barrierRecord hr] at hy
      split at hy
      next hx =>
        obtain rfl := Option.some.inj hy
        have hfields := (h.sound b r hr).1
        refine RecordFits.rewritten (hx ▸ h.sound b r hr : RecordFits s.eqTab s.seq x r) ?_ rfl rfl
        simp only [barrierFieldsSound, Bool.and_eq_true, Option.isNone_none, Bool.true_or] at hfields ⊢
        exact ⟨hfields.1, trivial⟩
      next => exact h.sound x y hy
    exact hput.frame (enterFault_touches (L := [.fault]) _ _ _ (by decide) (.refl _ _))

/-- A change of occupancy while exit lowering goes on: EXIT barriers released and given LOWER, or taken back up and
held (R127). -/
theorem occupancyChanged_barriersKept (was : Bool) (h : BarriersKept s) : BarriersKept (occupancyChanged was s) := by
  have hT : Touches [.portA, .portB, .barrier, .cmd, .fault, .queue .command] s (occupancyChanged was s) :=
    occupancyChanged_touches was (by decide) (.refl _ s)
  have hplaces := occupancyChanged_shape was s
  have hseq : (occupancyChanged was s).seq = s.seq := hT.seq_eq
  have heq : (occupancyChanged was s).eqTab = s.eqTab := hT.eqTab_eq
  have hq : FieldsOfPhase (occupancyChanged was s).seq := by rw [hseq]; exact h.fields
  by_cases hchanged : s.seq.state = .exitLowering ∧ s.seq.exitStarted ∧ s.occupied ≠ was
  · obtain ⟨hst, hstarted, hne⟩ := hchanged
    have hexitNone : ∀ {b x}, barrierExitRole s.eqTab b = true →
        commandOf s.seq (barrierEntryRole s.eqTab b) = some x → False := fun hexit hx => by
      simp [commandOf, hst, hstarted, entryRole_of_exitRole hexit] at hx
    cases hocc : s.occupied with
    | false =>
      obtain rfl : was = true := by simpa [hocc] using hne
      obtain ⟨-, hrec⟩ := occupancyChanged_cleared_record hst hstarted hocc
      refine h.mapped hrec hplaces heq hq fun b _ r _ hr => ?_
      rw [hseq]
      split
      next hexit =>
        unfold released
        split
        next hheld =>
          exact .given s _ (recordReleased_fieldsSound hr.1) rfl fun x hx => (hexitNone hexit hx).elim
        next => exact hr
      next => exact hr
    | true =>
      obtain rfl : was = false := by simpa [hocc] using hne
      refine h.mapped (fun b hb => occupancyChanged_entered_record hst hstarted hocc hb) hplaces heq hq
        fun b _ r _ hr => ?_
      rw [hseq]
      split
      next hexit =>
        unfold takenBack
        split
        next =>
          exact ⟨recordHeld_fieldsSound _ (givenNow_fieldsSound s _ _ hr.1), fun _ x hx => (hexitNone hexit hx).elim,
            fun _ => ⟨hst, hstarted, rfl, hexit⟩⟩
        next => exact hr
      next => exact hr
  · have hsame : occupancyChanged was s = s := if_neg hchanged
    rwa [hsame]

/-! ## Records formed anew -/

/-- Records not held, given a command, under a sequencer state that says so. -/
theorem given_barriersKept {c : BarrierCommand} {ms : Nat} {u : State}
    (hrec : ∀ b < 4, t.barrierRecord b = (u.barrierRecord b).map fun r =>
      if barrierInUse u.eqTab b then givenNow u c ms r else r)
    (hfresh : ∀ b r, u.barrierRecord b = some r → r = barrierFresh) (hplaces : t.barrierShape.length = 4)
    (heq : t.eqTab = u.eqTab) (hq : FieldsOfPhase t.seq) (hc : ∀ e x, commandOf t.seq e = some x → c = x) :
    BarriersKept t := by
  refine ⟨fun b r hr => ?_, hq, hplaces⟩
  rw [hrec b (BarriersKept.place_lt hplaces hr)] at hr
  obtain ⟨r0, hr0, rfl⟩ := Option.map_eq_some_iff.mp hr
  obtain rfl := hfresh b r0 hr0
  show RecordFits t.eqTab t.seq b _
  rw [heq]
  split
  next => exact .given u ms (by decide) rfl (hc _)
  next hu => exact .commanded (by decide) rfl fun hu' => absurd hu' hu

theorem barrierInitial_fresh {u : State} (h : t.barrier = barrierInitial u) {b : Nat} {r : BarrierRecord}
    (hr : t.barrierRecord b = some r) : r = barrierFresh := by
  rw [State.barrierRecord, h] at hr
  obtain ⟨o, ho, rfl⟩ := (by simpa [Option.join_eq_some_iff] using hr :
    ∃ o, (barrierInitial u).barriers[b]? = some o ∧ o = some r)
  obtain ⟨x, -, hx⟩ := List.mem_map.mp (List.mem_of_getElem? ho)
  split at hx
  · exact (Option.some.inj hx).symm
  · cases hx

theorem barrierInitial_places {u : State} (h : t.barrier = barrierInitial u) : t.barrierShape.length = 4 := by
  rw [barrierShape_initial h]
  rfl

theorem initSafeLeft_barriersKept {u : State} (hseq : t.seq = seqInitSafe) (h : t.barrier = barrierInitial u) :
    BarriersKept (initSafeLeft t) := by
  refine given_barriersKept (fun b hb => initSafeLeft_barrierRecord t hb) (fun b r => barrierInitial_fresh h)
    (by rw [initSafeLeft_shape, barrierInitial_places h]) (initSafeLeft_touched t).eqTab_eq
    (initSafeLeft_fieldsOfPhase hseq) fun e x hx => ?_
  rw [initSafeLeft_seq] at hx
  simpa [commandOf] using hx

theorem activationBegun_barriersKept {u : State} {st : SeqState} (hst : st = .initSafe ∨ st = .opened)
    (hseq : t.seq = { seqInitSafe with state := st }) (h : t.barrier = barrierInitial u) :
    BarriersKept (activationBegun t) := by
  rcases hst with rfl | rfl
  · rw [activationBegun_of_initSafe (by rw [hseq])]
    exact initSafeLeft_barriersKept hseq h
  · rw [activationBegun_of_opened (by rw [hseq])]
    have hT : Touches [.portA, .portB, .barrier, .cmd, .fault, .queue .command] t
        (giveCommands .raise (barriersInUse t.eqTab) t) := giveCommands_touches _ _ (by decide) (.refl _ t)
    refine given_barriersKept (u := t) (c := .raise) (ms := tRaiseMaxOf t.crTab) (fun b hb => ?_)
      (fun b r => barrierInitial_fresh h) (by rw [giveCommands_shape, barrierInitial_places h]) hT.eqTab_eq
      (by rw [hT.seq_eq, hseq]; exact fieldsOfPhase_opened) fun e x hx => ?_
    · rw [giveCommands_barrierRecord, barriersInUse, map_if_mem_picked hb]
      rfl
    · rw [hT.seq_eq, hseq] at hx
      simpa [commandOf] using hx

/-- With no equipment table active no barrier has a record. -/
theorem barriersKept_of_empty (hseq : t.seq = seqInitSafe) (h : t.barrier = barrierEmpty) : BarriersKept t := by
  refine ⟨fun b r hr => ?_, by rw [hseq]; exact fieldsOfPhase_initSafe, by rw [State.barrierShape, h]; rfl⟩
  rw [State.barrierRecord, h] at hr
  obtain ⟨o, ho, rfl⟩ := (by simpa [Option.join_eq_some_iff] using hr :
    ∃ o, barrierEmpty.barriers[b]? = some o ∧ o = some r)
  cases (List.mem_replicate.mp (List.mem_of_getElem? ho)).2

theorem barriersKept_rule : SequenceRule BarriersKept where
  stay hT h := h.of_blocks (by rw [hT.touches.barrier_eq]) (by rw [State.eqTab, hT.tables]; rfl) hT.touches.seq_eq
  evolved hev h := hev.barriersKept h
  proved _ h := h.of_blocks rfl rfl rfl
  lampReport j m chs u h := h.frame (takeLampReport_touches j m chs (List.Subset.refl _) (.refl _ u))
  lampSilence j u h := h.frame (lampModuleSilence_touches j (List.Subset.refl _) (.refl _ u))
  barrierReport j m pos echo _ h := takeBarrierReport_barriersKept j m pos echo h
  barrierSilence j _ h := barrierModuleSilence_barriersKept j h
  proving b _ _ h _ _ := expireProof_barriersKept b h
  exitWait b _ _ h _ _ := expireExitWait_barriersKept b h
  presenceReport j m v u h := by
    have hT := presenceModuleHeard_touched j (moduleOf u.eqTab m).silence v u
    exact occupancyChanged_barriersKept _
      (h.of_blocks (by rw [presenceModuleHeard_barrier]) hT.eqTab_eq hT.seq_eq)
  presenceSilence j u h := by
    have hT := presenceSilenced_touched j u
    rw [presenceModuleSilence_eq]
    exact occupancyChanged_barriersKept _ (h.of_blocks (by rw [presenceSilenced_barrier]) hT.eqTab_eq hT.seq_eq)
  begun pid crc u _ _ hq := by
    obtain ⟨-, -, -, -, -, hbarrier⟩ := reinitialise_blocks u.seq.state (sectionsAnew pid crc u) (takenIn pid crc u)
    exact activationBegun_barriersKept (state_of_quiescent hq) (anewBegun_seq pid crc u) hbarrier
  kept u _ _ := by
    obtain ⟨-, -, -, -, -, hbarrier⟩ := reinitialise_blocks .initSafe
      (sectionsRestarted (raiseNotice 33 0 u).axle.sections) (raiseNotice 33 0 u)
    exact initSafeLeft_barriersKept (keptBegun_seq u) hbarrier
  emptied code u _ := by
    obtain ⟨-, -, -, hbarrier, -⟩ := reinitialiseEmpty_blocks (emptySafety (raiseNotice 33 code u))
    exact barriersKept_of_empty (emptiedBegun_seq code u) hbarrier

theorem barriersKept_step (h : BarriersKept s) (ht : step s = .next t) : BarriersKept t :=
  barriersKept_rule.step (fun _ _ => barriersKept_of_empty rfl rfl) h ht

theorem BarriersKept.of_sound (h : BarriersSound s) (hq : SequencerSound s) (hg : GeometrySound s) : BarriersKept s := by
  obtain ⟨-, -, -, hplaces, -⟩ := hg
  refine ⟨h, ((sequencerSound_iff s).mp hq).2, ?_⟩
  rw [State.barrierShape, hplaces]
  rfl

end

/-- Settles O57: each predicate is kept by every move of the sequence and by every event of lamps, barriers and road
presence, and holds of the blocks formed anew. -/
theorem sequenceKept : Obligations.SequenceKept :=
  ⟨fun _ _ hp h ht => (sequencerKept_step ⟨h, hp⟩ ht).1, fun _ _ => demandSound_step, fun _ _ => proofSound_step,
    fun _ _ h hq hg ht => (barriersKept_step (.of_sound h hq hg) ht).sound, fun _ _ => lampsSound_step⟩

end Sys2Proof.Machine
end

section
/-! PROOFS. The rule for a predicate of the train records and the tables: what each event can do to the pool (chapter 2). -/

namespace Sys2Proof.Machine

/-! ## The record that takes a wheel -/

theorem lastPlace_spec {α : Type} {p : α → Bool} {l : List α} {i j : Nat} {found : Option Nat}
    (h : lastPlace p l i found = some j) : found = some j ∨ ∃ k x, j = i + k ∧ l[k]? = some x ∧ p x = true := by
  induction l generalizing i found with
  | nil => exact .inl h
  | cons x rest ih =>
    rcases ih h with hfound | ⟨k, y, hj, hy, hp⟩
    · split at hfound
      next hp => exact .inr ⟨0, x, (Option.some.inj hfound).symm, rfl, hp⟩
      next => exact .inl hfound
    · exact .inr ⟨k + 1, y, by omega, hy, hp⟩

theorem newestGiving_spec {a k i : Nat} {l : List TrainRecord} (h : newestGiving a k l 0 none = some i) :
    ∃ x, l[i]? = some x ∧ canGiveBack a k x = true := by
  rw [newestGiving_eq] at h
  rcases lastPlace_spec h with hnone | ⟨n, x, hi, hx, hp⟩
  · cases hnone
  · obtain rfl : i = n := by omega
    exact ⟨x, hx, hp⟩

theorem findIdx?_spec {α : Type} {p : α → Bool} {l : List α} {i : Nat} (h : l.findIdx? p = some i) :
    ∃ x, l[i]? = some x ∧ p x = true := by
  obtain ⟨hi, hp, -⟩ := List.findIdx?_eq_some_iff_getElem.mp h
  exact ⟨l[i], List.getElem?_eq_getElem hi, hp⟩

/-! ## The rule -/

/-- A predicate of the train records and the tables, under an assumption `A` on the tables: what is left to show for every
step to keep it. -/
structure TrackRule (A : SafetyTables → Prop) (I : State → Prop) : Prop where
  stay : ∀ {u v}, v.config.tables = u.config.tables → v.tracker = u.tracker → I u → I v
  watched : ∀ u, I u → I (warnUnsupervised (clearOverflow u))
  struckIn : ∀ a w u, A u.config.tables → I u → pathIndex u.detTab a w.detector = some 0 → I (strikeIn a w u).1
  tookInward : ∀ a i k w r u, I u → u.tracker.records[i]? = some r → canTakeInward a (k + 1) r = true →
    I (takeInward i (k + 1) w u)
  tookOutward : ∀ a i k r u, I u → u.tracker.records[i]? = some r → canGiveBack a k r = true → I (takeOutward i k u)
  entryClosed : ∀ i r u, I u → u.tracker.records[i]? = some r →
    I (checkRetirement i (putRecord i { r with entryOpen := false } u))
  startDue : ∀ i r u, I u → u.tracker.records[i]? = some r → approachingStart r = some u.now →
    I (putRecord i (warnRecord u.now r) u)
  discarded : ∀ {u v}, v.tracker = { u.tracker with records := [], overflow := List.replicate 8 false } → I u → I v

namespace TrackRule

variable {A : SafetyTables → Prop} {I : State → Prop} {s t : State}

theorem frame (hI : TrackRule A I) {L : List Block} (h : I s) (hT : Touches L s t) (hC : .config ∉ L := by decide)
    (hR : .tracker ∉ L := by decide) : I t := hI.stay (by rw [hT.config_eq hC]) (hT.tracker_eq hR) h

theorem tablesStay (hI : TrackRule A I) (h : I s) (hT : TablesStay s t) : I t :=
  hI.stay hT.tables hT.touches.tracker_eq h

theorem moves (hI : TrackRule A I) : KeptByMoves I := ⟨fun h m => hI.frame h m.touches⟩

theorem react (hI : TrackRule A I) (h : I t) : I (react t) := hI.moves.actOnDemand (hI.watched t h)

/-! ### Wheels -/

theorem unattributed (hI : TrackRule A I) (w : WheelPassage) (h : I t) : I (unattributed w t) :=
  hI.frame h (unattributed_touches (L := [.fault]) w (by decide) (.refl _ t))

theorem innerWheel (hI : TrackRule A I) (a k : Nat) (w : WheelPassage) (h : I t) :
    I (innerWheel a (k + 1) w t).1 := by
  unfold Machine.innerWheel
  split
  · exact h
  next i hi =>
    obtain ⟨r, hr, htake⟩ := findIdx?_spec hi
    exact hI.tookInward a i k w r t h hr htake

theorem outwardWheel (hI : TrackRule A I) (a k : Nat) (h : I t) : I (outwardWheel a k t).1 := by
  unfold Machine.outwardWheel
  split
  · exact h
  next i hi =>
    obtain ⟨r, hr, hgive⟩ := newestGiving_spec hi
    exact hI.tookOutward a i k r t h hr hgive

theorem offerOutward (hI : TrackRule A I) (w : WheelPassage) (h : I t) : I (offerOutward w t) := by
  unfold Machine.offerOutward
  dsimp only
  split
  · exact hI.unattributed w h
  · split
    · exact hI.outwardWheel _ _ h
    · exact hI.unattributed w (hI.outwardWheel _ _ h)

theorem attributeWheel (hI : TrackRule A I) (w : WheelPassage) (hA : A t.config.tables) (h : I t) :
    I (attributeWheel w t) := by
  unfold Machine.attributeWheel
  dsimp only
  split
  · exact hI.offerOutward w h
  next hpath =>
    have hstruck := hI.struckIn _ w t hA h hpath
    split
    · exact hstruck
    · exact hI.unattributed w hstruck
  · split
    · exact hI.innerWheel _ _ w h
    · exact hI.offerOutward w (hI.innerWheel _ _ w h)

/-! ### Detectors and sections -/

theorem putDetector (hI : TrackRule A I) (d : Nat) (r : DetectorRecord) (h : I t) : I (putDetector d r t) :=
  hI.frame h (putDetector_touches (L := [.axle]) d r (by decide) (.refl _ t))

theorem gapEffect (hI : TrackRule A I) (d : Nat) (gap : Option Byte) (seq : Byte) (h : I t) :
    I (gapEffect d gap seq t) := by
  cases gap with
  | none => exact h
  | some expected =>
    exact hI.react (hI.frame h
      (raiseFault_touches (L := [.axle, .fault]) _ _ _ (by decide) (disturbAdjacent_touches d (by decide) (.refl _ t))))

theorem failDetector (hI : TrackRule A I) (d : Nat) (c : DetectorCause) (r : DetectorRecord) (h : I t) :
    I (failDetector d c r t) := by
  have hput := hI.putDetector d { r with state := .failed c } h
  have hended : I (endDetectorFaults (enterDetectorFault d c (Machine.putDetector d { r with state := .failed c } t))) :=
    hI.frame hput (endDetectorFaults_touches (L := [.fault, .queue .command]) (by decide)
      (enterDetectorFault_touches d c (by decide) (.refl _ _)))
  unfold Machine.failDetector
  dsimp only
  split
  · exact hput
  · refine hI.react ?_
    split
    · exact hended
    · exact hI.frame hended (disturbAdjacent_touches (L := [.axle]) d (by decide) (.refl _ _))

theorem passDetector (hI : TrackRule A I) (d : Nat) (r : DetectorRecord) (h : I t) : I (passDetector d r t) :=
  hI.react (hI.frame (hI.putDetector d { r with state := .ok } h) (endDetectorFaults_touched _))

theorem wheelReport (hI : TrackRule A I) (d : Nat) (payload : List Byte) (hA : A t.config.tables) (h : I t) :
    I (wheelReport d payload t) := by
  unfold Machine.wheelReport
  split
  · exact h
  next r _ =>
    split
    next =>
      have hmoved : ∀ dir u, I u → I (moveWheel d dir u) := fun dir u hu =>
        hI.react (hI.frame hu (moveAxle_touched d dir u))
      have hconfig : ∀ order interval seq,
          (countWheel d r order interval seq t).2.config.tables = t.config.tables := fun order interval seq => by
        have hput : Touches [.axle] t (Machine.putDetector d { setDetectorTimer d r t with lastSeq := some seq } t) :=
          putDetector_touches d _ (by decide) (.refl _ t)
        have hmove : ∀ dir u, (moveWheel d dir u).config = u.config := fun dir u => by
          rw [moveWheel, react_config, (moveAxle_touched d dir u).config_eq]
        show (moveWheel d _ (Machine.gapEffect d _ seq (Machine.putDetector d _ t))).config.tables = _
        rw [hmove, gapEffect_config, hput.config_eq]
      refine hI.react (hI.attributeWheel _ (by rw [hconfig]; exact hA) ?_)
      exact hmoved _ _ (hI.gapEffect d _ _ (hI.putDetector d _ h))
    next => exact h

theorem heartbeatReport (hI : TrackRule A I) (d : Nat) (payload : List Byte) (h : I t) : I (heartbeatReport d payload t) := by
  unfold Machine.heartbeatReport
  split
  · exact h
  · split
    · exact h
    · split
      · unfold takeHeartbeat
        dsimp only
        have hchecked := fun r gap seq => hI.gapEffect d gap seq (hI.putDetector d r h)
        split
        · exact hI.passDetector d _ (hchecked ..)
        · exact hI.failDetector d _ _ (hchecked ..)
      · exact h

theorem restoreEffect (hI : TrackRule A I) (reason : Option Reason) (mode : Option RestoreMode) (trk n : Nat) (h : I t) :
    I (restoreEffect reason mode trk n t) := by
  have hrestored : ∀ st, I (restoreSection trk n st t) := fun st =>
    hI.frame h (restoreSection_touches (L := [.axle]) trk n st (by decide) (.refl _ t))
  unfold Machine.restoreEffect
  split
  next m =>
    cases m with
    | sweep => exact hI.react (hrestored .prepared)
    | direct =>
      exact hI.react (hI.frame (hrestored .clear) (raiseNotice_touches (L := [.fault]) _ _ (by decide) (.refl _ _)))
  · exact h

theorem closeEntry (hI : TrackRule A I) (i : Nat) (h : I t) : I (closeEntry i t) := by
  unfold Machine.closeEntry
  split
  · exact h
  next r hr => exact hI.react (hI.entryClosed i r t h hr)

theorem startReached (hI : TrackRule A I) {i : Nat} {r : TrainRecord} (hr : t.tracker.records[i]? = some r)
    (hdue : approachingStart r = some t.now) (h : I t) : I (startReached i t) := by
  simp only [Machine.startReached, hr]
  exact hI.react (hI.startDue i r t h hr hdue)

/-! ### Activation and restarts -/

theorem activated (hI : TrackRule A I) (h : I t) : I (activateIfQuiescent t) := by
  unfold activateIfQuiescent
  split
  next pid crc _ _ =>
    split
    next =>
      have hT : Touches [.portA, .portB, .seq, .lamp, .barrier, .cmd, .fault, .queue .command, .config]
          (anewBegun pid crc t) (takeEffect pid crc t) := by
        rw [takeEffect_eq]
        exact cancelActivation_touches (by decide) (formSlots_touches (by decide)
          (sequenceAfterActivation_touches (by decide) (.refl _ _)))
      obtain ⟨-, -, htracker, -⟩ := reinitialise_blocks t.seq.state (sectionsAnew pid crc t) (takenIn pid crc t)
      exact hI.discarded (u := t) (hT.tracker_eq.trans (htracker.trans rfl)) h
    next => exact h
  next => exact h

theorem restartEmptied (hI : TrackRule A I) (code : Nat) (h : I t) : I (restartEmptied code t) := by
  have hT : Touches [.portA, .portB, .fault, .queue .status] (emptiedBegun code t) (Machine.restartEmptied code t) :=
    removeStatus_touches (by decide) (evaluateGroups_touches (by decide) (.refl _ _))
  obtain ⟨htracker, -⟩ := reinitialiseEmpty_blocks (emptySafety (raiseNotice 33 code t))
  exact hI.discarded (u := t) (hT.tracker_eq.trans (htracker.trans rfl)) h

theorem restarted (hI : TrackRule A I) (m : Option RestartMode) (h : I t) : I (restartEffect m t) := by
  unfold restartEffect
  split
  · unfold restartKeepAccepted
    split
    next =>
      have hT : Touches [.portA, .portB, .seq, .lamp, .barrier, .cmd, .fault, .queue .command] (keptBegun t)
          (restartKept t) := formSlots_touches (by decide) (leaveInitSafe_touches (by decide) (.refl _ _))
      obtain ⟨-, -, htracker, -⟩ := reinitialise_blocks .initSafe (sectionsRestarted (raiseNotice 33 0 t).axle.sections)
        (raiseNotice 33 0 t)
      exact hI.discarded (u := t) (hT.tracker_eq.trans (htracker.trans rfl)) h
    next => exact hI.restartEmptied 0 h
  · exact hI.tablesStay (hI.restartEmptied 1 h) (cancelActivation_tablesStay _)
  · exact h

theorem finishedProof (hI : TrackRule A I) (before : State) (due : Bool) (h : I t) : I (finishProof before due t) :=
  hI.frame h (finishProof_touches (L := [.portA, .portB, .barrier, .queue .status]) before due (by decide) (.refl _ t))

theorem answered (hI : TrackRule A I) (a : Arrival) (kind : Byte) (payload : List Byte) (h : I t) :
    I (sendReply a kind payload t) := hI.frame h (sendReply_touched a kind payload t)

theorem answerRestore (hI : TrackRule A I) (a : Arrival) (payload : List Byte) (h : I t) : I (answerRestore a payload t) := by
  unfold Machine.answerRestore
  split
  · exact hI.answered _ _ _ h
  · exact hI.answered _ _ _ (hI.restoreEffect _ _ _ _ h)

theorem answerConfirm (hI : TrackRule A I) (a : Arrival) (payload : List Byte) (h : I t) : I (answerConfirm a payload t) := by
  unfold Machine.answerConfirm confirmEffect
  split
  · exact hI.answered _ _ _ h
  · refine hI.answered _ _ _ ?_
    split
    · exact h
    · exact hI.activated (hI.tablesStay h (confirmed_tablesStay t))

theorem answerRestart (hI : TrackRule A I) (a : Arrival) (payload : List Byte) (h : I t) : I (answerRestart a payload t) := by
  unfold Machine.answerRestart
  split
  · exact hI.answered _ _ _ h
  · exact hI.answered _ _ _ (hI.restarted _ h)

/-- Every block but the tables and the tracker. -/
abbrev offTrackBlocks : List Block :=
  [.axle, .seq, .lamp, .barrier, .freeCounter] ++ offSequenceBlocks

theorem stepRule (hI : TrackRule A I) (may : Port → Byte → Prop) :
    StepRule may (fun u => I u ∧ A u.config.tables) I I I I :=
  have frame : ∀ {u v : State}, Touches offTrackBlocks u v → I u → I v := fun hT h => hI.frame h hT
  { kept := fun _ h => h.1
    finished := fun _ _ u _ h => frame (finish_touches _ _ (by decide) (.refl _ u)) h
    proofed := fun _ _ _ _ h => hI.finishedProof _ _ h
    settled := fun _ _ _ _ h => hI.finishedProof _ _ (hI.activated h)
    heard := fun p _ u _ h => by
      have hT : Touches offTrackBlocks u (portHeard p u) := portHeard_touches p (by decide) (.refl _ u)
      exact ⟨frame hT h.1, by rw [hT.config_eq]; exact h.2⟩
    passed := fun p tel u h => frame (passCopy_touches p tel (by decide) (.refl _ u)) h
    mismatched := fun p src u h => frame (noticeRoleMismatch_touches p src (by decide) (.refl _ u)) h.1
    stranger := fun p src u h _ =>
      frame (noticeStranger_touches p src (by decide) (State.setWindow_touches _ (by decide) (.refl _ u))) h.1
    wheel := fun d payload _ h => hI.wheelReport d payload h.2 h.1
    heartbeat := fun d payload _ h => hI.heartbeatReport d payload h.1
    lampReport := fun j m chs u h => frame (takeLampReport_touches j m chs (by decide) (.refl _ u)) h.1
    barrierReport := fun j m pos echo u h => hI.moves.tellEndedProofs u
      (frame (takeBarrierReport_touches j m pos echo (by decide) (.refl _ u)) h.1)
    presenceReport := fun j m v u h => frame (takePresenceReport_touches j m v (by decide) (.refl _ u)) h.1
    acknowledge := fun a payload u _ _ h => hI.tablesStay h.1 (answerAcknowledge_tablesStay a payload u)
    restore := fun a payload _ _ h => hI.answerRestore a payload h.1
    confirm := fun a payload _ _ h => hI.answerConfirm a payload h.1
    restart := fun a payload _ _ _ h => hI.answerRestart a payload h.1
    historyRead := fun a payload u _ h => frame (answerHistoryRead_touches a payload (by decide) (.refl _ u)) h.1
    identify := fun a payload u _ h => frame (answerIdentify_touches a payload (by decide) (.refl _ u)) h.1
    stageWrite := fun a payload u _ h => hI.tablesStay h.1 (answerStageWrite_tablesStay a payload u)
    stageRead := fun a payload u _ h => hI.tablesStay h.1 (answerStageRead_tablesStay a payload u)
    activate := fun a payload u _ h => hI.tablesStay h.1 (answerActivate_tablesStay a payload u)
    activateLoop := fun a payload u _ h => hI.tablesStay h.1 (answerActivateLoop_tablesStay a payload u)
    detectorSilence := fun d _ _ h _ _ => hI.failDetector d .silent _ h.1
    entryGap := fun i _ _ h _ _ => hI.closeEntry i h.1
    scheduledStart := fun _ _ _ h hr hdue => hI.startReached hr hdue h.1
    amber := fun _ h hdue => hI.moves.moved h.1 (.redFlash hdue)
    red := fun _ h hdue => hI.moves.leaveRedFlash h.1 hdue
    exitDelay := fun _ h hdue => hI.moves.startExitLowering h.1 hdue
    longClosure := fun _ h hdue => hI.moves.moved h.1 (.longClosure hdue)
    lampSilence := fun j u h => frame (lampModuleSilence_touches j (by decide) (.refl _ u)) h.1
    proving := fun b _ u h _ _ => hI.moves.tellEndedProofs u (frame (expireProof_touches b (by decide) (.refl _ u)) h.1)
    barrierSilence := fun j u h =>
      hI.moves.tellEndedProofs u (frame (barrierModuleSilence_touches j (by decide) (.refl _ u)) h.1)
    presenceSilence := fun j u h => frame (presenceModuleSilence_touches j (by decide) (.refl _ u)) h.1
    exitWait := fun b _ u h _ _ => frame (expireExitWait_touches b (by decide) (.refl _ u)) h.1
    statusPeriod := fun u h => frame (nextStatusPeriod_touches (by decide) (.refl _ u)) h.1
    activation := fun _ h => h.1
    portSilence := fun p u h => frame (portGoesDown_touches p (by decide) (.refl _ u)) h.1
    idle := fun p u h => frame (idleReached_touches p (by decide) (.refl _ u)) h.1
    transmission := fun p u h _ => frame (transmissionDone_touches p (by decide) (.refl _ u)) h.1
    refresh := fun u h => frame (refreshBlock_touches (by decide) (.refl _ u)) h.1 }

theorem step (hI : TrackRule A I) (hreset : ∀ strap u, I (hardwareReset strap u)) (h : I s) (hA : A s.config.tables)
    (ht : step s = .next t) : I t :=
  (hI.stepRule _).step (fun strap u _ => hreset strap u)
    (fun l u hu => by
      have hT := setPending_touched l u
      exact ⟨hI.frame hu.1 hT, by rw [hT.config_eq]; exact hu.2⟩)
    (fun u hu => hI.frame hu.1 (tick_touched u)) ⟨h, hA⟩ ht

end TrackRule

end Sys2Proof.Machine
end

section
/-! PROOFS. The pool within its limits, passed counts that never rise along the path, and unique tags (R28 to R30, R43),
for the statement O58. -/

namespace Sys2Proof.Machine

/-! ## One record -/

/-- The counts of a record of R29 and R43: they never rise along the path, stay within the peak and 1023, and do not make
it due to retire. -/
structure RecordCounted (dt : List Word) (r : TrainRecord) : Prop where
  falling : ∀ k, passedAt r (k + 1) ≤ passedAt r k
  entered : 0 < passedAt r 0
  peak : passedAt r 0 ≤ r.peak
  bound : r.peak ≤ 1023
  stays : retirement dt r = none

section
variable {dt : List Word} {r : TrainRecord} {k v : Nat}

theorem passedAt_set (r : TrainRecord) (k v n : Nat) : (r.passed.set k v).getD n 0
    = if n = k ∧ k < r.passed.length then v else passedAt r n := by
  rw [passedAt, List.getD_eq_getElem?_getD, List.getD_eq_getElem?_getD]
  by_cases hn : n = k
  · subst hn
    by_cases hlen : n < r.passed.length
    · rw [List.getElem?_set_self hlen, if_pos ⟨rfl, hlen⟩]
      rfl
    · rw [List.set_eq_of_length_le (Nat.not_lt.mp hlen), if_neg fun h => hlen h.2]
  · rw [List.getElem?_set_ne (Ne.symm hn), if_neg fun h => hn h.1]

theorem lt_of_passedAt (h : 0 < passedAt r k) : k < r.passed.length := by
  by_contra hge
  rw [passedAt, List.getD_eq_getElem?_getD, List.getElem?_eq_none (Nat.not_lt.mp hge)] at h
  cases h

/-- A count that stays between its neighbours' keeps the counts falling along the path (R37, R40). -/
theorem falling_set (h : ∀ n, passedAt r (n + 1) ≤ passedAt r n) (hk : ∀ n, n + 1 = k → v ≤ passedAt r n)
    (hnext : passedAt r (k + 1) ≤ v) (n : Nat) :
    (r.passed.set k v).getD (n + 1) 0 ≤ (r.passed.set k v).getD n 0 := by
  rw [passedAt_set, passedAt_set]
  by_cases hlen : k < r.passed.length
  · by_cases hn : n + 1 = k
    · rw [if_pos ⟨hn, hlen⟩, if_neg fun hx => by omega]
      exact hk n hn
    · rw [if_neg fun hx => hn hx.1]
      split
      next hx => rw [hx.1]; exact hnext
      next => exact h n
  · rw [if_neg fun hx => hlen hx.2, if_neg fun hx => hlen hx.2]
    exact h n

/-- A record with its strike-in wheel counted, its entry open (R32, R34). -/
theorem entered_counted (p : Time) (h : RecordCounted dt r) (hlt : passedAt r 0 < 1023) :
    RecordCounted dt (entered p r) := by
  have hpassed : passedAt (entered p r) 0 = passedAt r 0 + 1 :=
    (passedAt_set r 0 _ 0).trans (if_pos ⟨rfl, lt_of_passedAt h.entered⟩)
  refine ⟨falling_set h.falling (fun n hn => by omega) ?_, by omega, ?_, ?_, ?_⟩
  · exact Nat.le_succ_of_le (h.falling 0)
  · rw [hpassed]
    exact Nat.le_max_right ..
  · exact Nat.max_le.mpr ⟨h.bound, hlt⟩
  · rw [retirement, if_neg (by omega), if_neg fun hx => hx.1 rfl]

/-- A record with an inward wheel counted that does not complete its passage (R37). -/
theorem advanced_counted (p : Time) (h : RecordCounted dt r) (htake : passedAt r (k + 1) < passedAt r k)
    (hstays : retirement dt (advanced (k + 1) p r) = none) : RecordCounted dt (advanced (k + 1) p r) := by
  have hfirst : passedAt (advanced (k + 1) p r) 0 = passedAt r 0 :=
    (passedAt_set r (k + 1) _ 0).trans (if_neg fun hx => by omega)
  refine ⟨falling_set h.falling (fun n hn => ?_) (Nat.le_succ_of_le (h.falling _)), ?_, ?_, h.bound, hstays⟩
  · obtain rfl : n = k := by omega
    exact htake
  · rw [hfirst]; exact h.entered
  · rw [hfirst]; exact h.peak

/-- A record with an axle given back that does not make it recede (R40). -/
theorem givenBack_counted (h : RecordCounted dt r) (hgive : passedAt r (k + 1) < passedAt r k)
    (hstays : retirement dt { r with passed := r.passed.set k (passedAt r k - 1), receding := true } = none) :
    RecordCounted dt { r with passed := r.passed.set k (passedAt r k - 1), receding := true } := by
  have hfirst : (r.passed.set k (passedAt r k - 1)).getD 0 0 ≤ passedAt r 0 := by
    rw [passedAt_set]
    split
    next hx => rw [hx.1]; exact Nat.sub_le ..
    next => exact le_rfl
  refine ⟨falling_set h.falling (fun n hn => ?_) (by omega), ?_, hfirst.trans h.peak, h.bound, hstays⟩
  · have := h.falling n
    rw [hn] at this
    omega
  · refine Nat.pos_of_ne_zero fun hzero => ?_
    rw [retirement, if_pos hzero] at hstays
    cases hstays

theorem createdRecord_counted (a : Nat) (tag : Byte) (p : Time) : RecordCounted dt (createdRecord dt a tag p) := by
  refine ⟨fun k => ?_, Nat.one_pos, le_rfl, by show (1 : Nat) ≤ 1023; decide, ?_⟩
  · have hzero : passedAt (createdRecord dt a tag p) (k + 1) = 0 := by
      show (List.replicate (pathLength dt a - 1) 0).getD k 0 = 0
      rw [List.getD_eq_getElem?_getD, List.getElem?_replicate]
      split <;> rfl
    rw [hzero]
    exact Nat.zero_le _
  · have hone : passedAt (createdRecord dt a tag p) 0 = 1 := rfl
    rw [retirement, if_neg (by rw [hone]; decide), if_neg fun hx => hx.1 rfl]

end

/-! ## The pool -/

/-- The pool of R28 to R30, of the counts of its records. -/
structure PoolFits (dt : List Word) (l : List TrainRecord) (next : Byte) : Prop where
  length : l.length ≤ 16
  approaches : ∀ a, (l.filter fun r => r.approach = a).length ≤ 4
  counted : ∀ r ∈ l, RecordCounted dt r
  next : next ≠ 0
  tags : (l.map (·.tag)).Nodup
  tagged : ∀ r ∈ l, r.tag ≠ 0

section
variable {dt : List Word} {l : List TrainRecord} {next : Byte} {i : Nat} {x r : TrainRecord} {s t : State}

theorem RecordCounted.counts_iff : RecordCounted dt (counts r) ↔ RecordCounted dt r :=
  ⟨fun ⟨h1, h2, h3, h4, h5⟩ => ⟨h1, h2, h3, h4, h5⟩, fun ⟨h1, h2, h3, h4, h5⟩ => ⟨h1, h2, h3, h4, h5⟩⟩

theorem poolFits_iff : PoolFits s.detTab (s.tracker.records.map counts) s.tracker.nextTag ↔ PoolSound s ∧ TagsSound s := by
  have htags : (s.tracker.records.map counts).map (·.tag) = s.tracker.records.map (·.tag) := List.map_map
  constructor
  · rintro ⟨hlen, happ, hcount, hnext, hnodup, htagged⟩
    refine ⟨⟨by rwa [List.length_map] at hlen, fun a => by rw [recordsOf_length_eq]; exact happ a, fun r hr => ?_⟩,
      hnext, htags ▸ hnodup, fun r hr => htagged (counts r) (List.mem_map_of_mem hr)⟩
    obtain ⟨h1, h2, h3, h4, h5⟩ := RecordCounted.counts_iff.mp (hcount _ (List.mem_map_of_mem hr))
    exact ⟨h1, h2, h3, h4, h5⟩
  · rintro ⟨⟨hlen, happ, hcount⟩, hnext, hnodup, htagged⟩
    refine ⟨by rwa [List.length_map], fun a => by rw [← recordsOf_length_eq]; exact happ a, ?_, hnext, htags ▸ hnodup, ?_⟩
    all_goals
      intro y hy
      obtain ⟨r, hr, rfl⟩ := List.mem_map.mp hy
    · obtain ⟨h1, h2, h3, h4, h5⟩ := hcount r hr
      exact RecordCounted.counts_iff.mpr ⟨h1, h2, h3, h4, h5⟩
    · exact htagged r hr

theorem PoolFits.erase (h : PoolFits dt l next) (i : Nat) : PoolFits dt (l.eraseIdx i) next where
  length := (List.eraseIdx_sublist ..).length_le.trans h.length
  approaches a := ((List.eraseIdx_sublist ..).filter _).length_le.trans (h.approaches a)
  counted r hr := h.counted r ((List.eraseIdx_sublist ..).subset hr)
  next := h.next
  tags := h.tags.sublist ((List.eraseIdx_sublist ..).map _)
  tagged r hr := h.tagged r ((List.eraseIdx_sublist ..).subset hr)

theorem PoolFits.set (h : PoolFits dt l next) (hx : l[i]? = some x) (hr : RecordCounted dt r)
    (ha : r.approach = x.approach) (htag : r.tag = x.tag) : PoolFits dt (l.set i r) next := by
  have hmap : ∀ {β : Type} (f : TrainRecord → β), f r = f x → (l.set i r).map f = l.map f := fun f hf => by
    rw [List.map_set, hf]
    exact set_of_getElem? (by rw [List.getElem?_map, hx]; rfl)
  have hmem : x ∈ l := List.mem_of_getElem? hx
  refine ⟨by rw [List.length_set]; exact h.length, fun a => ?_, fun y hy => ?_, h.next,
    by rw [hmap (·.tag) htag]; exact h.tags, fun y hy => ?_⟩
  · have hcount := congrArg (List.length ∘ List.filter (fun b => decide (b = a))) (hmap (·.approach) ha)
    simp only [Function.comp_apply, List.filter_map, List.length_map] at hcount
    exact hcount.trans_le (h.approaches a)
  · rcases List.mem_or_eq_of_mem_set hy with hy | rfl
    · exact h.counted y hy
    · exact hr
  · rcases List.mem_or_eq_of_mem_set hy with hy | rfl
    · exact h.tagged y hy
    · rw [htag]; exact h.tagged x hmem

theorem PoolFits.append (h : PoolFits dt l next) (hr : RecordCounted dt r) (hlen : l.length < 16)
    (happ : (l.filter fun y => y.approach = r.approach).length < 4) (hfree : ∀ y ∈ l, y.tag ≠ r.tag)
    (htag : r.tag ≠ 0) : PoolFits dt (l ++ [r]) (tagAfter r.tag) where
  length := by rw [List.length_append, List.length_singleton]; omega
  approaches a := by
    rw [List.filter_append, List.length_append]
    by_cases ha : r.approach = a
    · subst ha
      rw [List.filter_singleton, decide_eq_true rfl, cond_true, List.length_singleton]
      omega
    · rw [List.filter_singleton, decide_eq_false ha, cond_false, List.length_nil]
      exact h.approaches a
  counted y hy := by
    rcases List.mem_append.mp hy with hy | hy
    · exact h.counted y hy
    · exact List.mem_singleton.mp hy ▸ hr
  next := tagAfter_ne_zero _
  tags := by
    rw [List.map_append, List.nodup_append]
    refine ⟨h.tags, List.nodup_singleton _, fun a ha b hb => ?_⟩
    obtain ⟨y, hy, rfl⟩ := List.mem_map.mp ha
    obtain rfl := List.mem_singleton.mp hb
    exact hfree y hy
  tagged y hy := by
    rcases List.mem_append.mp hy with hy | hy
    · exact h.tagged y hy
    · exact List.mem_singleton.mp hy ▸ htag

/-! ## The pool after each event -/

/-- The pool fits the tables and the next tag of a state. -/
def PoolKept (s : State) : Prop := PoolFits s.detTab (s.tracker.records.map counts) s.tracker.nextTag

theorem PoolKept.of_counts (h : PoolKept s) (hc : t.tracker.records.map counts = s.tracker.records.map counts)
    (hn : t.tracker.nextTag = s.tracker.nextTag) (hd : t.detTab = s.detTab) : PoolKept t := by
  rwa [PoolKept, hc, hn, hd]

theorem PoolKept.record (h : PoolKept s) (hx : s.tracker.records[i]? = some x) : RecordCounted s.detTab x :=
  RecordCounted.counts_iff.mp (h.counted _ (List.mem_map_of_mem (List.mem_of_getElem? hx)))

/-- A record replaced, or gone where that lets it retire (R43). -/
theorem PoolKept.checked (h : PoolKept s) (hx : s.tracker.records[i]? = some x) (ha : r.approach = x.approach)
    (htag : r.tag = x.tag) (hd : t.detTab = s.detTab) (hn : t.tracker.nextTag = s.tracker.nextTag)
    (hr : retirement s.detTab r = none → RecordCounted s.detTab r)
    (hc : t.tracker.records.map counts = if (retirement s.detTab r).isNone then
      (s.tracker.records.map counts).set i (counts r) else (s.tracker.records.map counts).eraseIdx i) :
    PoolKept t := by
  rw [PoolKept, hc, hn, hd]
  split
  next hstays =>
    refine PoolFits.set (x := counts x) h (by rw [List.getElem?_map, hx]; rfl) (RecordCounted.counts_iff.mpr ?_) ha htag
    exact hr (Option.isNone_iff_eq_none.mp hstays)
  next => exact PoolFits.erase h i

theorem PoolKept.createRecord (a : Nat) (w : WheelPassage) (h : PoolKept s) (hroom : s.noRoom a = false) :
    PoolKept (createRecord a w s) := by
  have hnot := mt noRoom_iff.mpr (by simp [hroom] : ¬ s.noRoom a = true)
  rw [not_or, Nat.not_le, Nat.not_le] at hnot
  obtain ⟨hlen, happ⟩ := hnot
  have hT : Touches [.fault, .tracker] s (Machine.createRecord a w s) := createRecord_touches a w (by decide) (.refl _ s)
  have hdet : (Machine.createRecord a w s).detTab = s.detTab := hT.detTab_eq
  obtain ⟨hfree, -⟩ := tagGiven_spec (s := s) (by omega)
  have happend := PoolFits.append h (r := createdRecord s.detTab a s.tagGiven w.passage) (createdRecord_counted ..)
    (by rw [List.length_map]; exact hlen) (by rw [← recordsOf_length_eq]; exact happ)
    (fun y hy => by obtain ⟨z, hz, rfl⟩ := List.mem_map.mp hy; exact hfree z hz) (tagGiven_ne_zero h.next)
  rw [PoolKept, createRecord_tracker, hdet, List.map_append, List.map_singleton, counts_recordCreated]
  exact happend

theorem PoolKept.setOverflow (a n : Nat) (h : PoolKept s) : PoolKept (setOverflow a n s) := by
  unfold Machine.setOverflow
  split
  · exact h
  · have hT : ∀ u, Touches [.fault] u (raiseFault .trainTableFull a n u) := fun u =>
      raiseFault_touches _ _ _ (by decide) (.refl _ u)
    refine h.of_counts ?_ ?_ (hT _).detTab_eq
    · rw [(hT _).tracker_eq]; rfl
    · rw [(hT _).tracker_eq]; rfl

/-- A strike-in wheel counted into a record, whatever its call makes of it (R32, R34). -/
theorem PoolKept.struckInto {p : Time} (h : PoolKept s) (hx : s.tracker.records[i]? = some x)
    (hlt : passedAt x 0 < 1023) (hc : counts r = counts (entered p x)) (hd : t.detTab = s.detTab)
    (ht : t.tracker = { s.tracker with records := s.tracker.records.set i r }) : PoolKept t := by
  have hset : t.tracker.records.map counts = (s.tracker.records.map counts).set i (counts (entered p x)) := by
    rw [ht, List.map_set, hc]
  rw [PoolKept, hset, hd, ht]
  exact PoolFits.set (x := counts x) h (by rw [List.getElem?_map, hx]; rfl)
    (RecordCounted.counts_iff.mpr (entered_counted p (h.record hx) hlt)) rfl rfl

theorem PoolKept.strikeIn (a : Nat) (w : WheelPassage) (h : PoolKept s) : PoolKept (strikeIn a w s).1 := by
  unfold Machine.strikeIn
  split
  · split
    · exact h.setOverflow a 0
    next hroom => exact h.createRecord a w ((Bool.not_eq_true _).mp hroom)
  next i x hnewest =>
    simp only [Option.bind_eq_some_iff, Option.map_eq_some_iff, Prod.mk.injEq] at hnewest
    obtain ⟨j, -, y, hx, rfl, rfl⟩ := hnewest
    split
    next hopen =>
      split
      · exact h.setOverflow a 1
      next hlt =>
        refine h.struckInto (p := w.passage) (r := addEntryWheel w.passage y) hx (Nat.not_le.mp hlt) ?_ rfl rfl
        rw [addEntryWheel_of_open hopen]
    next =>
      split
      next hroom => exact h.createRecord a w (by simpa using hroom)
      next =>
        split
        · exact h.setOverflow a 1
        next hlt =>
          have hT : Touches [.fault, .tracker] s (mergeRecord j y w s) := mergeRecord_touches j y w (by decide) (.refl _ s)
          refine h.struckInto (p := w.passage) hx (Nat.not_le.mp hlt) ?_ hT.detTab_eq mergeRecord_tracker
          rw [counts_actOnStart, counts_mergeCall]
          rfl

theorem PoolKept.takeInward (a k : Nat) (w : WheelPassage) (h : PoolKept s) (hx : s.tracker.records[i]? = some x)
    (htake : canTakeInward a (k + 1) x = true) : PoolKept (takeInward i (k + 1) w s) := by
  have hT : Touches [.portA, .portB, .tracker, .fault, .queue .status] s (Machine.takeInward i (k + 1) w s) :=
    takeInward_touches i (k + 1) w (by decide) (.refl _ s)
  have hnext : (Machine.takeInward i (k + 1) w s).tracker.nextTag = s.tracker.nextTag := by
    simp only [Machine.takeInward, hx, checkRetirement_nextTag]
    split
    · have hhead := headPassage_touched (s := s) (w := w) (k := k + 1) (islandEntryIndex s.detTab x.approach)
        (withPassed (k + 1) (passedAt x (k + 1) + 1) x)
      exact (congrArg Tracker.nextTag hhead.tracker_eq :)
    · rfl
  have hlt : passedAt x (k + 1) < passedAt x k := by
    rw [canTakeInward, Bool.and_eq_true, decide_eq_true_eq, decide_eq_true_eq] at htake
    exact htake.2
  exact h.checked (r := advanced (k + 1) w.passage x) hx rfl rfl hT.detTab_eq hnext
    (fun hstays => advanced_counted w.passage (h.record hx) hlt hstays)
    (takeInward_counts hx)

theorem PoolKept.takeOutward (a k : Nat) (h : PoolKept s) (hx : s.tracker.records[i]? = some x)
    (hgive : canGiveBack a k x = true) : PoolKept (takeOutward i k s) := by
  have hT : Touches [.portA, .portB, .tracker, .fault, .queue .status] s (Machine.takeOutward i k s) :=
    takeOutward_touches i k (by decide) (.refl _ s)
  have hlt : passedAt x (k + 1) < passedAt x k := by
    rw [canGiveBack, Bool.and_eq_true, decide_eq_true_eq, decide_eq_true_eq] at hgive
    exact hgive.2
  have hi : i < s.tracker.records.length := (List.getElem?_eq_some_iff.mp hx).1
  refine h.checked (r := { x with passed := x.passed.set k (passedAt x k - 1), receding := true }) hx rfl rfl hT.detTab_eq
    ?_ (fun hstays => givenBack_counted (h.record hx) hlt hstays) ?_
  · rw [takeOutward_eq hx, checkRetirement_nextTag]
    rfl
  · rw [takeOutward_eq hx, checkRetirement_putRecord_counts hi]

theorem PoolKept.closeEntry (h : PoolKept s) (hx : s.tracker.records[i]? = some x) :
    PoolKept (checkRetirement i (putRecord i { x with entryOpen := false } s)) := by
  have hT : Touches [.portA, .portB, .tracker, .fault, .queue .status] s
      (checkRetirement i (putRecord i { x with entryOpen := false } s)) :=
    checkRetirement_touches i (by decide) (putRecord_touches _ _ (by decide) (.refl _ s))
  have hi : i < s.tracker.records.length := (List.getElem?_eq_some_iff.mp hx).1
  have hcounted := h.record hx
  refine h.checked (r := { x with entryOpen := false }) hx rfl rfl hT.detTab_eq ?_ (fun hstays => ?_)
    (checkRetirement_putRecord_counts hi _)
  · rw [checkRetirement_nextTag]
    rfl
  · exact ⟨hcounted.falling, hcounted.entered, hcounted.peak, hcounted.bound, hstays⟩

theorem poolKept_rule : TrackRule (fun _ => True) PoolKept where
  stay hc ht h := h.of_counts (by rw [ht]) (by rw [ht]) (by rw [State.detTab, hc]; rfl)
  watched u h := by
    refine h.of_counts ?_ rfl rfl
    show (u.tracker.records.map (superviseRecord (clearOverflow u))).map counts = _
    rw [List.map_map]
    exact List.map_congr_left fun r _ => (superviseRecord_warns _).counts_eq r
  struckIn a w _ _ h _ := h.strikeIn a w
  tookInward a _ k w _ _ h hx htake := h.takeInward a k w hx htake
  tookOutward a _ k _ _ h hx hgive := h.takeOutward a k hx hgive
  entryClosed _ _ _ h hx := h.closeEntry hx
  startDue i r u h hx _ := by
    refine h.of_counts ?_ rfl rfl
    show (u.tracker.records.set i (warnRecord u.now r)).map counts = _
    rw [List.map_set, counts_warnRecord]
    exact set_of_getElem? (by rw [List.getElem?_map, hx]; rfl)
  discarded ht h := by
    rw [PoolKept, ht]
    exact ⟨Nat.zero_le _, fun _ => Nat.zero_le _, (fun _ hr => by cases hr), h.next, List.nodup_nil,
      fun _ hr => by cases hr⟩

theorem hardwareReset_poolKept (strap : BitVec 12) (s : State) : PoolKept (hardwareReset strap s) :=
  ⟨Nat.zero_le _, fun _ => Nat.zero_le _, (fun _ hr => by cases hr), by show (1 : Byte) ≠ 0; decide, List.nodup_nil,
    fun _ hr => by cases hr⟩

theorem poolKept_step (h : PoolSound s) (ht : TagsSound s) (hstep : step s = .next t) : PoolSound t ∧ TagsSound t :=
  poolFits_iff.mp (poolKept_rule.step hardwareReset_poolKept (poolFits_iff.mpr ⟨h, ht⟩) trivial hstep)

end

end Sys2Proof.Machine
end

section
/-! PROOFS. Predicates of single train records through every event, the fields of a record's state, and supervision
(R29, R47), for the statement O58. -/

namespace Sys2Proof.Machine

/-! ## What an event makes of a record -/

/-- The record `x` with its counts, entry, head and marks changed, its state's fields not. -/
structure Recounted (x r : TrainRecord) : Prop where
  length : r.passed.length = x.passed.length
  approach : r.approach = x.approach
  state : r.state = x.state
  scheduledStart : r.scheduledStart = x.scheduledStart
  warnedAt : r.warnedAt = x.warnedAt
  islandEntry : r.islandEntry = x.islandEntry
  achieved : r.achieved = x.achieved

theorem Recounted.refl (x : TrainRecord) : Recounted x x := ⟨rfl, rfl, rfl, rfl, rfl, rfl, rfl⟩

theorem checkCall_recounted (w : WheelPassage) (r : TrainRecord) (s : State) : Recounted r (checkCall w r s).1 := by
  obtain ⟨_, _, _, hx⟩ := speedStages_record (w := w) (creation := false) (r := r) (s := s)
  rw [checkCall, hx]
  exact ⟨rfl, rfl, rfl, rfl, rfl, rfl, rfl⟩

/-- A predicate of the tables and a train record, under an assumption `A` on the tables: what is left to show for every
record of the pool to keep it. -/
structure RecordRule (A : SafetyTables → Prop) (F : List Word → TrainRecord → Prop) : Prop where
  recounted : ∀ {dt x r}, Recounted x r → F dt x → F dt r
  warned : ∀ {dt x} now, F dt x → x.state = .approaching → F dt (warnRecord now x)
  scheduled : ∀ {x} w c (u : State), F u.detTab x → x.state = .approaching → F u.detTab (scheduleCall w c x u).1
  islanded : ∀ {x} w c (u : State), F u.detTab x → x.state ≠ .inIsland → F u.detTab (islandCall w c x u).1
  created : ∀ a w (u : State), A u.config.tables → pathIndex u.detTab a w.detector = some 0 →
    F u.detTab (creationCall w (createdRecord u.detTab a u.tagGiven w.passage) u).1

/-- Every record of the pool meets a predicate. -/
def PoolMeets (F : List Word → TrainRecord → Prop) (s : State) : Prop := ∀ r ∈ s.tracker.records, F s.detTab r

section
variable {A : SafetyTables → Prop} {F : List Word → TrainRecord → Prop} {s t : State} {i : Nat} {x r : TrainRecord}

theorem PoolMeets.of_records (h : PoolMeets F s) (hr : t.tracker.records = s.tracker.records) (hd : t.detTab = s.detTab) :
    PoolMeets F t := by
  rwa [PoolMeets, hr, hd]

theorem PoolMeets.record (h : PoolMeets F s) (hx : s.tracker.records[i]? = some x) : F s.detTab x :=
  h x (List.mem_of_getElem? hx)

theorem PoolMeets.set (h : PoolMeets F s) (hr : F s.detTab r) (ht : t.tracker.records = s.tracker.records.set i r)
    (hd : t.detTab = s.detTab) : PoolMeets F t := by
  intro y hy
  rw [ht] at hy
  rw [hd]
  rcases List.mem_or_eq_of_mem_set hy with hy | rfl
  · exact h y hy
  · exact hr

/-- A record put in its place and checked for retirement. -/
theorem PoolMeets.checked (h : PoolMeets F s) (hr : F s.detTab r) : PoolMeets F (checkRetirement i (putRecord i r s)) := by
  have hput : PoolMeets F (putRecord i r s) := h.set hr rfl rfl
  unfold Machine.checkRetirement
  split
  · exact hput
  next z _ =>
    split
    · exact hput
    next o _ =>
      have hT : Touches [.portA, .portB, .fault, .queue .status] (putRecord i r s)
          (handPassageReport o z (putRecord i r s)) := handPassageReport_touches o z (by decide) (.refl _ _)
      intro y hy
      have hy' : y ∈ (handPassageReport o z (putRecord i r s)).tracker.records.eraseIdx i := hy
      rw [hT.tracker_eq] at hy'
      have hmeets := hput y (List.mem_of_mem_eraseIdx hy')
      rwa [← hT.detTab_eq] at hmeets

theorem RecordRule.warns (hF : RecordRule A F) {now : Time} {f : TrainRecord → TrainRecord} (hf : Warns now f)
    {dt : List Word} (h : F dt x) : F dt (f x) := by
  rcases hf x with heq | ⟨hstate, heq⟩
  · rwa [heq]
  · rw [heq]
    exact hF.warned now h hstate

theorem RecordRule.setOverflow (a n : Nat) (h : PoolMeets F s) : PoolMeets F (setOverflow a n s) := by
  unfold Machine.setOverflow
  split
  · exact h
  · have hT : ∀ u, Touches [.fault] u (raiseFault .trainTableFull a n u) := fun u =>
      raiseFault_touches _ _ _ (by decide) (.refl _ u)
    exact h.of_records (by rw [(hT _).tracker_eq]; rfl) (hT _).detTab_eq

theorem RecordRule.createRecord (hF : RecordRule A F) (a : Nat) (w : WheelPassage) (hA : A s.config.tables)
    (hpath : pathIndex s.detTab a w.detector = some 0) (h : PoolMeets F s) : PoolMeets F (createRecord a w s) := by
  have hT : Touches [.fault, .tracker] s (Machine.createRecord a w s) := createRecord_touches a w (by decide) (.refl _ s)
  intro y hy
  rw [createRecord_tracker] at hy
  rw [hT.detTab_eq]
  rcases List.mem_append.mp hy with hy | hy
  · exact h y hy
  · rw [List.mem_singleton.mp hy]
    exact hF.warns (actOnStart_warns _) (hF.created a w s hA hpath)

theorem addEntryWheel_recounted (p : Time) (x : TrainRecord) : Recounted x (addEntryWheel p x) :=
  ⟨List.length_set, rfl, rfl, rfl, rfl, rfl, rfl⟩

theorem RecordRule.strikeIn (hF : RecordRule A F) (a : Nat) (w : WheelPassage) (hA : A s.config.tables)
    (hpath : pathIndex s.detTab a w.detector = some 0) (h : PoolMeets F s) : PoolMeets F (strikeIn a w s).1 := by
  unfold Machine.strikeIn
  split
  · split
    · exact setOverflow a 0 h
    · exact hF.createRecord a w hA hpath h
  next i x hnewest =>
    simp only [Option.bind_eq_some_iff, Option.map_eq_some_iff, Prod.mk.injEq] at hnewest
    obtain ⟨j, -, y, hx, rfl, rfl⟩ := hnewest
    split
    · split
      · exact setOverflow a 1 h
      · exact h.set (hF.recounted (addEntryWheel_recounted w.passage y) (h.record hx)) rfl rfl
    · split
      · exact hF.createRecord a w hA hpath h
      · split
        · exact setOverflow a 1 h
        · have hT : Touches [.fault, .tracker] s (mergeRecord j y w s) := mergeRecord_touches j y w (by decide) (.refl _ s)
          have hmerged : F s.detTab (mergedRecord w.passage y) :=
            hF.recounted ⟨List.length_set, rfl, rfl, rfl, rfl, rfl, rfl⟩ (h.record hx)
          refine h.set (hF.warns (actOnStart_warns s.now) ?_) (by rw [mergeRecord_tracker]) hT.detTab_eq
          unfold mergeCall
          split
          next ha => exact hF.scheduled w false s hmerged ha
          next => exact hF.recounted (checkCall_recounted ..) hmerged

theorem RecordRule.headPassage (hF : RecordRule A F) (w : WheelPassage) (k ke : Nat) (h : F s.detTab x) :
    F s.detTab (headPassage w k ke x s).1 := by
  have hmoved : F s.detTab { x with headDetector := k, headTime := w.passage } :=
    hF.recounted (x := x) ⟨rfl, rfl, rfl, rfl, rfl, rfl, rfl⟩ h
  refine hF.warns (actOnStart_warns s.now) ?_
  unfold headCall
  split
  next hisland => exact hF.islanded w false s hmoved hisland.2
  next =>
    split
    next hstart => exact hF.scheduled w false s hmoved hstart.1
    next => exact hF.recounted (checkCall_recounted ..) hmoved

theorem RecordRule.takeInward (hF : RecordRule A F) (k : Nat) (w : WheelPassage)
    (hx : s.tracker.records[i]? = some x) (h : PoolMeets F s) : PoolMeets F (takeInward i k w s) := by
  have hcounted : F s.detTab (withPassed k (passedAt x k + 1) x) :=
    hF.recounted ⟨List.length_set, rfl, rfl, rfl, rfl, rfl, rfl⟩ (h.record hx)
  simp only [Machine.takeInward, hx]
  split
  · have hT := headPassage_touched (s := s) (w := w) (k := k) (islandEntryIndex s.detTab x.approach)
      (withPassed k (passedAt x k + 1) x)
    have hhead : PoolMeets F (Machine.headPassage w k (islandEntryIndex s.detTab x.approach)
        (withPassed k (passedAt x k + 1) x) s).2 := h.of_records (by rw [hT.tracker_eq]) hT.detTab_eq
    refine hhead.checked ?_
    rw [hT.detTab_eq]
    exact hF.headPassage w k _ hcounted
  · exact h.checked hcounted

/-- A predicate of single records is kept by what each event does to the pool. -/
theorem RecordRule.trackRule (hF : RecordRule A F) : TrackRule A (PoolMeets F) where
  stay hc ht h := h.of_records (by rw [ht]) (by rw [State.detTab, hc]; rfl)
  watched u h := by
    intro y hy
    obtain ⟨r, hr, rfl⟩ := List.mem_map.mp (show y ∈ u.tracker.records.map (superviseRecord (clearOverflow u)) from hy)
    exact hF.warns (superviseRecord_warns _) (h r hr)
  struckIn a w _ hA h hpath := hF.strikeIn a w hA hpath h
  tookInward _ _ k w _ _ h hx _ := hF.takeInward (k + 1) w hx h
  tookOutward _ _ k x u h hx _ := by
    rw [takeOutward_eq hx]
    exact h.checked (hF.recounted ⟨List.length_set, rfl, rfl, rfl, rfl, rfl, rfl⟩ (h.record hx))
  entryClosed _ x _ h hx := h.checked (hF.recounted (x := x) ⟨rfl, rfl, rfl, rfl, rfl, rfl, rfl⟩ (h.record hx))
  startDue _ x u h hx hdue := by
    refine h.set (hF.warned u.now (h.record hx) ?_) rfl rfl
    by_contra hne
    simp [approachingStart, hne] at hdue
  discarded ht _ r hr := by
    rw [ht] at hr
    cases hr

/-! ## The fields of a record's state -/

theorem scheduleCall_fieldsSound {w : WheelPassage} {c : Bool} (ha : x.state = .approaching)
    (hw : x.warnedAt = none) (hi : x.islandEntry = none) (hc : x.achieved = none) :
    recordFieldsSound (scheduleCall w c x s).1 = true := by
  obtain ⟨_, _, _, _, hx⟩ := scheduleCall_record (w := w) (creation := c) (r := x) (s := s)
  rw [hx]
  simp [recordFieldsSound, ha, hw, hi, hc]

/-- A call at the island-entry leaves a record that was not IN_ISLAND with the fields of IN_ISLAND (R39). -/
theorem islandCall_fieldsSound {w : WheelPassage} {c : Bool}
    (h : x.state ≠ .approaching → x.scheduledStart = none ∧ x.warnedAt.isSome = true) :
    recordFieldsSound (islandCall w c x s).1 = true := by
  obtain ⟨_, _, _, _, _, hx⟩ := islandWarned_record (w := w) (creation := c) (r := x) (s := s)
  rw [islandCall_eq, judgeAchieved_record, hx]
  by_cases ha : x.state = .approaching
  · simp [recordFieldsSound, ha]
  · obtain ⟨hs, hw⟩ := h ha
    simp [recordFieldsSound, ha, hs, hw]

theorem recordFieldsSound_of_approaching (h : recordFieldsSound x = true) (ha : x.state = .approaching) :
    x.scheduledStart.isSome = true ∧ x.warnedAt = none ∧ x.islandEntry = none ∧ x.achieved = none := by
  simp only [recordFieldsSound, ha, Bool.and_eq_true, Option.isNone_iff_eq_none] at h
  obtain ⟨⟨⟨h1, h2⟩, h3⟩, h4⟩ := h
  exact ⟨h1, h2, h3, h4⟩

theorem recordFields_rule : RecordRule (fun _ => True) (fun _ r => recordFieldsSound r = true) where
  recounted hr h := by
    simpa only [recordFieldsSound, hr.state, hr.scheduledStart, hr.warnedAt, hr.islandEntry, hr.achieved] using h
  warned now h ha := by
    obtain ⟨-, -, hi, hc⟩ := recordFieldsSound_of_approaching h ha
    simp [recordFieldsSound, warnRecord, hi, hc]
  scheduled _ _ _ h ha := by
    obtain ⟨-, hw, hi, hc⟩ := recordFieldsSound_of_approaching h ha
    exact scheduleCall_fieldsSound ha hw hi hc
  islanded {x} _ _ _ h hi := by
    refine islandCall_fieldsSound fun ha => ?_
    cases hs : x.state with
    | approaching => exact absurd hs ha
    | inIsland => exact absurd hs hi
    | warned =>
      simp only [recordFieldsSound, hs, Bool.and_eq_true, Option.isNone_iff_eq_none] at h
      obtain ⟨⟨⟨h1, h2⟩, -⟩, -⟩ := h
      exact ⟨h1, h2⟩
  created a w u _ _ := by
    unfold creationCall
    split
    · exact islandCall_fieldsSound fun ha => absurd rfl ha
    · exact scheduleCall_fieldsSound rfl rfl rfl rfl

/-! ## Supervision -/

/-- No record is APPROACHING on an unsupervised approach (R47). -/
def PoolSupervised (s : State) : Prop :=
  ∀ r ∈ s.tracker.records, r.state = .approaching → s.unsupervised r.approach = false

theorem PoolSupervised.of_watch (h : PoolSupervised s) (hw : SameWatch s t) : PoolSupervised t := by
  rwa [PoolSupervised, hw.tracker, hw.unsupervised_eq]

theorem superviseRecord_supervised {y : TrainRecord} (hy : (superviseRecord s y).state = .approaching) :
    s.unsupervised (superviseRecord s y).approach = false := by
  unfold superviseRecord at hy ⊢
  split at hy
  · cases hy
  next hnot =>
    rw [if_neg hnot]
    exact (Bool.not_eq_true _).mp fun hu => hnot ⟨hy, hu⟩

/-- Supervision is read of the tables, the sections, the detectors and the overflow flags (R46). -/
theorem unsupervised_congr (hc : t.config = s.config) (ha : t.axle = s.axle)
    (ho : t.tracker.overflow = s.tracker.overflow) : t.unsupervised = s.unsupervised := by
  have hread : t.unsupervised = ({ s with
      config := t.config, axle := t.axle, tracker := { s.tracker with overflow := t.tracker.overflow } } : State).unsupervised :=
    rfl
  rw [hread, hc, ha, ho]

/-- A reaction leaves no record APPROACHING on an unsupervised approach, whatever was (R47). -/
theorem react_poolSupervised (s : State) : PoolSupervised (react s) := by
  have hT := actOnDemand_touches (L := [.portA, .portB, .seq, .lamp, .barrier, .cmd, .fault, .queue .command]) (by decide)
    (.refl _ (warnUnsupervised (clearOverflow s)))
  have hsup : (react s).unsupervised = (clearOverflow s).unsupervised :=
    unsupervised_congr hT.config_eq hT.axle_eq (by rw [react_tracker])
  intro r hr hstate
  rw [react_tracker] at hr
  obtain ⟨y, -, rfl⟩ := List.mem_map.mp hr
  rw [hsup]
  exact superviseRecord_supervised hstate

theorem poolSupervised_of_discarded (h : t.tracker.records = []) : PoolSupervised t := fun r hr => by
  rw [h] at hr
  cases hr

theorem poolSupervised_rule : WatchRule PoolSupervised where
  stay hw h := h.of_watch hw
  reacted := react_poolSupervised
  moves := ⟨fun {u v} h m => by
    have hT := m.touches
    have hsup := unsupervised_congr hT.config_eq hT.axle_eq (congrArg Tracker.overflow hT.tracker_eq)
    rwa [PoolSupervised, hT.tracker_eq, hsup]⟩
  begun pid crc u _ := by
    have hT : Touches [.portA, .portB, .seq, .lamp, .barrier, .cmd, .fault, .queue .command] (anewBegun pid crc u)
        (sequenceAfterActivation (anewBegun pid crc u)) := sequenceAfterActivation_touches (by decide) (.refl _ _)
    obtain ⟨-, -, htracker, -⟩ := reinitialise_blocks u.seq.state (sectionsAnew pid crc u) (takenIn pid crc u)
    exact poolSupervised_of_discarded (by rw [hT.tracker_eq, anewBegun, htracker])
  kept u _ := by
    have hT : Touches [.portA, .portB, .seq, .lamp, .barrier, .cmd, .fault, .queue .command] (keptBegun u)
        (leaveInitSafe (keptBegun u)) := leaveInitSafe_touches (by decide) (.refl _ _)
    obtain ⟨-, -, htracker, -⟩ := reinitialise_blocks .initSafe (sectionsRestarted (raiseNotice 33 0 u).axle.sections)
      (raiseNotice 33 0 u)
    exact poolSupervised_of_discarded (by rw [hT.tracker_eq, keptBegun, htracker])
  emptied code u := by
    obtain ⟨htracker, -⟩ := reinitialiseEmpty_blocks (emptySafety (raiseNotice 33 code u))
    exact poolSupervised_of_discarded (by rw [emptiedBegun, htracker])

/-! ## Both -/

theorem recordsSound_iff : RecordsSound s ↔ PoolMeets (fun _ r => recordFieldsSound r = true) s ∧ PoolSupervised s :=
  ⟨fun h => ⟨fun r hr => (h r hr).1, fun r hr => (h r hr).2⟩, fun ⟨h, k⟩ r hr => ⟨h r hr, k r hr⟩⟩

theorem recordsSound_step (h : RecordsSound s) (ht : step s = .next t) : RecordsSound t := by
  obtain ⟨hfields, hsup⟩ := recordsSound_iff.mp h
  exact recordsSound_iff.mpr
    ⟨recordFields_rule.trackRule.step (fun _ _ _ hr => by cases hr) hfields trivial ht,
      poolSupervised_rule.step (fun _ _ => poolSupervised_of_discarded rfl) hsup ht⟩

end

end Sys2Proof.Machine
end

section
/-! PROOFS. The lamp and barrier records are those the active tables give (R98, R116, R124), for the statement O58. -/

namespace Sys2Proof.Machine

/-! ## The lamp records -/

/-- Which lamps have a record, and how many modules. -/
def State.lampShape (s : State) : List Bool × Nat := (s.lamp.lamps.map Option.isSome, s.lamp.modules.length)

/-- The lamp records and modules are those of the equipment table (R98). -/
def LampFits (s : State) : Prop :=
  s.lampShape = ((List.range 16).map (lampInUse s.eqTab), (modulesOfType s.eqTab .lamp).length)

section
variable {s t : State}

theorem lampShape_congr (h : t.lamp = s.lamp) : t.lampShape = s.lampShape := by
  rw [State.lampShape, h]
  rfl

theorem Touches.lampShape_eq {L : List Block} (h : Touches L s t) (hL : .lamp ∉ L := by decide) :
    t.lampShape = s.lampShape := lampShape_congr (h.lamp_eq hL)

theorem LampFits.of_shape (h : LampFits s) (hs : t.lampShape = s.lampShape)
    (hc : t.config.tables = s.config.tables) : LampFits t := by
  have heq : t.eqTab = s.eqTab := by rw [State.eqTab, hc]; rfl
  rwa [LampFits, hs, heq]

theorem mapLamps_isSome (p : Nat → Bool) (f : LampRecord → LampRecord) (l : List (Option LampRecord)) :
    (mapLamps p f l).map Option.isSome = l.map Option.isSome := by
  refine List.ext_getElem? fun i => ?_
  rw [List.getElem?_map, List.getElem?_map, mapLamps, List.getElem?_mapIdx]
  cases l[i]? with
  | none => rfl
  | some o => cases o <;> cases p i <;> rfl

theorem setOnset_lampShape (s : State) : (setOnset s).lampShape = s.lampShape := by
  rw [State.lampShape, setOnset, unproveRedLamps, endLampFaults_lamp, State.setLamp_lamp, mapLamps_isSome]
  rfl

theorem redBegins_lampShape (s : State) : (redBegins s).lampShape = s.lampShape := by
  rw [State.lampShape, redBegins, State.setLamp_lamp, List.length_map]
  rfl

theorem enterState_lampShape (st : SeqState) (s : State) : (enterState st s).lampShape = s.lampShape :=
  (enterState_touches (L := [.portA, .portB, .seq, .cmd, .fault, .queue .command]) st (by decide)
    (.refl _ s)).lampShape_eq

theorem Move.lampShape_eq (m : Move s t) : t.lampShape = s.lampShape := by
  have hframe : ∀ {u v : State}, SequenceFrame sequenceClasses u v → v.lampShape = u.lampShape :=
    fun hF => hF.touches.lampShape_eq
  have hrefl := SequenceFrame.refl sequenceClasses s
  have hentry : ∀ u, SequenceFrame sequenceClasses u (entryBegun u) := fun u =>
    giveCommands_sequenceFrame _ _ (by decide) (enterState_sequenceFrame _ (by decide) (.refl _ u))
  cases m with
  | amber => exact (enterState_lampShape ..).trans (setOnset_lampShape s)
  | redFlash => exact (enterState_lampShape ..).trans (redBegins_lampShape s)
  | entry => exact hframe ((setSeq_sequenceFrame _ hrefl).trans (hentry _))
  | relowered => exact (hframe (hentry _)).trans ((redBegins_lampShape _).trans (setOnset_lampShape s))
  | exitDelay => exact hframe (setSeq_sequenceFrame _ (exitPhaseBegun_sequenceFrame hrefl))
  | exitAtOnce => exact hframe (exitLoweringBegun_sequenceFrame (exitPhaseBegun_sequenceFrame hrefl))
  | exitStarted => exact hframe (exitLoweringBegun_sequenceFrame hrefl)
  | closed => exact hframe (closedBegun_sequenceFrame hrefl)
  | raising => exact hframe (raisingBegun_sequenceFrame (by decide) (by decide) hrefl)
  | opened => exact hframe (enterState_sequenceFrame _ (by decide) hrefl)
  | prolonged => exact (checkProlonged_touched s).lampShape_eq
  | longClosure => exact (longClosureReached_touches (L := [.seq, .fault]) (by decide) (.refl _ s)).lampShape_eq

theorem Evolves.lampShape_eq (hev : Evolves s t) : t.lampShape = s.lampShape := by
  induction hev with
  | refl => rfl
  | counted _ hT ih => exact hT.lampShape_eq.trans ih
  | reported o r _ ih =>
    exact (handPassageReport_touches (L := [.portA, .portB, .fault, .queue .status]) o r (by decide)
      (.refl _ _)).lampShape_eq.trans ih
  | moved _ m ih => exact m.lampShape_eq.trans ih

theorem judgeLamp_lampShape (l : Nat) (k : SampleKind) (v : Nat) (s : State) :
    (judgeLamp l k v s).lampShape = s.lampShape := by
  cases hr : s.lampRecord l with
  | none => simp only [judgeLamp, hr]
  | some r =>
    refine (lampShape_congr (judgeLamp_lamp hr)).trans (Prod.ext (map_isSome_set hr _) rfl)

theorem judgeChannels_lampShape (j : Nat) (chs : List ChannelReport) (c : Nat) (s : State) :
    (judgeChannels j chs c s).lampShape = s.lampShape := by
  induction chs generalizing c s with
  | nil => rfl
  | cons ch rest ih =>
    rw [judgeChannels, ih]
    unfold judgeChannel
    split
    · rfl
    · split
      · rfl
      · split
        · rfl
        · exact judgeLamp_lampShape ..

theorem takeLampReport_lampShape (j m : Nat) (chs : List ChannelReport) (s : State) :
    (takeLampReport j m chs s).lampShape = s.lampShape := by
  rw [takeLampReport_eq, lampShape_congr (evaluateRoadLights_lamp _), judgeChannels_lampShape, State.lampShape,
    lampHeard_lamp, List.length_modify]
  rfl

theorem lampModuleSilence_lampShape (j : Nat) (s : State) : (lampModuleSilence j s).lampShape = s.lampShape := by
  rw [State.lampShape, lampModuleSilence_lamp, mapLamps_isSome, List.length_modify]
  rfl

theorem map_isSome_range {α : Type} (p : Nat → Bool) (f : Nat → α) (n : Nat) :
    ((List.range n).map fun i => if p i then some (f i) else none).map Option.isSome = (List.range n).map p := by
  rw [List.map_map]
  refine List.map_congr_left fun i _ => ?_
  rw [Function.comp_apply]
  split
  next hi => exact hi.symm
  next hi => exact ((Bool.not_eq_true _).mp hi).symm

theorem lampFits_of_initial {u : State} (h : t.lamp = lampInitial u) (heq : t.eqTab = u.eqTab) : LampFits t := by
  rw [LampFits, State.lampShape, h, heq, lampInitial, map_isSome_range (lampInUse u.eqTab) (fun _ => lampFresh),
    List.length_map]

theorem lampFits_of_empty (h : t.lamp = lampEmpty) (hc : t.config.tables = safetyEmpty) : LampFits t := by
  have heq : t.eqTab = safetyEmpty.equipment := by rw [State.eqTab, hc]
  obtain ⟨-, -, hlamps, -, hmodules, -⟩ := reset_geometrySound
  rw [LampFits, State.lampShape, h, heq]
  exact Prod.ext hlamps hmodules

theorem initSafeLeft_lampShape (s : State) : (initSafeLeft s).lampShape = s.lampShape :=
  (initSafeLeft_frame s).touches.lampShape_eq.trans ((redBegins_lampShape _).trans (setOnset_lampShape s))

theorem activationBegun_lampShape (s : State) : (activationBegun s).lampShape = s.lampShape := by
  unfold activationBegun
  split
  · exact initSafeLeft_lampShape s
  · exact (giveCommands_touches (L := [.portA, .portB, .barrier, .cmd, .fault, .queue .command]) _ _ (by decide)
      (.refl _ s)).lampShape_eq

theorem anewBegun_tables (pid crc : Word) (s : State) : (anewBegun pid crc s).config.tables
    = (takenIn pid crc s).config.tables := by
  obtain ⟨hconfig, -⟩ := reinitialise_blocks s.seq.state (sectionsAnew pid crc s) (takenIn pid crc s)
  rw [anewBegun, hconfig]

theorem lampFits_rule : SequenceRule LampFits where
  stay hT h := h.of_shape hT.touches.lampShape_eq hT.tables
  evolved hev h := h.of_shape hev.lampShape_eq (by rw [hev.touches.config_eq])
  proved _ h := h
  lampReport j m chs u h := h.of_shape (takeLampReport_lampShape j m chs u)
    (by rw [(takeLampReport_touches (L := [.lamp, .fault]) j m chs (by decide) (.refl _ u)).config_eq])
  lampSilence j u h := h.of_shape (lampModuleSilence_lampShape j u)
    (by rw [(lampModuleSilence_touches (L := [.lamp, .fault]) j (by decide) (.refl _ u)).config_eq])
  barrierReport j m pos echo u h := by
    have hT := takeBarrierReport_touches j m pos echo (List.Subset.refl _) (.refl _ u)
    exact h.of_shape hT.lampShape_eq (by rw [hT.config_eq])
  barrierSilence j u h := by
    have hT := barrierModuleSilence_touches j (List.Subset.refl _) (.refl _ u)
    exact h.of_shape hT.lampShape_eq (by rw [hT.config_eq])
  proving b _ u h _ _ := by
    have hT := expireProof_touches b (List.Subset.refl _) (.refl _ u)
    exact h.of_shape hT.lampShape_eq (by rw [hT.config_eq])
  exitWait b _ u h _ _ := by
    have hT := expireExitWait_touches b (List.Subset.refl _) (.refl _ u)
    exact h.of_shape hT.lampShape_eq (by rw [hT.config_eq])
  presenceReport j m v u h := by
    have hT := takePresenceReport_touches j m v (List.Subset.refl _) (.refl _ u)
    exact h.of_shape hT.lampShape_eq (by rw [hT.config_eq])
  presenceSilence j u h := by
    have hT := presenceModuleSilence_touches j (List.Subset.refl _) (.refl _ u)
    exact h.of_shape hT.lampShape_eq (by rw [hT.config_eq])
  begun pid crc u _ _ _ := by
    obtain ⟨-, -, -, -, hlamp, -⟩ := reinitialise_blocks u.seq.state (sectionsAnew pid crc u) (takenIn pid crc u)
    have hfits : LampFits (anewBegun pid crc u) :=
      lampFits_of_initial hlamp (by rw [State.eqTab, anewBegun_tables]; rfl)
    exact hfits.of_shape (activationBegun_lampShape _) (by rw [(activationBegun_touched _).config_eq])
  kept u _ _ := by
    obtain ⟨-, -, -, -, hlamp, -⟩ := reinitialise_blocks .initSafe
      (sectionsRestarted (raiseNotice 33 0 u).axle.sections) (raiseNotice 33 0 u)
    have hfits : LampFits (keptBegun u) := lampFits_of_initial hlamp (by rw [State.eqTab, keptBegun_config]; rfl)
    exact hfits.of_shape (initSafeLeft_lampShape _) (by rw [(initSafeLeft_touched _).config_eq])
  emptied code u _ := by
    obtain ⟨-, -, hlamp, -⟩ := reinitialiseEmpty_blocks (emptySafety (raiseNotice 33 code u))
    exact lampFits_of_empty hlamp (by rw [emptiedBegun_config])

/-! ## The barrier records -/

/-- How many barrier and presence modules are supervised. -/
def State.supervised (s : State) : Nat × Nat := (s.barrier.modules.length, s.barrier.presence.length)

/-- The barrier records and modules are those of the equipment table (R116, R124). -/
structure BarrierFits (s : State) : Prop where
  places : s.barrierShape = (List.range 4).map (barrierInUse s.eqTab)
  modules : s.supervised = ((modulesOfType s.eqTab .barrier).length, (modulesOfType s.eqTab .presence).length)

theorem BarrierFits.of_shape (h : BarrierFits s) (hp : t.barrierShape = s.barrierShape) (hm : t.supervised = s.supervised)
    (hc : t.config.tables = s.config.tables) : BarrierFits t := by
  have heq : t.eqTab = s.eqTab := by rw [State.eqTab, hc]; rfl
  exact ⟨by rw [hp, heq, h.places], by rw [hm, heq, h.modules]⟩

theorem supervised_congr (hm : t.barrier.modules = s.barrier.modules) (hp : t.barrier.presence = s.barrier.presence) :
    t.supervised = s.supervised := by
  rw [State.supervised, hm, hp]
  rfl

theorem Touches.supervised_eq {L : List Block} (h : Touches L s t) (hB : .barrier ∉ L := by decide) :
    t.supervised = s.supervised := supervised_congr (by rw [h.barrier_eq hB]) (by rw [h.barrier_eq hB])

theorem SequenceFrame.supervised_eq {l : List FaultClass} (h : SequenceFrame l s t) : t.supervised = s.supervised :=
  supervised_congr h.modules h.presence

theorem BarrierFits.frame {L : List Block} (h : BarrierFits s) (hT : Touches L s t) (hB : .barrier ∉ L := by decide)
    (hC : .config ∉ L := by decide) : BarrierFits t :=
  h.of_shape (hT.barrierShape_eq hB) (hT.supervised_eq hB) (by rw [hT.config_eq hC])

theorem Move.supervised_eq (m : Move s t) : t.supervised = s.supervised := by
  have hrefl := SequenceFrame.refl sequenceClasses s
  have hentry : ∀ u, SequenceFrame sequenceClasses u (entryBegun u) := fun u =>
    giveCommands_sequenceFrame _ _ (by decide) (enterState_sequenceFrame _ (by decide) (.refl _ u))
  cases m with
  | amber => exact supervised_congr (by rw [enterAmber_barrier]) (by rw [enterAmber_barrier])
  | redFlash => exact supervised_congr (by rw [enterRedFlash_barrier]) (by rw [enterRedFlash_barrier])
  | entry => exact ((setSeq_sequenceFrame _ hrefl).trans (hentry _)).supervised_eq
  | relowered => exact (hentry _).supervised_eq.trans (closureBegun_touched s).supervised_eq
  | exitDelay => exact (setSeq_sequenceFrame _ (exitPhaseBegun_sequenceFrame hrefl)).supervised_eq
  | exitAtOnce => exact (exitLoweringBegun_sequenceFrame (exitPhaseBegun_sequenceFrame hrefl)).supervised_eq
  | exitStarted => exact (exitLoweringBegun_sequenceFrame hrefl).supervised_eq
  | closed => exact (closedBegun_sequenceFrame hrefl).supervised_eq
  | raising => exact (raisingBegun_sequenceFrame (l := sequenceClasses) (by decide) (by decide) hrefl).supervised_eq
  | opened => exact (enterState_sequenceFrame _ (by decide) hrefl).supervised_eq
  | prolonged => exact (checkProlonged_touched s).supervised_eq
  | longClosure => exact (longClosureReached_touches (L := [.seq, .fault]) (by decide) (.refl _ s)).supervised_eq

theorem Evolves.supervised_eq (hev : Evolves s t) : t.supervised = s.supervised := by
  induction hev with
  | refl => rfl
  | counted _ hT ih => exact hT.supervised_eq.trans ih
  | reported o r _ ih =>
    exact (handPassageReport_touches (L := [.portA, .portB, .fault, .queue .status]) o r (by decide)
      (.refl _ _)).supervised_eq.trans ih
  | moved _ m ih => exact m.supervised_eq.trans ih

theorem changeBarrier_supervised (b : Nat) (was now : BarrierRecord) (s : State) :
    (changeBarrier b was now s).supervised = s.supervised :=
  supervised_congr (by rw [changeBarrier_barrier]; rfl) (by rw [changeBarrier_barrier]; rfl)

theorem takeBarrierReport_supervised (j m : Nat) (pos : BarrierPosition) (echo : Option BarrierCommand) (s : State) :
    (takeBarrierReport j m pos echo s).supervised = s.supervised := by
  have hheard : (barrierModuleHeard j (moduleOf s.eqTab m).silence s).supervised = s.supervised := by
    rw [State.supervised, barrierModuleHeard_barrier, List.length_modify]
    rfl
  unfold takeBarrierReport
  dsimp only
  split
  · exact hheard
  · split
    · exact hheard
    · exact (changeBarrier_supervised ..).trans hheard

theorem expireProof_supervised (b : Nat) (s : State) : (expireProof b s).supervised = s.supervised := by
  unfold expireProof
  split
  · rfl
  · exact changeBarrier_supervised ..

theorem barrierModuleSilence_supervised (j : Nat) (s : State) : (barrierModuleSilence j s).supervised = s.supervised := by
  have hsilenced : (moduleSilenced j s).supervised = s.supervised := by
    rw [State.supervised, moduleSilenced_barrier, List.length_modify]
    rfl
  show State.supervised (match barrierOfModule (moduleSilenced j s).eqTab j with
    | none => moduleSilenced j s
    | some b => silenceBarrier b (moduleSilenced j s)) = _
  split
  · exact hsilenced
  · unfold silenceBarrier
    split
    · exact hsilenced
    · split
      · exact hsilenced
      · exact (changeBarrier_supervised ..).trans hsilenced

theorem expireExitWait_supervised (b : Nat) (s : State) : (expireExitWait b s).supervised = s.supervised := by
  unfold expireExitWait
  split
  · rfl
  · exact (enterFault_touches (L := [.fault]) _ _ _ (by decide) (.refl _ _)).supervised_eq

theorem occupancyChanged_supervised (was : Bool) (s : State) : (occupancyChanged was s).supervised = s.supervised := by
  unfold occupancyChanged
  split
  · split
    · exact (takeBackBarriers_sequenceFrame _ (.refl _ s)).supervised_eq
    · refine Eq.trans ?_ (releaseBarriers_sequenceFrame (exitBarriers s.eqTab) (.refl phaseClasses s)).supervised_eq
      exact supervised_congr (by rw [endObstructed_barrier]) (by rw [endObstructed_barrier])
  · rfl

theorem takePresenceReport_supervised (j m : Nat) (v : Presence) (s : State) :
    (takePresenceReport j m v s).supervised = s.supervised := by
  refine (occupancyChanged_supervised ..).trans ?_
  rw [State.supervised, presenceModuleHeard_barrier, List.length_modify]
  rfl

theorem presenceModuleSilence_supervised (j : Nat) (s : State) :
    (presenceModuleSilence j s).supervised = s.supervised := by
  rw [presenceModuleSilence_eq, occupancyChanged_supervised, State.supervised, presenceSilenced_barrier,
    List.length_modify]
  rfl

theorem barrierFits_of_initial {u : State} (h : t.barrier = barrierInitial u) (heq : t.eqTab = u.eqTab) :
    BarrierFits t := by
  refine ⟨by rw [barrierShape_initial h, heq], ?_⟩
  rw [State.supervised, h, heq, barrierInitial, List.length_map, List.length_map]

theorem barrierFits_of_empty (h : t.barrier = barrierEmpty) (hc : t.config.tables = safetyEmpty) : BarrierFits t := by
  have heq : t.eqTab = safetyEmpty.equipment := by rw [State.eqTab, hc]
  obtain ⟨-, -, -, hplaces, -, hmodules, hpresence, -⟩ := reset_geometrySound
  constructor
  · rw [State.barrierShape, h, heq]
    exact hplaces
  · rw [State.supervised, h, heq]
    exact Prod.ext hmodules hpresence

theorem activationBegun_supervised (s : State) : (activationBegun s).supervised = s.supervised := by
  unfold activationBegun
  split
  · exact (initSafeLeft_frame s).supervised_eq.trans (closureBegun_touched s).supervised_eq
  · exact (giveCommands_sequenceFrame (l := sequenceClasses) _ _ (by decide) (.refl _ s)).supervised_eq

theorem barrierFits_rule : SequenceRule BarrierFits where
  stay hT h := h.of_shape hT.touches.barrierShape_eq hT.touches.supervised_eq hT.tables
  evolved hev h := h.of_shape hev.barrierShape_eq hev.supervised_eq (by rw [hev.touches.config_eq])
  proved _ h := h.of_shape rfl rfl rfl
  lampReport j m chs u h := h.frame (takeLampReport_touches j m chs (List.Subset.refl _) (.refl _ u))
  lampSilence j u h := h.frame (lampModuleSilence_touches j (List.Subset.refl _) (.refl _ u))
  barrierReport j m pos echo u h := by
    have hT := takeBarrierReport_touches j m pos echo (List.Subset.refl _) (.refl _ u)
    exact h.of_shape (takeBarrierReport_shape ..) (takeBarrierReport_supervised ..) (by rw [hT.config_eq])
  barrierSilence j u h := by
    have hT := barrierModuleSilence_touches j (List.Subset.refl _) (.refl _ u)
    exact h.of_shape (barrierModuleSilence_shape ..) (barrierModuleSilence_supervised ..) (by rw [hT.config_eq])
  proving b _ u h _ _ := by
    have hT := expireProof_touches b (List.Subset.refl _) (.refl _ u)
    exact h.of_shape (expireProof_shape ..) (expireProof_supervised ..) (by rw [hT.config_eq])
  exitWait b _ u h _ _ := by
    have hT := expireExitWait_touches b (List.Subset.refl _) (.refl _ u)
    exact h.of_shape (expireExitWait_shape ..) (expireExitWait_supervised ..) (by rw [hT.config_eq])
  presenceReport j m v u h := by
    have hT := takePresenceReport_touches j m v (List.Subset.refl _) (.refl _ u)
    exact h.of_shape (takePresenceReport_shape ..) (takePresenceReport_supervised ..) (by rw [hT.config_eq])
  presenceSilence j u h := by
    have hT := presenceModuleSilence_touches j (List.Subset.refl _) (.refl _ u)
    exact h.of_shape (presenceModuleSilence_shape ..) (presenceModuleSilence_supervised ..) (by rw [hT.config_eq])
  begun pid crc u _ _ _ := by
    obtain ⟨-, -, -, -, -, hbarrier⟩ := reinitialise_blocks u.seq.state (sectionsAnew pid crc u) (takenIn pid crc u)
    have hfits : BarrierFits (anewBegun pid crc u) :=
      barrierFits_of_initial hbarrier (by rw [State.eqTab, anewBegun_tables]; rfl)
    exact hfits.of_shape (activationBegun_shape _) (activationBegun_supervised _)
      (by rw [(activationBegun_touched _).config_eq])
  kept u _ _ := by
    obtain ⟨-, -, -, -, -, hbarrier⟩ := reinitialise_blocks .initSafe
      (sectionsRestarted (raiseNotice 33 0 u).axle.sections) (raiseNotice 33 0 u)
    have hfits : BarrierFits (keptBegun u) :=
      barrierFits_of_initial hbarrier (by rw [State.eqTab, keptBegun_config]; rfl)
    exact hfits.of_shape (initSafeLeft_shape _)
      ((initSafeLeft_frame _).supervised_eq.trans (closureBegun_touched _).supervised_eq)
      (by rw [(initSafeLeft_touched _).config_eq])
  emptied code u _ := by
    obtain ⟨-, -, -, hbarrier, -⟩ := reinitialiseEmpty_blocks (emptySafety (raiseNotice 33 code u))
    exact barrierFits_of_empty hbarrier (by rw [emptiedBegun_config])

end

end Sys2Proof.Machine
end

section
/-! PROOFS. The sections and detectors, the overflow flags and the train paths are those the active tables give (R3, R10,
R28, R29), and the statement O58. -/

namespace Sys2Proof.Machine

/-! ## The axle counter -/

/-- The places of the sections, and which detectors have a record. -/
def State.axleShape (s : State) : List (Nat × Nat) × List Bool :=
  (s.axle.sections.map fun x => (x.track, x.number), s.axle.detectors.map Option.isSome)

/-- The sections and detectors are those of the detector table (R3, R10). -/
def AxleFits (s : State) : Prop :=
  s.axleShape = (allSections s.detTab, (List.range 32).map (detectorInUse s.detTab))

section
variable {s t : State}

theorem axleShape_congr (h : t.axle = s.axle) : t.axleShape = s.axleShape := by
  rw [State.axleShape, h]
  rfl

theorem AxleFits.of_shape (h : AxleFits s) (hs : t.axleShape = s.axleShape)
    (hc : t.config.tables = s.config.tables) : AxleFits t := by
  have hdet : t.detTab = s.detTab := by rw [State.detTab, hc]; rfl
  rwa [AxleFits, hs, hdet]

theorem map_identity {f : TrackSection → TrackSection} (hf : KeepsIdentity f) (l : List TrackSection) :
    (l.map f).map (fun x => (x.track, x.number)) = l.map fun x => (x.track, x.number) := by
  rw [List.map_map]
  refine List.map_congr_left fun x _ => ?_
  obtain ⟨htrack, hnumber⟩ := hf x
  rw [Function.comp_apply, htrack, hnumber]

/-- A detector's record replaced and the sections changed in place leave the shape. -/
theorem axleShape_changed {d : Nat} {r r' : DetectorRecord} {f : TrackSection → TrackSection} (hf : KeepsIdentity f)
    (hr : s.detectorRecord d = some r)
    (ht : t.axle = { detectors := s.axle.detectors.set d (some r'), sections := s.axle.sections.map f }) :
    t.axleShape = s.axleShape := by
  rw [State.axleShape, ht]
  exact Prod.ext (map_identity hf _) (map_isSome_set hr r')

theorem sectionAfterWheel_keepsIdentity (s : State) (d : Nat) (gap : Bool) (dir : Direction) :
    KeepsIdentity (sectionAfterWheel s d gap dir) := by
  have hcomp : ∀ {f g : TrackSection → TrackSection}, KeepsIdentity f → KeepsIdentity g → KeepsIdentity (f ∘ g) :=
    fun {_ g} hf hg x => ⟨(hf (g x)).1.trans (hg x).1, (hf (g x)).2.trans (hg x).2⟩
  rw [sectionAfterWheel_eq]
  exact hcomp (hcomp (countedAt_keepsIdentity _ _ axleIn_keepsIdentity) (countedAt_keepsIdentity _ _ axleOut_keepsIdentity))
    (sectionDisturbed_keepsIdentity s d gap)

theorem wheelReport_axleShape (d : Nat) (payload : List Byte) (s : State) :
    (wheelReport d payload s).axleShape = s.axleShape := by
  unfold wheelReport
  split
  · rfl
  next r hr =>
    split
    · exact axleShape_changed (sectionAfterWheel_keepsIdentity _ _ _ _) hr (takeWheel_axle ..)
    · rfl

theorem heartbeatReport_axleShape (d : Nat) (payload : List Byte) (s : State) :
    (heartbeatReport d payload s).axleShape = s.axleShape := by
  unfold heartbeatReport
  split
  · rfl
  next r hr =>
    split
    · rfl
    · split
      · exact axleShape_changed (sectionDisturbed_keepsIdentity _ _ _) hr (takeHeartbeat_axle ..)
      · rfl

theorem restoreEffect_axleShape (reason : Option Reason) (mode : Option RestoreMode) (trk n : Nat) (s : State) :
    (restoreEffect reason mode trk n s).axleShape = s.axleShape := by
  unfold restoreEffect
  split
  next m =>
    rw [axleShape_congr (restoreAccepted_axle m trk n s), State.axleShape, restoreSection_axle]
    refine Prod.ext (map_identity (fun x => ?_) _) rfl
    split <;> exact ⟨rfl, rfl⟩
  · rfl

theorem sectionsInitial_places (dt : List Word) (st : SectionState) :
    ((sectionsInitial dt st).map fun x => (x.track, x.number)) = allSections dt := by
  rw [sectionsInitial, List.map_map]
  exact List.map_id _

theorem detectorsInitial_isSome (s : State) :
    (detectorsInitial s).map Option.isSome = (List.range 32).map (detectorInUse s.detTab) := map_isSome_range _ _ _

theorem axleFits_of_empty (h : t.axle = axleEmpty) (hc : t.config.tables = safetyEmpty) : AxleFits t := by
  have hdet : t.detTab = safetyEmpty.detector := by rw [State.detTab, hc]
  obtain ⟨hsections, hdetectors, -⟩ := reset_geometrySound
  rw [AxleFits, State.axleShape, h, hdet]
  exact Prod.ext hsections hdetectors

theorem axleFits_rule : AxleRule AxleFits where
  stay hc ha h := h.of_shape (axleShape_congr ha) hc
  wheel d payload _ h := h.of_shape (wheelReport_axleShape ..)
    (by rw [(wheelReport_touches (L := .axle :: offAxleBlocks) d payload (by decide) (.refl _ _)).config_eq])
  heartbeat d payload _ h := h.of_shape (heartbeatReport_axleShape ..)
    (by rw [(heartbeatReport_touches (L := .axle :: offAxleBlocks) d payload (by decide) (.refl _ _)).config_eq])
  silence d r u h hr := h.of_shape
    (axleShape_changed (sectionDisturbed_keepsIdentity _ _ _) hr (detectorSilent_axle d r u))
    (by rw [(detectorSilent_touches (L := .axle :: offAxleBlocks) d r (by decide) (.refl _ _)).config_eq])
  restored reason mode trk n _ h := h.of_shape (restoreEffect_axleShape ..)
    (by rw [(restoreEffect_touches (L := .axle :: offAxleBlocks) reason mode trk n (by decide) (.refl _ _)).config_eq])
  anew identity crc u := by
    have hdet : (takeEffect identity crc u).detTab = u.stagedSafety.detector := by rw [State.detTab, takeEffect_config]
    rw [AxleFits, State.axleShape, takeEffect_axle, hdet]
    exact Prod.ext (sectionsInitial_places ..) (detectorsInitial_isSome _)
  kept u h := by
    have hdet : (restartKept u).detTab = u.detTab := by rw [State.detTab, restartKept_config]; rfl
    rw [AxleFits, State.axleShape, restartKept_axle, hdet]
    exact Prod.ext ((map_identity (f := disturbed) (fun _ => ⟨rfl, rfl⟩) _).trans (congrArg Prod.fst h))
      (detectorsInitial_isSome u)
  emptied code u := axleFits_of_empty (restartEmptied_axle code u) (by rw [restartEmptied_config])

/-! ## The overflow flags -/

/-- One overflow flag to each approach (R35). -/
def OverflowFits (s : State) : Prop := s.tracker.overflow.length = 8

theorem OverflowFits.of_tracker (h : OverflowFits s) (ht : t.tracker.overflow = s.tracker.overflow) : OverflowFits t := by
  rwa [OverflowFits, ht]

theorem OverflowFits.checked (i : Nat) (h : OverflowFits s) : OverflowFits (checkRetirement i s) := by
  unfold checkRetirement
  split
  · exact h
  next r _ =>
    split
    · exact h
    next o _ =>
      have hT := handPassageReport_touches (L := [.portA, .portB, .fault, .queue .status]) o r (by decide) (.refl _ s)
      have hput : OverflowFits (handPassageReport o r s) := h.of_tracker (by rw [hT.tracker_eq])
      exact hput

theorem OverflowFits.setOverflow (a n : Nat) (h : OverflowFits s) : OverflowFits (setOverflow a n s) := by
  unfold Machine.setOverflow
  split
  · exact h
  · refine Eq.trans ?_ h
    rw [(raiseFault_touches (L := [.fault]) .trainTableFull a n (by decide) (.refl _ _)).tracker_eq]
    exact List.length_set

theorem OverflowFits.strikeIn (a : Nat) (w : WheelPassage) (h : OverflowFits s) : OverflowFits (strikeIn a w s).1 := by
  have hcreated : OverflowFits (createRecord a w s) := h.of_tracker (by rw [createRecord_tracker])
  unfold Machine.strikeIn
  split
  · split
    · exact h.setOverflow a 0
    · exact hcreated
  next i x _ =>
    split
    · split
      · exact h.setOverflow a 1
      · exact h
    · split
      · exact hcreated
      · split
        · exact h.setOverflow a 1
        · exact h.of_tracker (by rw [mergeRecord_tracker])

theorem OverflowFits.takeInward (i k : Nat) (w : WheelPassage) (h : OverflowFits s) : OverflowFits (takeInward i k w s) := by
  unfold Machine.takeInward
  split
  · exact h
  next r _ =>
    refine checked i ?_
    split
    · have hT := headPassage_touched (s := s) (w := w) (k := k) (islandEntryIndex s.detTab r.approach)
        (withPassed k (passedAt r k + 1) r)
      exact (congrArg (fun x : Tracker => x.overflow.length) hT.tracker_eq).trans h
    · exact h

theorem overflowFits_rule : TrackRule (fun _ => True) OverflowFits where
  stay _ ht h := h.of_tracker (congrArg Tracker.overflow ht)
  watched _ h := List.length_mapIdx.trans h
  struckIn a w _ _ h _ := h.strikeIn a w
  tookInward _ i k w _ _ h _ _ := h.takeInward i (k + 1) w
  tookOutward _ i k _ _ h hx _ := by
    rw [takeOutward_eq hx]
    exact OverflowFits.checked i h
  entryClosed i _ _ h _ := OverflowFits.checked i h
  startDue _ _ _ h _ _ := h
  discarded ht _ := by rw [OverflowFits, ht]; rfl

/-! ## The trains' paths -/

/-- The record runs on an approach of a configured track, with a count for each detector of the path (R28, R29). -/
def PathFits (dt : List Word) (r : TrainRecord) : Prop :=
  r.passed.length = pathLength dt r.approach ∧ r.approach < 8 ∧ approachConfigured dt r.approach = true

/-- The detectors in use stand on the four tracks (R2). -/
def OnFourTracks (x : SafetyTables) : Prop := ∀ d ∈ detectorsInUse x.detector, (detectorOf x.detector d).track < 4

theorem PathFits.of_length {dt : List Word} {x r : TrainRecord} (h : PathFits dt x)
    (hl : r.passed.length = x.passed.length) (ha : r.approach = x.approach) : PathFits dt r := by
  rwa [PathFits, hl, ha]

theorem PathFits.of_counts {dt : List Word} {x r : TrainRecord} (h : PathFits dt x) (hc : counts r = counts x) :
    PathFits dt r := h.of_length (by rw [passed_of_counts hc]) (approach_of_counts hc)

theorem mem_trackDetectors_of_pathOf {dt : List Word} {a d : Nat} (h : d ∈ pathOf dt a) :
    d ∈ trackDetectors dt (approachTrack a) := by
  unfold pathOf at h
  dsimp only at h
  split at h
  · exact List.mem_of_mem_take h
  · exact List.mem_reverse.mp (List.mem_of_mem_take h)

/-- A strike-in detector gives its approach a path on one of the four tracks (R4, R5). -/
theorem createdRecord_pathFits {x : SafetyTables} (hx : OnFourTracks x) {a d : Nat}
    (hpath : pathIndex x.detector a d = some 0) (tag : Byte) (p : Time) :
    PathFits x.detector (createdRecord x.detector a tag p) := by
  obtain ⟨hmem, -⟩ := pathIndex_eq_some_iff.mp hpath
  have htrack := mem_trackDetectors_of_pathOf hmem
  obtain ⟨huse, hat⟩ := mem_trackDetectors.mp htrack
  have hpos : 0 < pathLength x.detector a := List.length_pos_of_mem hmem
  have hlt : approachTrack a < 4 := hat ▸ hx d huse
  refine ⟨?_, ?_, trackConfigured_of_mem htrack⟩
  · simp only [createdRecord, List.length_cons, List.length_replicate]
    omega
  · simp only [approachTrack] at hlt
    simp only [createdRecord]
    omega

theorem pathFits_rule : RecordRule OnFourTracks PathFits where
  recounted hr h := h.of_length hr.length hr.approach
  warned _ h _ := h
  scheduled _ _ _ h _ := h.of_counts counts_scheduleCall
  islanded _ _ _ h _ := h.of_counts counts_islandCall
  created _ w _ hx hpath := (createdRecord_pathFits hx hpath _ w.passage).of_counts counts_creationCall

theorem onFourTracks_of_tablesSound (h : TablesSound s) : OnFourTracks s.config.tables := by
  obtain ⟨-, -, hnone, hpass⟩ := h
  cases hactive : s.safetyActive with
  | false =>
    have hempty : ∀ d ∈ detectorsInUse safetyEmpty.detector, (detectorOf safetyEmpty.detector d).track < 4 := by decide
    rw [(hnone hactive).1]
    exact hempty
  | true =>
    have hrange := (checkTables_eq_none.mp (hpass hactive)).detectorRange
    intro d hd
    have hd := List.all_eq_true.mp hrange d hd
    simp only [detectorInRange, inRange, Bool.and_eq_true, decide_eq_true_eq] at hd
    omega

/-! ## The geometry -/

theorem geometrySound_iff : GeometrySound s ↔
    AxleFits s ∧ LampFits s ∧ BarrierFits s ∧ OverflowFits s ∧ PoolMeets PathFits s := by
  unfold AxleFits State.axleShape LampFits State.lampShape OverflowFits
  simp only [Prod.mk.injEq]
  constructor
  · rintro ⟨hsections, hdetectors, hlamps, hbarriers, hlampModules, hmodules, hpresence, hoverflow, hpaths⟩
    exact ⟨⟨hsections, hdetectors⟩, ⟨hlamps, hlampModules⟩, ⟨hbarriers, Prod.ext hmodules hpresence⟩,
      hoverflow, hpaths⟩
  · rintro ⟨⟨hsections, hdetectors⟩, ⟨hlamps, hlampModules⟩, ⟨hbarriers, hsupervised⟩, hoverflow, hpaths⟩
    exact ⟨hsections, hdetectors, hlamps, hbarriers, hlampModules, congrArg Prod.fst hsupervised,
      congrArg Prod.snd hsupervised, hoverflow, hpaths⟩

theorem geometrySound_step (h : GeometrySound s) (hT : TablesSound s) (ht : step s = .next t) : GeometrySound t := by
  obtain ⟨haxle, hlamp, hbarrier, hoverflow, hpaths⟩ := geometrySound_iff.mp h
  have hreset : ∀ strap u, GeometrySound (hardwareReset strap u) := fun _ _ => reset_geometrySound
  have hparts := fun strap u => geometrySound_iff.mp (hreset strap u)
  exact geometrySound_iff.mpr
    ⟨axleFits_rule.step (fun strap u => (hparts strap u).1) haxle ht,
      lampFits_rule.step (fun strap u => (hparts strap u).2.1) hlamp ht,
      barrierFits_rule.step (fun strap u => (hparts strap u).2.2.1) hbarrier ht,
      overflowFits_rule.step (fun strap u => (hparts strap u).2.2.2.1) hoverflow trivial ht,
      pathFits_rule.trackRule.step (fun strap u => (hparts strap u).2.2.2.2) hpaths (onFourTracks_of_tablesSound hT) ht⟩

/-- Settles O58: the pool, its records and the geometry are each kept by what an event does to the block they speak of,
and every step is made of such events. -/
theorem trackerKept : Obligations.TrackerKept :=
  ⟨fun _ _ hpool htags ht => poolKept_step hpool htags ht, fun _ _ h ht => recordsSound_step h ht,
    fun _ _ h hT ht => geometrySound_step h hT ht⟩

end

end Sys2Proof.Machine
end

section
/-! PROOFS. Sound ports (R155, R156, R162, R163): what joining a queue, emptying one, and a block of commands leave of
them, for the statement O60. -/

namespace Sys2Proof.Machine

/-! ## A port -/

/-- What a queue of a class may hold (R162). -/
def QueueFits : QueueClass → List QueueEntry → Prop
  | .command, q => q.length ≤ 8
  | .reply, q => q.length ≤ 4
  | .forward, q => q.length ≤ 8
  | .status, q => (q.filter entryIsStatus).length ≤ 1 ∧ (q.filter entryIsPassage).length ≤ 7
      ∧ q.all (fun e => entryIsStatus e || entryIsPassage e) = true

/-- A port sound but for its transmitter: silence supervised while it is UP, empty while it is DOWN, its queues within
their capacities (R155, R162). -/
structure QueuesFit (ps : PortState) : Prop where
  silence : ps.link = .up ↔ ps.silence.isSome = true
  down : ps.link = .down → ∀ c, ps.queue c = []
  capacity : ∀ c, QueueFits c (ps.queue c)

/-- A sound port: nothing waits beside a free transmitter (R156, R163). -/
def PortFits (ps : PortState) : Prop := QueuesFit ps ∧ (ps.transmitter = none → ∀ c, ps.queue c = [])

section
variable {ps : PortState} {c : QueueClass} {q rest : List QueueEntry} {e : QueueEntry}

theorem forall_queue_nil : (∀ c, ps.queue c = []) ↔
    ps.command = [] ∧ ps.status = [] ∧ ps.reply = [] ∧ ps.forward = [] :=
  ⟨fun h => ⟨h .command, h .status, h .reply, h .forward⟩, fun ⟨h1, h2, h3, h4⟩ c => by
    cases c
    · exact h1
    · exact h2
    · exact h3
    · exact h4⟩

theorem forall_queueFits : (∀ c, QueueFits c (ps.queue c)) ↔ ps.command.length ≤ 8 ∧ ps.reply.length ≤ 4
    ∧ ps.forward.length ≤ 8 ∧ QueueFits .status ps.status :=
  ⟨fun h => ⟨h .command, h .reply, h .forward, h .status⟩, fun ⟨h1, h2, h3, h4⟩ c => by
    cases c
    · exact h1
    · exact h4
    · exact h2
    · exact h3⟩

theorem portSound_iff : portSound ps = true ↔ PortFits ps := by
  have hlink : ps.link = .down ↔ ¬ ps.link = .up := by cases ps.link <;> simp
  have hsplit : PortFits ps ↔ (ps.link = .up ↔ ps.silence.isSome = true)
      ∧ (¬ ps.link = .up → ps.command = [] ∧ ps.status = [] ∧ ps.reply = [] ∧ ps.forward = [])
      ∧ (ps.command.length ≤ 8 ∧ ps.reply.length ≤ 4 ∧ ps.forward.length ≤ 8 ∧ QueueFits .status ps.status)
      ∧ (ps.transmitter = none → ps.command = [] ∧ ps.status = [] ∧ ps.reply = [] ∧ ps.forward = []) := by
    rw [← forall_queueFits, ← forall_queue_nil, ← hlink]
    exact ⟨fun ⟨⟨h1, h2, h3⟩, h4⟩ => ⟨h1, h2, h3, h4⟩, fun ⟨h1, h2, h3, h4⟩ => ⟨⟨h1, h2, h3⟩, h4⟩⟩
  have htransmitter : ¬ ps.transmitter.isSome = true ↔ ps.transmitter = none := by
    rw [Option.isSome_iff_ne_none, ne_eq, not_not]
  rw [hsplit]
  simp only [portSound, QueueFits, Bool.and_eq_true, Bool.or_eq_true, decide_eq_true_eq, List.isEmpty_iff, eq_iff_iff,
    or_iff_not_imp_left, htransmitter, and_assoc]

theorem QueueFits.tail (h : QueueFits c (e :: rest)) : QueueFits c rest := by
  have hsub : rest.Sublist (e :: rest) := List.sublist_cons_self e rest
  cases c with
  | command => exact Nat.le_trans hsub.length_le h
  | reply => exact Nat.le_trans hsub.length_le h
  | forward => exact Nat.le_trans hsub.length_le h
  | status =>
    obtain ⟨hstatus, hpassage, hkinds⟩ := h
    exact ⟨Nat.le_trans (hsub.filter _).length_le hstatus, Nat.le_trans (hsub.filter _).length_le hpassage,
      (Bool.and_eq_true _ _ ▸ (List.all_cons ▸ hkinds : _)).2⟩

theorem QueueFits.nil (c : QueueClass) : QueueFits c [] := by
  cases c <;> simp [QueueFits]

/-- Serving a transmitter makes a port sound whose queues are. -/
theorem QueuesFit.served (h : QueuesFit ps) (lt : List Word) (now : Time) : PortFits (serveTransmitter lt now ps) := by
  obtain ⟨hlink, hsilence, -⟩ := serveTransmitter_link lt now ps
  refine ⟨⟨by rw [hlink, hsilence]; exact h.silence, fun hdown c => ?_, fun c => ?_⟩, fun hfree c => ?_⟩
  · exact (serveTransmitter_queue lt now c ps).2 (h.down (hlink ▸ hdown) c)
  · rcases serveTransmitter_queue_cases lt now c ps with hsame | ⟨e, hhead, -⟩
    · rw [hsame]
      exact h.capacity c
    · exact (hhead ▸ h.capacity c).tail
  · refine (serveTransmitter_queue lt now c ps).2 ?_
    by_contra hne
    have hbusy := serveTransmitter_isSome (lt := lt) (now := now) hne
    rw [hfree] at hbusy
    cases hbusy

/-- A queue replaced on an UP port. -/
theorem QueuesFit.setQueue (h : QueuesFit ps) (hup : ps.link = .up) (hq : QueueFits c q) : QueuesFit (ps.setQueue c q) := by
  have hlink : (ps.setQueue c q).link = ps.link := by cases c <;> rfl
  have hsilence : (ps.setQueue c q).silence = ps.silence := by cases c <;> rfl
  refine ⟨by rw [hlink, hsilence]; exact h.silence, fun hdown => ?_, fun d => ?_⟩
  · rw [hlink, hup] at hdown
    cases hdown
  · by_cases hd : d = c
    · subst hd
      rwa [setQueue_queue]
    · rw [setQueue_queue_ne hd]
      exact h.capacity d

/-- Queues shortened in place leave a port sound. -/
theorem PortFits.shortened {ps' : PortState} (h : PortFits ps) (hlink : ps'.link = ps.link)
    (hsilence : ps'.silence = ps.silence)
    (htransmitter : ps'.transmitter = ps.transmitter) (hq : ∀ c, QueueFits c (ps.queue c) → QueueFits c (ps'.queue c))
    (hnil : ∀ c, ps.queue c = [] → ps'.queue c = []) : PortFits ps' :=
  ⟨⟨by rw [hlink, hsilence]; exact h.1.silence, fun hd c => hnil c (h.1.down (hlink ▸ hd) c), fun c => hq c (h.1.capacity c)⟩,
    fun hfree c => hnil c (h.2 (htransmitter ▸ hfree) c)⟩

end

/-! ## Both ports -/

/-- Both ports are sound. -/
def PortsFit (s : State) : Prop := ∀ p, PortFits (s.port p)

section
variable {s t : State} {p : Port} {c : QueueClass}

theorem portsSound_iff : PortsSound s ↔ PortsFit s := by
  rw [PortsSound, portSound_iff, portSound_iff]
  exact ⟨fun ⟨ha, hb⟩ p => (by cases p; exacts [ha, hb]), fun h => ⟨h .a, h .b⟩⟩

theorem PortsFit.of_port (h : PortsFit s) (hp : ∀ p, t.port p = s.port p) : PortsFit t := fun p => by
  rw [hp]
  exact h p

theorem PortsFit.setPort {ps : PortState} (h : PortsFit s) (hps : PortFits ps) : PortsFit (s.setPort p ps) := fun p' => by
  rw [State.setPort_port]
  split
  · exact hps
  · exact h p'

/-- A telegram joins a queue of an UP port that has room for it. -/
theorem PortsFit.joinQueue (h : PortsFit s) {tel : Telegram} {slot : Option Nat} (hup : (s.port p).link = .up)
    (hq : QueueFits c ((s.port p).queue c ++ [⟨tel, s.now, slot⟩])) : PortsFit (joinQueue p c tel slot s) :=
  h.setPort (((h p).1.setQueue hup hq).served _ _)

theorem PortsFit.removeBlock (h : PortsFit s) : PortsFit (removeBlock s) := fun p => by
  rw [removeBlock_port]
  refine (h p).shortened rfl rfl rfl (fun c hc => ?_) (fun c hc => ?_)
  · cases c with
    | command => exact QueueFits.nil _
    | _ => exact hc
  · cases c with
    | command => rfl
    | _ => exact hc

/-! ## A block of commands -/

theorem command_length_joinQueue (tel : Telegram) (slot : Option Nat) (p' : Port) :
    ((joinQueue p .command tel slot s).port p').command.length ≤ (s.port p').command.length + 1 := by
  by_cases hp : p' = p
  · subst hp
    rw [joinQueue_port]
    rcases serveTransmitter_queue_cases s.loopTab s.now .command
      ((s.port p').setQueue .command ((s.port p').command ++ [⟨tel, s.now, slot⟩])) with hsame | ⟨e, hhead, -⟩
    · have hlen := congrArg List.length hsame
      simp only [PortState.queue, PortState.setQueue, List.length_append, List.length_singleton] at hlen ⊢
      omega
    · have hlen := congrArg List.length hhead
      simp only [PortState.queue, PortState.setQueue, List.length_append, List.length_cons, List.length_nil] at hlen ⊢
      omega
  · rw [joinQueue_port_of_ne _ _ _ hp]
    omega

theorem command_length_queueSlot (sl : Slot) (i : Nat) (p' : Port) :
    ((queueSlot s sl i).port p').command.length ≤ (s.port p').command.length + 1 := by
  unfold queueSlot
  split
  · omega
  · exact command_length_joinQueue ..

theorem PortsFit.queueSlots (slots : List Slot) (i : Nat) (h : PortsFit s)
    (hroom : ∀ p, (s.port p).command.length + slots.length ≤ 8) : PortsFit (queueSlots slots i s) := by
  induction slots generalizing i s with
  | nil => exact h
  | cons sl rest ih =>
    have hroom' : ∀ p, (s.port p).command.length + rest.length + 1 ≤ 8 := fun p => by
      have hp := hroom p
      rw [List.length_cons] at hp
      omega
    refine ih (i + 1) ?_ fun p => ?_
    · unfold queueSlot
      split
      · exact h
      next hup =>
        refine h.joinQueue hup ?_
        have hp := hroom' sl.port
        simp only [QueueFits, PortState.queue, List.length_append, List.length_singleton]
        omega
    · have hlen := command_length_queueSlot (s := s) sl i p
      have hp := hroom' p
      omega

/-- A block starts on ports on which no command waits. -/
theorem PortsFit.startBlock (h : PortsFit s) (hslots : s.cmd.slots.length ≤ 8) (hnone : ∀ p, (s.port p).command = []) :
    PortsFit (startBlock s) :=
  PortsFit.queueSlots s.cmd.slots 0 (h.of_port fun _ => State.setCmd_port ..) fun p => by
    rw [State.setCmd_port, hnone p, List.length_nil]
    omega

/-- The ports are sound and a block has at most eight telegrams (R162, R164). -/
structure BlockFits (s : State) : Prop where
  ports : PortsFit s
  slots : s.cmd.slots.length ≤ 8

theorem BlockFits.of_eq (h : BlockFits s) (hp : ∀ p, t.port p = s.port p) (hc : t.cmd.slots = s.cmd.slots) : BlockFits t :=
  ⟨h.ports.of_port hp, by rw [hc]; exact h.slots⟩

theorem writeSlot_slots (m : Nat) (x : SlotContent) (s : State) :
    (writeSlot m x s).cmd.slots = setSlotContent m x s.cmd.slots := by
  unfold writeSlot
  split
  · rw [startBlock_cmd]
    rfl
  next hsame =>
    simp only [slotDiffers, List.any_eq_true, not_exists, not_and, Bool.and_eq_true, decide_eq_true_eq, not_not] at hsame
    refine (List.map_id' _).symm.trans (List.map_congr_left fun sl hsl => ?_)
    split
    next hm => rw [← hsame sl hsl hm]
    next => rfl

theorem BlockFits.writeSlot (h : BlockFits s) (m : Nat) (x : SlotContent) : BlockFits (writeSlot m x s) := by
  refine ⟨?_, by rw [writeSlot_slots, setSlotContent, List.length_map]; exact h.slots⟩
  unfold Machine.writeSlot
  split
  · have hset : PortsFit (s.setCmd { s.cmd with slots := setSlotContent m x s.cmd.slots }) :=
      h.ports.of_port fun _ => State.setCmd_port ..
    refine hset.removeBlock.startBlock ?_ fun p => ?_
    · exact (List.length_map _).trans_le h.slots
    · rw [removeBlock_port]
  · exact h.ports

/-- No slot, and no command waiting: the block stopped (R169). -/
structure NoBlock (s : State) : Prop where
  slots : s.cmd.slots = []
  commands : ∀ p, (s.port p).command = []

theorem NoBlock.writeSlot (h : NoBlock s) (m : Nat) (x : SlotContent) : writeSlot m x s = s := by
  rw [Machine.writeSlot, h.slots]
  rfl

theorem NoBlock.of_eq (h : NoBlock s) (hp : ∀ p, t.port p = s.port p) (hc : t.cmd.slots = s.cmd.slots) : NoBlock t :=
  ⟨by rw [hc, h.slots], fun p => by rw [hp, h.commands p]⟩

theorem NoBlock.joinQueue (h : NoBlock s) (hc : c ≠ .command) (tel : Telegram) (slot : Option Nat) :
    NoBlock (joinQueue p c tel slot s) := by
  refine ⟨(congrArg CommandBlock.slots (State.setPort_cmd ..)).trans h.slots, fun p' => ?_⟩
  by_cases hp : p' = p
  · subst hp
    rw [joinQueue_port]
    refine (serveTransmitter_queue s.loopTab s.now .command _).2 ?_
    rw [setQueue_queue_ne hc.symm]
    exact h.commands p'
  · rw [joinQueue_port_of_ne _ _ _ hp]
    exact h.commands p'

end

end Sys2Proof.Machine
end

section
/-! PROOFS. What the field modules are commanded to (R76, R101, R119): the slots as a function of the tables, the
sequencer's state and the barriers' commands, and every operation of the sequence as a chain of states entered and
commands given, for the statement O60. -/

namespace Sys2Proof.Machine

/-! ## The slots -/

/-- What each barrier is commanded to. -/
def State.commands (s : State) (b : Nat) : Option BarrierCommand := (s.barrierRecord b).map (·.commanded)

/-- The content of the slot of an output module (R101, R119). -/
def slotContentFor (et : List Word) (st : SeqState) (cmds : Nat → Option BarrierCommand) (m : Nat) : SlotContent :=
  if moduleType et m = some .lamp then lampSlotContent et st ((modulesOfType et .lamp).idxOf m)
  else .barrier (((barrierOfModule et ((modulesOfType et .barrier).idxOf m)).bind cmds).getD .lower)

/-- The slots of an equipment table, with the content given for each output module (R164). -/
def slotsWith (et : List Word) (content : Nat → SlotContent) : List Slot :=
  (outputModules et).map fun m => { module := m, addr := (moduleOf et m).addr, port := modulePort et m, content := content m }

theorem slotContentOf_eq (s : State) (m : Nat) : slotContentOf s m = slotContentFor s.eqTab s.seq.state s.commands m := by
  unfold slotContentOf slotContentFor
  split
  · rfl
  · cases barrierOfModule s.eqTab ((modulesOfType s.eqTab .barrier).idxOf m) with
    | none => rfl
    | some b =>
      rw [Option.bind_some, Option.bind_some, State.commands]
      cases s.barrierRecord b <;> rfl

theorem slotsOf_eq (s : State) : slotsOf s = slotsWith s.eqTab (slotContentFor s.eqTab s.seq.state s.commands) := by
  unfold slotsOf slotsWith
  simp only [slotContentOf_eq]

section
variable {et : List Word} {f g : Nat → SlotContent}

theorem slotsWith_congr (h : ∀ m ∈ outputModules et, f m = g m) : slotsWith et f = slotsWith et g :=
  List.map_congr_left fun m hm => by rw [h m hm]

theorem setSlotContent_slotsWith (m : Nat) (x : SlotContent) :
    setSlotContent m x (slotsWith et f) = slotsWith et fun n => if n = m then x else f n := by
  rw [setSlotContent, slotsWith, List.map_map]
  refine List.map_congr_left fun n _ => ?_
  rw [Function.comp_apply]
  dsimp only
  split <;> rfl

end

/-! ## The equipment table -/

/-- The table has at most eight output modules, and each barrier in use has a barrier module of its own (R117). -/
structure EquipmentFits (et : List Word) : Prop where
  few : (outputModules et).length ≤ 8
  own : ∀ b ∈ barriersInUse et, barrierModuleOf et b ∈ modulesOfType et .barrier
    ∧ barrierOfModule et ((modulesOfType et .barrier).idxOf (barrierModuleOf et b)) = some b

theorem nodup_modulesOfType (et : List Word) (ty : ModuleType) : (modulesOfType et ty).Nodup :=
  List.nodup_range.filter _

theorem length_outputModules (et : List Word) :
    (outputModules et).length ≤ (modulesOfType et .lamp).length + (modulesOfType et .barrier).length := by
  simp only [outputModules, modulesOfType]
  induction List.range 10 with
  | nil => exact Nat.le_refl 0
  | cons m rest ih =>
    simp only [List.filter_cons, Bool.or_eq_true]
    split_ifs <;> simp_all <;> omega

theorem find?_of_nodup {α β : Type} [DecidableEq β] {f : α → β} {l : List α} {x : α}
    (hn : (l.map f).Nodup) (hx : x ∈ l) :
    l.find? (fun y => f y = f x) = some x := by
  cases hfind : l.find? (fun y => f y = f x) with
  | none => simpa using List.find?_eq_none.mp hfind x hx
  | some y =>
    have hy : f y = f x := by simpa using List.find?_some hfind
    rw [List.inj_on_of_nodup_map hn (List.mem_of_find?_eq_some hfind) hx hy]

theorem TablesPass.equipmentFits {own : Addr} {x : SafetyTables} (h : TablesPass own x) : EquipmentFits x.equipment := by
  have hrange := h.equipmentRange
  simp only [equipmentInRange, Bool.and_eq_true, decide_eq_true_eq] at hrange
  obtain ⟨⟨⟨-, hlamps⟩, hbarriers⟩, -⟩ := hrange
  have hmatched := h.barrierModule
  simp only [barriersMatched, Bool.and_eq_true, decide_eq_true_eq] at hmatched
  refine ⟨(length_outputModules _).trans (by omega), fun b hb => ?_⟩
  have hlt : (barrierOf x.equipment b).module < (modulesOfType x.equipment .barrier).length := by
    have hin := List.all_eq_true.mp h.barrierRange b (List.mem_filter.mp hb).1
    have huse : barrierInUse x.equipment b = true := (List.mem_filter.mp hb).2
    simp only [barrierInRange, huse, Bool.and_eq_true, Bool.not_true, Bool.false_or, decide_eq_true_eq] at hin
    exact hin.2.1
  have hmodule : barrierModuleOf x.equipment b = (modulesOfType x.equipment .barrier)[(barrierOf x.equipment b).module] :=
    List.getD_eq_getElem _ _ hlt
  rw [hmodule]
  refine ⟨List.getElem_mem hlt, ?_⟩
  rw [(nodup_modulesOfType ..).idxOf_getElem]
  exact find?_of_nodup hmatched.1 hb

theorem equipmentFits_empty : EquipmentFits safetyEmpty.equipment := by
  refine ⟨by decide, fun b hb => ?_⟩
  have hnone : barriersInUse safetyEmpty.equipment = [] := by decide
  rw [hnone] at hb
  cases hb

section
variable {s t : State}

theorem ConfigSound.equipmentFits (h : ConfigSound s) : EquipmentFits s.eqTab := by
  obtain ⟨-, -, -, -, hnone, hpass⟩ := h
  cases hactive : s.safetyActive with
  | false =>
    rw [State.eqTab, (hnone hactive).1]
    exact equipmentFits_empty
  | true => exact (checkTables_eq_none.mp (hpass hactive)).equipmentFits

/-! ## Chains of commands -/

/-- Ports, slots, tables and what the modules are commanded to are the same. -/
structure Still (s t : State) : Prop where
  tables : t.config.tables = s.config.tables
  port : ∀ p, t.port p = s.port p
  slots : t.cmd.slots = s.cmd.slots
  phase : t.seq.state = s.seq.state
  commands : t.commands = s.commands

/-- From `s` to `t` by states entered, commands given to barriers in use, passage reports handed over, and changes of what
no module is commanded by. -/
inductive Commands (s : State) : State → Prop
  | refl : Commands s s
  | still {t u : State} : Commands s t → Still t u → Commands s u
  | entered {t : State} (st : SeqState) : Commands s t → Commands s (enterState st t)
  | given {t : State} (c : BarrierCommand) {b : Nat} :
      b ∈ barriersInUse t.eqTab → Commands s t → Commands s (giveCommand c b t)
  | reported {t : State} (o : PassageOutcome) (r : TrainRecord) : Commands s t → Commands s (handPassageReport o r t)

theorem State.commands_congr (h : t.barrierRecord = s.barrierRecord) : t.commands = s.commands := by
  funext b
  rw [State.commands, h]
  rfl

theorem Still.of_touches {L : List Block} (h : Touches L s t) (hconfig : .config ∉ L := by decide)
    (ha : .portA ∉ L := by decide) (hb : .portB ∉ L := by decide) (hcmd : .cmd ∉ L := by decide)
    (hseq : .seq ∉ L := by decide) (hbarrier : .barrier ∉ L := by decide) : Still s t :=
  ⟨by rw [h.config_eq hconfig], fun p => h.port_eq (p := p) ha hb, by rw [h.cmd_eq hcmd], by rw [h.seq_eq hseq],
    State.commands_congr (State.barrierRecord_congr (h.barrier_eq hbarrier))⟩

/-- A change of the sequence and the barriers' records that enters no state and gives no command. -/
theorem Still.of_same {L : List Block} (h : Touches L s t) (hphase : t.seq.state = s.seq.state)
    (hcommands : t.commands = s.commands) (hconfig : .config ∉ L := by decide)
    (ha : .portA ∉ L := by decide) (hb : .portB ∉ L := by decide) (hcmd : .cmd ∉ L := by decide) : Still s t :=
  ⟨by rw [h.config_eq hconfig], fun p => h.port_eq (p := p) ha hb, by rw [h.cmd_eq hcmd], hphase, hcommands⟩

theorem Still.setSeq (q : Sequencer) (h : q.state = s.seq.state) : Still s (s.setSeq q) :=
  .of_same (L := [.seq]) (State.setSeq_touches _ (by decide) (.refl _ s)) h rfl

/-- A record put in its place with the command it had. -/
theorem putBarrier_commands {b : Nat} {r r' : BarrierRecord} (h : s.barrierRecord b = some r)
    (hc : r'.commanded = r.commanded) : (putBarrier b r' s).commands = s.commands := by
  funext x
  rw [State.commands, State.commands, putBarrier_barrierRecord h]
  split
  next hx =>
    rw [hx, h]
    exact congrArg some hc
  next => rfl

theorem Still.putBarrier {b : Nat} {r r' : BarrierRecord} (h : s.barrierRecord b = some r)
    (hc : r'.commanded = r.commanded) : Still s (putBarrier b r' s) :=
  .of_same (L := [.barrier]) (putBarrier_touches b r' (by decide) (.refl _ s)) rfl (putBarrier_commands h hc)

theorem Still.changeBarrier {b : Nat} {r r' : BarrierRecord} (h : s.barrierRecord b = some r)
    (hc : r'.commanded = r.commanded) (was : BarrierRecord) : Still s (changeBarrier b was r' s) := by
  have hT := changeBarrier_touched b was r' s
  exact .of_same hT (by rw [hT.seq_eq])
    ((State.commands_congr (State.barrierRecord_congr (changeBarrier_barrier b was r' s))).trans (putBarrier_commands h hc))

theorem Still.holdBarrier (b : Nat) (s : State) : Still s (holdBarrier b s) := by
  unfold Machine.holdBarrier
  split
  · exact ⟨rfl, fun _ => rfl, rfl, rfl, rfl⟩
  next hr => exact .putBarrier hr rfl

namespace Commands

theorem trans {u : State} (h : Commands s t) (k : Commands t u) : Commands s u := by
  induction k with
  | refl => exact h
  | still _ hs ih => exact ih.still hs
  | entered st _ ih => exact ih.entered st
  | given c hb _ ih => exact ih.given c hb
  | reported o r _ ih => exact ih.reported o r

theorem of_touches {u : State} {L : List Block} (h : Commands s t) (hT : Touches L t u) (hconfig : .config ∉ L := by decide)
    (ha : .portA ∉ L := by decide) (hb : .portB ∉ L := by decide) (hcmd : .cmd ∉ L := by decide)
    (hseq : .seq ∉ L := by decide) (hbarrier : .barrier ∉ L := by decide) : Commands s u :=
  h.still (.of_touches hT hconfig ha hb hcmd hseq hbarrier)

theorem giveCommands (c : BarrierCommand) (bs : List Nat) (hbs : ∀ b ∈ bs, b ∈ barriersInUse t.eqTab) (h : Commands s t) :
    Commands s (giveCommands c bs t) := by
  induction bs generalizing t with
  | nil => exact h
  | cons b rest ih =>
    have hT := giveCommand_touches (L := [.portA, .portB, .barrier, .cmd, .fault, .queue .command]) c b (by decide) (.refl _ t)
    refine ih (fun x hx => ?_) (h.given c (hbs b (List.mem_cons_self ..)))
    rw [hT.eqTab_eq]
    exact hbs x (List.mem_cons_of_mem b hx)

theorem holdBarriers (bs : List Nat) (h : Commands s t) : Commands s (holdBarriers bs t) := by
  induction bs generalizing t with
  | nil => exact h
  | cons b rest ih => exact ih (h.still (.holdBarrier b t))

theorem releaseBarriers (bs : List Nat) (hbs : ∀ b ∈ bs, b ∈ barriersInUse t.eqTab) (h : Commands s t) :
    Commands s (releaseBarriers bs t) := by
  induction bs generalizing t with
  | nil => exact h
  | cons b rest ih =>
    have hframe := releaseBarrier_sequenceFrame b (.refl phaseClasses t)
    refine ih (fun x hx => ?_) ?_
    · rw [hframe.eqTab_eq]
      exact hbs x (List.mem_cons_of_mem b hx)
    · unfold releaseBarrier
      split
      · exact h
      next hr =>
        split
        · exact (h.still (.putBarrier hr (by rfl))).given .lower (hbs b (List.mem_cons_self ..))
        · exact h

theorem takeBackBarriers (bs : List Nat) (hbs : ∀ b ∈ bs, b ∈ barriersInUse t.eqTab) (h : Commands s t) :
    Commands s (takeBackBarriers bs t) := by
  induction bs generalizing t with
  | nil => exact h
  | cons b rest ih =>
    have hframe := takeBackBarrier_sequenceFrame b (.refl phaseClasses t)
    refine ih (fun x hx => ?_) ?_
    · rw [hframe.eqTab_eq]
      exact hbs x (List.mem_cons_of_mem b hx)
    · unfold takeBackBarrier
      split
      · exact h
      · split
        · exact (h.given .raise (hbs b (List.mem_cons_self ..))).still (.holdBarrier b _)
        · exact h

end Commands

theorem mem_barriersInUse_of_exit {et : List Word} : ∀ b ∈ exitBarriers et, b ∈ barriersInUse et := fun b hb => by
  obtain ⟨hlt, hrole⟩ := List.mem_filter.mp hb
  exact List.mem_filter.mpr ⟨hlt, by rw [barrierInUse, hrole, Bool.or_true]⟩

theorem mem_barriersInUse_of_entry {et : List Word} : ∀ b ∈ entryBarriers et, b ∈ barriersInUse et := fun b hb => by
  obtain ⟨hlt, hrole⟩ := List.mem_filter.mp hb
  exact List.mem_filter.mpr ⟨hlt, by rw [barrierInUse, hrole, Bool.true_or]⟩

namespace Commands

theorem startExitHold (h : Commands s t) : Commands s (startExitHold t) := by
  unfold Machine.startExitHold
  split
  · exact h.holdBarriers _
  · exact h.giveCommands _ _ mem_barriersInUse_of_exit

theorem enterGiving (c : BarrierCommand) (st : SeqState) {bs : List Nat} (hbs : ∀ b ∈ bs, b ∈ barriersInUse t.eqTab)
    (h : Commands s t) : Commands s (Machine.giveCommands c bs (enterState st t)) := by
  refine (h.entered st).giveCommands c bs fun b hb => ?_
  rw [(enterState_sequenceFrame st (List.Subset.refl _) (.refl phaseClasses t)).eqTab_eq]
  exact hbs b hb

theorem entryBegun (h : Commands s t) : Commands s (entryBegun t) := h.enterGiving _ _ mem_barriersInUse_of_entry

theorem setOnset_still (s : State) : Still s (setOnset s) :=
  .of_same (setOnset_touched s) (by rw [setOnset_seq])
    (State.commands_congr (State.barrierRecord_congr (setOnset_touched s).barrier_eq))

theorem closureBegun_still (s : State) : Still s (closureBegun s) :=
  .of_same (closureBegun_touched s) (by rw [closureBegun_seq])
    (State.commands_congr (State.barrierRecord_congr (closureBegun_touched s).barrier_eq))

theorem closureOver_still (s : State) : Still s (closureOver s) := by
  have hT := clearProlonged_touches (L := [.seq, .fault]) (by decide)
    (State.setSeq_touches { s.seq with onset := none, longClosure := none } (by decide) (.refl _ s))
  exact .of_same hT (by rw [closureOver, clearProlonged_seq]; rfl)
    (State.commands_congr (State.barrierRecord_congr hT.barrier_eq))

theorem initSafeLeft (h : Commands s t) : Commands s (initSafeLeft t) := by
  have hT := closureBegun_touched t
  refine (h.still (closureBegun_still t)).enterGiving .lower .closed fun b hb => ?_
  rwa [hT.eqTab_eq]

theorem activationBegun (h : Commands s t) : Commands s (activationBegun t) := by
  unfold Machine.activationBegun
  split
  · exact h.initSafeLeft
  · exact h.giveCommands _ _ fun _ hb => hb

end Commands

/-- Every move of the sequence is a chain of commands. -/
theorem Move.commands (m : Move s t) : Commands s t := by
  have hstart := Commands.refl (s := s)
  cases m with
  | amber => exact ((hstart.still (Commands.setOnset_still s)).still (.setSeq _ (by rfl))).entered .amber
  | redFlash =>
    exact ((hstart.of_touches (redBegins_touches (L := [.lamp]) (by decide) (.refl _ s))).still (.setSeq _ (by rfl))).entered
      .redFlash
  | entry => exact (hstart.still (.setSeq _ (by rfl))).entryBegun
  | relowered => exact (hstart.still (Commands.closureBegun_still s)).entryBegun
  | exitDelay =>
    exact ((hstart.still (.setSeq _ (by rfl))).entered .exitLowering).still
      (.setSeq _ (by rw [enterState_seq]))
  | exitAtOnce =>
    exact (((hstart.still (.setSeq _ (by rfl))).entered .exitLowering).still (.setSeq _ (by rfl))).startExitHold
  | exitStarted => exact (hstart.still (.setSeq _ (by rfl))).startExitHold
  | closed => exact (hstart.still (.setSeq _ (by rfl))).entered .closed
  | raising =>
    have hframe := closureOver_sequenceFrame (l := sequenceClasses) (by decide) (.refl _ s)
    refine (hstart.still (Commands.closureOver_still s)).enterGiving .raise .raising fun b hb => ?_
    rwa [hframe.eqTab_eq]
  | opened => exact hstart.entered .opened
  | prolonged =>
    have hT := checkProlonged_touched s
    exact hstart.still (.of_same hT (by rw [checkProlonged_seq])
      (State.commands_congr (State.barrierRecord_congr hT.barrier_eq)))
  | longClosure =>
    have hT := longClosureReached_touches (L := [.seq, .fault]) (by decide) (.refl _ s)
    exact hstart.still (.of_same hT (by rw [longClosureReached_seq])
      (State.commands_congr (State.barrierRecord_congr hT.barrier_eq)))

theorem Evolves.commands (hev : Evolves s t) : Commands s t := by
  induction hev with
  | refl => exact .refl
  | counted _ hT ih => exact ih.of_touches hT
  | reported o r _ ih => exact ih.reported o r
  | moved _ m ih => exact ih.trans m.commands

/-! ## Reports and expiries of the modules -/

/-- A report leaves what a barrier is commanded to (R120). -/
theorem reportedRecord_commanded (st : SeqState) (pos : BarrierPosition) (echo : Option BarrierCommand)
    (r : BarrierRecord) : (reportedRecord st pos echo r).commanded = r.commanded := by
  have hover : ∀ x : BarrierRecord, (silenceOver x).commanded = x.commanded := fun x => by
    unfold silenceOver
    split <;> rfl
  unfold reportedRecord
  dsimp only
  split
  · rfl
  · rw [hover]
    unfold reportOnRecord
    split_ifs <;> rfl

theorem takeBarrierReport_commands (j m : Nat) (pos : BarrierPosition) (echo : Option BarrierCommand) (s : State) :
    Commands s (takeBarrierReport j m pos echo s) := by
  have hT := barrierModuleHeard_touched j (moduleOf s.eqTab m).silence s
  have hheard : Still s (barrierModuleHeard j (moduleOf s.eqTab m).silence s) :=
    .of_same hT (by rw [hT.seq_eq]) (State.commands_congr barrierModuleHeard_barrierRecord)
  unfold takeBarrierReport
  dsimp only
  split
  · exact Commands.refl.still hheard
  · split
    · exact Commands.refl.still hheard
    next hr => exact (Commands.refl.still hheard).still (.changeBarrier hr (reportedRecord_commanded ..) _)

theorem expireProof_commands (b : Nat) (s : State) : Commands s (expireProof b s) := by
  unfold expireProof
  split
  · exact .refl
  next hr => exact Commands.refl.still (.changeBarrier hr (by rfl) _)

theorem barrierModuleSilence_commands (j : Nat) (s : State) : Commands s (barrierModuleSilence j s) := by
  have hT := moduleSilenced_touched j s
  have hsilenced : Commands s (moduleSilenced j s) :=
    Commands.refl.still (.of_same hT (by rw [hT.seq_eq]) (State.commands_congr moduleSilenced_barrierRecord))
  show Commands s (match barrierOfModule (moduleSilenced j s).eqTab j with
    | none => moduleSilenced j s
    | some b => silenceBarrier b (moduleSilenced j s))
  split
  · exact hsilenced
  · unfold silenceBarrier
    split
    · exact hsilenced
    · split
      · exact hsilenced
      next hr => exact hsilenced.still (.changeBarrier hr (by rfl) _)

theorem expireExitWait_commands (b : Nat) (s : State) : Commands s (expireExitWait b s) := by
  unfold expireExitWait
  split
  · exact .refl
  next hr =>
    exact (Commands.refl.still (.putBarrier hr (by rfl))).of_touches
      (enterFault_touches (L := [.fault]) _ _ _ (by decide) (.refl _ _))

theorem Commands.occupancyChanged (was : Bool) (h : Commands s t) : Commands s (occupancyChanged was t) := by
  unfold Machine.occupancyChanged
  split
  · split
    · exact h.takeBackBarriers _ mem_barriersInUse_of_exit
    · exact (h.releaseBarriers _ mem_barriersInUse_of_exit).of_touches
        (endObstructed_touches (L := [.fault]) (by decide) (.refl _ _))
  · exact h

theorem takePresenceReport_commands (j m : Nat) (v : Presence) (s : State) : Commands s (takePresenceReport j m v s) := by
  have hT := presenceModuleHeard_touches (L := [.barrier, .fault]) j (moduleOf s.eqTab m).silence v (by decide) (.refl _ s)
  refine Commands.occupancyChanged _ (Commands.refl.still (.of_same hT (by rw [hT.seq_eq]) (State.commands_congr ?_)))
  funext b
  rw [State.barrierRecord, presenceModuleHeard_barrier]
  rfl

theorem presenceModuleSilence_commands (j : Nat) (s : State) : Commands s (presenceModuleSilence j s) := by
  have hT := presenceSilenced_touched j s
  rw [presenceModuleSilence_eq]
  refine Commands.occupancyChanged _ (Commands.refl.still (.of_same hT (by rw [hT.seq_eq]) (State.commands_congr ?_)))
  funext b
  rw [State.barrierRecord, presenceSilenced_barrier]
  rfl

theorem evaluateProof_still (s : State) : Still s (evaluateProof s) := ⟨rfl, fun _ => rfl, rfl, rfl, rfl⟩

end

end Sys2Proof.Machine
end

section
/-! PROOFS. The command block and the ports through a chain of commands and through the ends of an event, for the
statement O60. -/

namespace Sys2Proof.Machine

section
variable {s t : State}

/-! ## Ports and slots through a chain of commands -/

/-- A predicate of the ports and the slots that writing a slot keeps, and a passage report. -/
structure KeptByWrites (I : State → Prop) : Prop where
  same : ∀ {u v}, (∀ p, v.port p = u.port p) → v.cmd.slots = u.cmd.slots → I u → I v
  write : ∀ {u} m x, I u → I (writeSlot m x u)
  reported : ∀ {u} o r, I u → I (handPassageReport o r u)

theorem KeptByWrites.writeLampSlots {I : State → Prop} (hI : KeptByWrites I) (h : I s) : I (writeLampSlots s) := by
  have hrun : ∀ (l : List Nat) (j : Nat) (u : State), I u → I (writeLampSlotsFrom l j u) := by
    intro l
    induction l with
    | nil => exact fun _ _ hu => hu
    | cons m rest ih => exact fun j u hu => ih (j + 1) _ (hI.write m _ hu)
  exact hrun _ 0 s h

/-- The state entered, before ROAD_LIGHTS_FAILED is evaluated again. -/
theorem enterState_eq (st : SeqState) (s : State) :
    enterState st s = evaluateRoadLights (writeLampSlots (s.setSeq { s.seq with state := st })) := rfl

theorem KeptByWrites.through {I : State → Prop} (hI : KeptByWrites I) (h : I s) (hs : Commands s t) : I t := by
  have frame : ∀ {L : List Block} {u v : State},
      Touches L u v → .portA ∉ L → .portB ∉ L → .cmd ∉ L → I u → I v := fun hT ha hb hc => hI.same (fun p => hT.port_eq (p := p) ha hb) (by rw [hT.cmd_eq hc])
  induction hs with
  | refl => exact h
  | still _ hstill ih => exact hI.same hstill.port hstill.slots ih
  | entered st _ ih =>
    exact frame (evaluateRoadLights_touches (L := [.fault]) (by decide) (.refl _ _)) (by decide) (by decide) (by decide)
      (hI.writeLampSlots (hI.same (fun _ => State.setSeq_port ..) rfl ih))
  | @given t c b _ _ ih =>
    unfold giveCommand
    split
    · exact ih
    · exact hI.write _ _ (frame (changeBarrier_touched _ _ _ _) (by decide) (by decide) (by decide) ih)
  | reported o r _ ih => exact hI.reported o r ih

theorem entryIsPassage_not_status {e : QueueEntry} (h : e.tel.kind = kindPassage) :
    entryIsPassage e = true ∧ entryIsStatus e = false := by
  rw [entryIsPassage, entryIsStatus, h]
  exact ⟨by decide, by decide⟩

theorem QueueFits.passage {q : List QueueEntry} {e : QueueEntry} (h : QueueFits .status q)
    (he : e.tel.kind = kindPassage) (hroom : (q.filter entryIsPassage).length < 7) : QueueFits .status (q ++ [e]) := by
  obtain ⟨hpassage, hstatus⟩ := entryIsPassage_not_status he
  obtain ⟨hone, -, hkinds⟩ := h
  simp only [QueueFits, List.filter_append, List.filter_singleton, hpassage, hstatus, List.length_append, List.all_append,
    List.all_cons, hkinds]
  exact ⟨hone, hroom, rfl⟩

theorem QueueFits.status {q : List QueueEntry} {e : QueueEntry} (h : QueueFits .status q)
    (he : e.tel.kind = kindStatus) (hnone : q.any entryIsStatus = false) : QueueFits .status (q ++ [e]) := by
  have hstatus : entryIsStatus e = true := by rw [entryIsStatus, he]; decide
  have hpassage : entryIsPassage e = false := by rw [entryIsPassage, he]; decide
  have hnil : q.filter entryIsStatus = [] := List.filter_eq_nil_iff.mpr (List.any_eq_false.mp hnone)
  obtain ⟨-, hpassages, hkinds⟩ := h
  simp only [QueueFits, List.filter_append, List.filter_singleton, hpassage, hstatus, List.length_append, List.all_append,
    List.all_cons, hkinds, hnil]
  exact ⟨Nat.le_refl 1, hpassages, rfl⟩

theorem passage_room {p : Port} (h : ¬ ((s.port p).link = .down ∨ passageCapacity ≤ passagesWaiting (s.port p))) :
    (s.port p).link = .up ∧ ((s.port p).status.filter entryIsPassage).length < 7 := by
  rw [not_or] at h
  refine ⟨?_, Nat.not_le.mp h.2⟩
  cases hl : (s.port p).link with
  | up => rfl
  | down => exact absurd hl h.1

theorem PortsFit.handPassageReport (h : PortsFit s) (o : PassageOutcome) (r : TrainRecord) :
    PortsFit (handPassageReport o r s) := by
  unfold Machine.handPassageReport
  dsimp only
  split
  · exact h.of_port fun p => (raiseNotice_touches (L := [.fault]) _ _ (by decide) (.refl _ s)).port_eq (p := p)
  next hroom =>
    obtain ⟨hup, hlt⟩ := passage_room hroom
    exact h.joinQueue hup (((h _).1.capacity .status).passage rfl hlt)

theorem handPassageReport_slots (o : PassageOutcome) (r : TrainRecord) (s : State) :
    (handPassageReport o r s).cmd.slots = s.cmd.slots := by
  rw [(handPassageReport_touches (L := [.portA, .portB, .fault, .queue .status]) o r (by decide) (.refl _ s)).cmd_eq]

theorem NoBlock.handPassageReport (h : NoBlock s) (o : PassageOutcome) (r : TrainRecord) :
    NoBlock (handPassageReport o r s) := by
  unfold Machine.handPassageReport
  dsimp only
  split
  · have hT := raiseNotice_touches (L := [.fault]) (38 + portNumber s.signallerPort) (256 * r.approach + r.tag.toNat)
      (by decide) (.refl _ s)
    exact h.of_eq (fun p => hT.port_eq (p := p)) (by rw [hT.cmd_eq])
  · exact h.joinQueue (by decide) _ _

theorem blockFits_writes : KeptByWrites BlockFits where
  same hp hc h := h.of_eq hp hc
  write m x h := h.writeSlot m x
  reported o r h := ⟨h.ports.handPassageReport o r, by rw [handPassageReport_slots]; exact h.slots⟩

theorem noBlock_writes : KeptByWrites NoBlock where
  same hp hc h := h.of_eq hp hc
  write m x h := by rwa [h.writeSlot m x]
  reported o r h := h.handPassageReport o r

theorem BlockFits.through (h : BlockFits s) (hs : Commands s t) : BlockFits t := blockFits_writes.through h hs

theorem NoBlock.through (h : NoBlock s) (hs : Commands s t) : NoBlock t := noBlock_writes.through h hs

/-! ## What the slots hold -/

/-- Each slot holds what its module is commanded to, under an equipment table that matches barriers and modules. -/
structure SlotsFit (s : State) : Prop where
  equipment : EquipmentFits s.eqTab
  slots : s.cmd.slots = slotsWith s.eqTab (slotContentFor s.eqTab s.seq.state s.commands)

theorem SlotsFit.of_eq (h : SlotsFit s) (hc : t.config.tables = s.config.tables) (hs : t.cmd.slots = s.cmd.slots)
    (hq : t.seq.state = s.seq.state) (hb : t.commands = s.commands) : SlotsFit t := by
  have heq : t.eqTab = s.eqTab := by rw [State.eqTab, hc]; rfl
  exact ⟨by rw [heq]; exact h.equipment, by rw [hs, heq, hq, hb]; exact h.slots⟩

theorem SlotsFit.still (h : SlotsFit s) (hs : Still s t) : SlotsFit t := h.of_eq hs.tables hs.slots hs.phase hs.commands

theorem writeSlot_touched (m : Nat) (x : SlotContent) (s : State) :
    Touches [.portA, .portB, .cmd, .queue .command] s (writeSlot m x s) := writeSlot_touches m x (by decide) (.refl _ s)

/-- The lamp modules of a run, the first with lamp module index `j`, hold the modes of the sequencer's state (R101). -/
theorem writeLampSlotsFrom_slots {f : Nat → SlotContent} (l : List Nat) (j : Nat) (s : State)
    (hidx : ∀ i (h : i < l.length), (modulesOfType s.eqTab .lamp).idxOf l[i] = j + i)
    (hslots : s.cmd.slots = slotsWith s.eqTab f) :
    (writeLampSlotsFrom l j s).cmd.slots = slotsWith s.eqTab fun m =>
      if m ∈ l then lampSlotContent s.eqTab s.seq.state ((modulesOfType s.eqTab .lamp).idxOf m) else f m := by
  induction l generalizing j s f with
  | nil => simpa [writeLampSlotsFrom] using hslots
  | cons m rest ih =>
    have hT := writeSlot_touched m (lampSlotContent s.eqTab s.seq.state j) s
    have hm : (modulesOfType s.eqTab .lamp).idxOf m = j := hidx 0 (Nat.succ_pos _)
    rw [writeLampSlotsFrom, ih (j + 1) (writeSlot m (lampSlotContent s.eqTab s.seq.state j) s)
      (f := fun n => if n = m then lampSlotContent s.eqTab s.seq.state j else f n), hT.eqTab_eq, hT.seq_eq]
    · refine slotsWith_congr fun n _ => ?_
      by_cases hn : n = m
      · subst hn
        simp [hm]
      · simp [hn]
    · intro i hi
      rw [hT.eqTab_eq]
      have hnext := hidx (i + 1) (Nat.succ_lt_succ hi)
      rw [List.getElem_cons_succ] at hnext
      omega
    · rw [writeSlot_slots, hslots, setSlotContent_slotsWith, hT.eqTab_eq]

theorem mem_modulesOfType_lamp {et : List Word} {m : Nat} (h : m ∈ outputModules et) :
    m ∈ modulesOfType et .lamp ↔ moduleType et m = some .lamp := by
  have hlt := (List.mem_filter.mp h).1
  simp [modulesOfType, hlt]

/-- Writing the lamp slots brings slots that were right in some state of the sequencer up to the present one (R101). -/
theorem writeLampSlots_slots {st : SeqState} {cmds : Nat → Option BarrierCommand}
    (h : s.cmd.slots = slotsWith s.eqTab (slotContentFor s.eqTab st cmds)) :
    (writeLampSlots s).cmd.slots = slotsWith s.eqTab (slotContentFor s.eqTab s.seq.state cmds) := by
  rw [writeLampSlots, writeLampSlotsFrom_slots _ 0 s (fun i hi => ?_) h]
  · refine slotsWith_congr fun m hm => ?_
    simp only [mem_modulesOfType_lamp hm]
    unfold slotContentFor
    split <;> rfl
  · rw [(nodup_modulesOfType ..).idxOf_getElem, Nat.zero_add]

theorem SlotsFit.enterState (h : SlotsFit s) (st : SeqState) : SlotsFit (enterState st s) := by
  have hT := enterState_touches (L := [.portA, .portB, .seq, .cmd, .fault, .queue .command]) st (by decide) (.refl _ s)
  have hcommands : (Machine.enterState st s).commands = s.commands := State.commands_congr (enterState_barrierRecord st s)
  have heval := evaluateRoadLights_touches (L := [.fault]) (by decide)
    (.refl _ (writeLampSlots (s.setSeq { s.seq with state := st })))
  have hwritten := writeLampSlots_slots (s := s.setSeq { s.seq with state := st }) h.slots
  refine ⟨by rw [hT.eqTab_eq]; exact h.equipment, ?_⟩
  rw [hT.eqTab_eq, hcommands, enterState_seq, enterState_eq, heval.cmd_eq]
  exact hwritten

theorem giveCommand_commands {b : Nat} {r : BarrierRecord} (h : s.barrierRecord b = some r) (c : BarrierCommand) (x : Nat) :
    (giveCommand c b s).commands x = if x = b then some c else s.commands x := by
  rw [State.commands, giveCommand_barrierRecord]
  split
  next hx => rw [hx, h]; rfl
  next => rfl

theorem SlotsFit.giveCommand (h : SlotsFit s) (c : BarrierCommand) {b : Nat} (hb : b ∈ barriersInUse s.eqTab) :
    SlotsFit (giveCommand c b s) := by
  cases hr : s.barrierRecord b with
  | none =>
    have hsame : Machine.giveCommand c b s = s := by simp only [Machine.giveCommand, hr]
    rwa [hsame]
  | some r =>
    have hT := giveCommand_touches (L := [.portA, .portB, .barrier, .cmd, .fault, .queue .command]) c b (by decide) (.refl _ s)
    obtain ⟨hbarrier, hown⟩ := h.equipment.own b hb
    have hslots : (Machine.giveCommand c b s).cmd.slots
        = setSlotContent (barrierModuleOf s.eqTab b) (.barrier c) s.cmd.slots := by
      simp only [Machine.giveCommand, hr]
      rw [writeSlot_slots, (changeBarrier_touched _ _ _ _).cmd_eq]
    refine ⟨by rw [hT.eqTab_eq]; exact h.equipment, ?_⟩
    rw [hT.eqTab_eq, hT.seq_eq, hslots, h.slots, setSlotContent_slotsWith]
    refine slotsWith_congr fun n hn => ?_
    by_cases hm : n = barrierModuleOf s.eqTab b
    · have htype : moduleType s.eqTab n = some .barrier := by
        rw [hm]
        simpa using (List.mem_filter.mp hbarrier).2
      rw [if_pos hm, slotContentFor, if_neg (by rw [htype]; decide), hm, hown, Option.bind_some, giveCommand_commands hr,
        if_pos rfl]
      rfl
    · rw [if_neg hm]
      unfold slotContentFor
      split
      · rfl
      next hlamp =>
        have hmem : n ∈ modulesOfType s.eqTab .barrier := by
          obtain ⟨hlt, htype⟩ := List.mem_filter.mp hn
          exact List.mem_filter.mpr ⟨hlt, by simpa [hlamp] using htype⟩
        cases hfind : barrierOfModule s.eqTab ((modulesOfType s.eqTab .barrier).idxOf n) with
        | none => rfl
        | some x =>
          have hx : x ≠ b := by
            rintro rfl
            have hmodule : (barrierOf s.eqTab x).module = (modulesOfType s.eqTab .barrier).idxOf n := by
              simpa using List.find?_some hfind
            refine hm ?_
            rw [barrierModuleOf, hmodule, List.getD_eq_getElem _ _ (List.idxOf_lt_length_of_mem hmem), List.getElem_idxOf]
          rw [Option.bind_some, Option.bind_some, giveCommand_commands hr, if_neg hx]

theorem SlotsFit.through (h : SlotsFit s) (hs : Commands s t) : SlotsFit t := by
  induction hs with
  | refl => exact h
  | still _ hstill ih => exact ih.still hstill
  | entered st _ ih => exact ih.enterState st
  | given c hb _ ih => exact ih.giveCommand c hb
  | @reported t o r _ ih =>
    have hT := handPassageReport_touches (L := [.portA, .portB, .fault, .queue .status]) o r (by decide) (.refl _ t)
    exact ih.of_eq (by rw [hT.config_eq]) (by rw [hT.cmd_eq]) (by rw [hT.seq_eq])
      (State.commands_congr (State.barrierRecord_congr hT.barrier_eq))

end

end Sys2Proof.Machine
end

section
/-! PROOFS. The command slots and the ports through every event, the stranger list, and the statement O60. -/

namespace Sys2Proof.Machine

/-- The ports and the block are sound, and the slots hold what the modules are commanded to. -/
structure ModulesFit (s : State) : Prop where
  block : BlockFits s
  slots : SlotsFit s

section
variable {s t : State}

theorem ModulesFit.through (h : ModulesFit s) (hs : Commands s t) : ModulesFit t :=
  ⟨h.block.through hs, h.slots.through hs⟩

theorem ModulesFit.still (h : ModulesFit s) (hs : Still s t) : ModulesFit t := h.through (Commands.refl.still hs)

theorem ModulesFit.frame (h : ModulesFit s) {L : List Block} (hT : Touches L s t) (hconfig : .config ∉ L := by decide)
    (ha : .portA ∉ L := by decide) (hb : .portB ∉ L := by decide) (hcmd : .cmd ∉ L := by decide)
    (hseq : .seq ∉ L := by decide) (hbarrier : .barrier ∉ L := by decide) : ModulesFit t :=
  h.still (.of_touches hT hconfig ha hb hcmd hseq hbarrier)

/-- The blocks of the ports, the fault unit and the free counter. -/
abbrev portBlocks : List Block :=
  [.portA, .portB, .fault, .links, .queue .command, .queue .status, .queue .reply, .queue .forward]

/-- A change of the ports alone that leaves them sound. -/
theorem ModulesFit.onPorts (h : ModulesFit s) (hT : Touches portBlocks s t) (hp : PortsFit t) : ModulesFit t :=
  ⟨⟨hp, by rw [hT.cmd_eq]; exact h.block.slots⟩, h.slots.of_eq (by rw [hT.config_eq]) (by rw [hT.cmd_eq])
    (by rw [hT.seq_eq]) (State.commands_congr (State.barrierRecord_congr hT.barrier_eq))⟩

/-! ## Status telegrams -/

theorem refreshEntry_kinds {tel : Telegram} (h : tel.kind = kindStatus) (e : QueueEntry) :
    entryIsStatus (refreshEntry tel e) = entryIsStatus e ∧ entryIsPassage (refreshEntry tel e) = entryIsPassage e := by
  unfold refreshEntry
  split
  next he =>
    have hkind : e.tel.kind = kindStatus := by simpa [entryIsStatus] using he
    simp [entryIsStatus, entryIsPassage, h, hkind]
  next => exact ⟨rfl, rfl⟩

theorem QueueFits.refreshed {q : List QueueEntry} {tel : Telegram} (h : QueueFits .status q) (htel : tel.kind = kindStatus) :
    QueueFits .status (q.map (refreshEntry tel)) := by
  have hstatus : entryIsStatus ∘ refreshEntry tel = entryIsStatus := funext fun e => (refreshEntry_kinds htel e).1
  have hpassage : entryIsPassage ∘ refreshEntry tel = entryIsPassage := funext fun e => (refreshEntry_kinds htel e).2
  obtain ⟨hone, hpassages, hkinds⟩ := h
  refine ⟨?_, ?_, ?_⟩
  · rwa [List.filter_map, List.length_map, hstatus]
  · rwa [List.filter_map, List.length_map, hpassage]
  · rw [List.all_map, ← hkinds]
    congr 1
    funext e
    obtain ⟨h1, h2⟩ := refreshEntry_kinds htel e
    simp only [Function.comp_apply, h1, h2]

theorem PortsFit.statusDue (h : PortsFit s) : PortsFit (statusDue s) := by
  unfold Machine.statusDue
  dsimp only
  split
  · exact h
  next hready =>
    have hup : (s.port s.signallerPort).link = .up := by
      cases hl : (s.port s.signallerPort).link with
      | up => rfl
      | down => exact absurd (.inr hl) hready
    have hfits := h s.signallerPort
    split
    · refine h.setPort (hfits.shortened rfl rfl rfl (fun c hc => ?_) (fun c hc => ?_))
      · cases c with
        | status => exact QueueFits.refreshed hc rfl
        | _ => exact hc
      · cases c with
        | status => exact List.map_eq_nil_iff.mpr hc
        | _ => exact hc
    next hnone => exact h.joinQueue hup ((hfits.1.capacity .status).status rfl ((Bool.not_eq_true _).mp hnone))

theorem ModulesFit.finish (h : ModulesFit s) (before : State) (due : Bool) : ModulesFit (finish before due s) := by
  refine h.onPorts (finish_touches before due (by decide) (.refl _ s)) ?_
  unfold Machine.finish
  split
  · exact h.block.ports.statusDue
  · exact h.block.ports

theorem ModulesFit.finishProof (h : ModulesFit s) (before : State) (due : Bool) : ModulesFit (finishProof before due s) :=
  (h.still (evaluateProof_still s)).finish before due

/-! ## The ports' own events -/

theorem PortsFit.hearLink (h : PortsFit s) (p : Port) : PortsFit (hearLink p s) := by
  obtain ⟨hqueues, hserved⟩ := h p
  exact h.setPort ⟨⟨by simp, fun hdown => (by cases hdown), hqueues.capacity⟩, hserved⟩

theorem ModulesFit.portHeard (h : ModulesFit s) (p : Port) : ModulesFit (portHeard p s) := by
  have hheard : ModulesFit (hearLink p s) :=
    h.onPorts (hearLink_touches p (by decide) (.refl _ s)) (h.block.ports.hearLink p)
  unfold Machine.portHeard
  split
  · exact hheard
  · exact (hheard.frame (endFaultUnless_touches (L := [.fault]) _ _ (by decide) (.refl _ _))).finish _ _

theorem ModulesFit.passCopy (h : ModulesFit s) (p : Port) (tel : Telegram) : ModulesFit (passCopy p tel s) := by
  refine h.onPorts (passCopy_touches p tel (by decide) (.refl _ s)) ?_
  unfold Machine.passCopy
  split
  · exact h.block.ports
  next hroom =>
    rw [not_or] at hroom
    obtain ⟨hup, hlt⟩ := hroom
    refine h.block.ports.joinQueue ?_ ?_
    · cases hl : (s.port p.other).link with
      | up => rfl
      | down => exact absurd hl hup
    · simp only [forwardCapacity] at hlt
      simp only [QueueFits, PortState.queue, List.length_append, List.length_singleton]
      omega

theorem ModulesFit.sendReply (h : ModulesFit s) {a : Arrival} (ha : Answerable a s) (kind : Byte) (payload : List Byte) :
    ModulesFit (sendReply a kind payload s) := by
  obtain ⟨hup, hroom⟩ := ha
  refine h.onPorts (sendReply_touches a kind payload (by decide) (.refl _ s)) (h.block.ports.joinQueue hup ?_)
  have hlt : (s.port a.port).reply.length < 4 := of_decide_eq_true hroom
  simp only [QueueFits, PortState.queue, List.length_append, List.length_singleton]
  omega

theorem ModulesFit.portGoesDown (h : ModulesFit s) (p : Port) : ModulesFit (portGoesDown p s) := by
  refine h.onPorts (portGoesDown_touches p (by decide) (.refl _ s)) ?_
  have hdown : PortFits (portDownState (s.port p)) := by
    refine (⟨⟨?_, fun _ c => ?_, fun c => ?_⟩, fun _ c => ?_⟩ : PortFits _)
    · simp [portDownState]
    · cases c <;> rfl
    · cases c <;> exact QueueFits.nil _
    · cases c <;> rfl
  exact (h.block.ports.setPort hdown).of_port fun q =>
    (enterFault_touches (L := [.fault]) _ _ _ (by decide) (.refl _ _)).port_eq (p := q)

theorem ModulesFit.idleReached (h : ModulesFit s) (p : Port) : ModulesFit (idleReached p s) := by
  refine h.onPorts (idleReached_touches p (by decide) (.refl _ s)) (h.block.ports.setPort ?_)
  obtain ⟨⟨hsilence, hdown, hcapacity⟩, hserved⟩ := h.block.ports p
  refine ⟨⟨hsilence, hdown, hcapacity⟩, fun hfree => ?_⟩
  dsimp only at hfree
  split at hfree <;> cases hfree

theorem ModulesFit.transmissionDone (h : ModulesFit s) (p : Port) : ModulesFit (transmissionDone p s) := by
  refine h.onPorts (transmissionDone_touches p (by decide) (.refl _ s)) (h.block.ports.setPort ?_)
  obtain ⟨hsilence, hdown, hcapacity⟩ := (h.block.ports p).1
  exact QueuesFit.served (ps := { s.port p with
    transmitter := none, idle := some (timePlus s.now ((tSilenceOf s.loopTab).toNat / 4)) })
    ⟨hsilence, hdown, hcapacity⟩ _ _

theorem refreshCleared_portsFit (h : PortsFit s) : PortsFit (refreshCleared s) := by
  unfold refreshCleared
  split
  · exact h
  · exact h.removeBlock.of_port fun p => (raiseFault_touches (L := [.fault]) _ _ _ (by decide) (.refl _ _)).port_eq (p := p)

theorem ModulesFit.refreshBlock (h : ModulesFit s) : ModulesFit (refreshBlock s) := by
  have hT := refreshBlock_touches (L := [.portA, .portB, .cmd, .fault, .queue .command]) (by decide) (.refl _ s)
  have hcleared := refreshCleared_touches (s := s)
  have hslots : (Machine.refreshBlock s).cmd.slots = s.cmd.slots := by
    rw [refreshBlock_eq, startBlock_cmd, hcleared.cmd_eq]
  refine ⟨⟨?_, by rw [hslots]; exact h.block.slots⟩, h.slots.of_eq (by rw [hT.config_eq]) hslots (by rw [hT.seq_eq])
    (State.commands_congr (State.barrierRecord_congr hT.barrier_eq))⟩
  rw [refreshBlock_eq]
  refine (refreshCleared_portsFit h.block.ports).startBlock ?_ fun p => by rw [refreshCleared_port]
  rw [hcleared.cmd_eq]
  exact h.block.slots

/-! ## Slots formed anew -/

/-- Sound ports with the block stopped (R169). -/
structure Stopped (s : State) : Prop where
  ports : PortsFit s
  none : NoBlock s

theorem Stopped.through (h : Stopped s) (hs : Commands s t) : Stopped t := by
  have hblock : BlockFits s := ⟨h.ports, by rw [h.none.slots]; exact Nat.zero_le 8⟩
  exact ⟨(hblock.through hs).ports, h.none.through hs⟩

theorem stopBlock_stopped (h : PortsFit s) : Stopped (stopBlock s) := by
  have hport : ∀ p, (stopBlock s).port p = (removeBlock s).port p := fun _ => State.setCmd_port ..
  exact ⟨h.removeBlock.of_port hport, ⟨rfl, fun p => by rw [hport, removeBlock_port]⟩⟩

/-- The slots of the active tables, on ports where the block was stopped (R164, R169). -/
theorem Stopped.formSlots (h : Stopped s) (he : EquipmentFits s.eqTab) : ModulesFit (formSlots s) := by
  have hT := formSlots_touched s
  have hslots : (Machine.formSlots s).cmd.slots = slotsOf s := congrArg CommandBlock.slots (startBlock_cmd _)
  have hlength : (slotsOf s).length ≤ 8 := (List.length_map _).trans_le he.few
  refine ⟨⟨?_, by rw [hslots]; exact hlength⟩, ⟨by rw [hT.eqTab_eq]; exact he, ?_⟩⟩
  · exact (h.ports.of_port fun _ => State.setCmd_port ..).startBlock hlength
      fun p => (congrArg PortState.command (State.setCmd_port ..)).trans (h.none.commands p)
  · rw [hslots, slotsOf_eq, hT.eqTab_eq, hT.seq_eq, State.commands_congr (State.barrierRecord_congr hT.barrier_eq)]

theorem reinitialise_stopped (st : SeqState) (l : List TrackSection) (h : PortsFit s) : Stopped (reinitialise st l s) :=
  stopBlock_stopped (h.of_port fun p =>
    ((endFaults_touches (L := [.fault]) ownedClasses (by decide) (.refl _ _)).port_eq (p := p)).trans (by cases p <;> rfl))

theorem reinitialiseEmpty_stopped (h : PortsFit s) : Stopped (reinitialiseEmpty s) :=
  stopBlock_stopped (h.of_port fun p =>
    ((endFaults_touches (L := [.fault]) ownedClasses (by decide) (.refl _ _)).port_eq (p := p)).trans (by cases p <;> rfl))

theorem raiseNotice_portsFit (subject detail : Nat) (h : PortsFit s) : PortsFit (raiseNotice subject detail s) :=
  h.of_port fun p => (raiseNotice_touches (L := [.fault]) subject detail (by decide) (.refl _ s)).port_eq (p := p)

theorem anewBegun_stopped (pid crc : Word) (h : PortsFit s) : Stopped (anewBegun pid crc s) :=
  reinitialise_stopped _ _ (raiseNotice_portsFit _ _ (h.of_port fun p => by cases p <;> rfl))

theorem keptBegun_stopped (h : PortsFit s) : Stopped (keptBegun s) := reinitialise_stopped _ _ (raiseNotice_portsFit _ _ h)

theorem emptiedBegun_stopped (code : Nat) (h : PortsFit s) : Stopped (emptiedBegun code s) :=
  reinitialiseEmpty_stopped ((raiseNotice_portsFit 33 code h).of_port fun p => by cases p <;> rfl)

/-- The equipment table of a set that is pending fits (R174). -/
def PendingFits (s : State) : Prop := ∀ x, s.config.pendingSet = some x → EquipmentFits s.stagedSafety.equipment

theorem ConfigSound.pendingFits (h : ConfigSound s) : PendingFits s := by
  obtain ⟨-, ⟨-, hpending⟩, -⟩ := h
  intro x hx
  obtain ⟨-, -, hpass⟩ := checkActivate_eq_none.mp (hpending x hx)
  exact hpass.equipmentFits

theorem ModulesFit.activated (h : ModulesFit s) (hpending : PendingFits s) : ModulesFit (activateIfQuiescent s) := by
  unfold activateIfQuiescent
  split
  next pid crc _ hpend =>
    split
    next =>
      have hstopped := ((anewBegun_stopped pid crc h.block.ports).through (Commands.refl.activationBegun)).through
        (sequenceAfterActivation_evolves _).commands
      have hT := sequenceAfterActivation_touched (anewBegun pid crc s)
      have heq : (sequenceAfterActivation (anewBegun pid crc s)).eqTab = s.stagedSafety.equipment := by
        rw [hT.eqTab_eq, State.eqTab, anewBegun_config]
      rw [takeEffect_eq]
      exact (hstopped.formSlots (by rw [heq]; exact hpending _ hpend)).still ⟨rfl, fun _ => rfl, rfl, rfl, rfl⟩
    next => exact h
  next => exact h

theorem PortsFit.removeStatus (h : PortsFit s) : PortsFit (removeStatus s) := fun p => by
  have hport : (Machine.removeStatus s).port p = withoutStatus (s.port p) := by cases p <;> rfl
  rw [hport]
  refine (h p).shortened rfl rfl rfl (fun c hc => ?_) (fun c hc => ?_)
  · cases c with
    | status =>
      obtain ⟨hone, hpassages, hkinds⟩ := hc
      have hsub := List.filter_sublist (p := fun e => !entryIsStatus e) (l := (s.port p).status)
      exact ⟨((hsub.filter _).length_le).trans hone, ((hsub.filter _).length_le).trans hpassages,
        List.all_eq_true.mpr fun e he => List.all_eq_true.mp hkinds e (hsub.subset he)⟩
    | _ => exact hc
  · cases c with
    | status => exact (congrArg (List.filter _) hc).trans List.filter_nil
    | _ => exact hc

/-- With no safety set active there is no output module, and no slot (R169). -/
theorem ModulesFit.restartEmptied (code : Nat) (h : ModulesFit s) : ModulesFit (restartEmptied code s) := by
  obtain ⟨hports, hnone⟩ := emptiedBegun_stopped code h.block.ports
  have hgroups := evaluateGroups_touches (L := [.fault]) (by decide) (.refl _ (emptiedBegun code s))
  have hT := removeStatus_touches (L := [.portA, .portB, .fault, .queue .status]) (by decide)
    (evaluateGroups_touches (by decide) (.refl _ (emptiedBegun code s)))
  have hslots : (Machine.restartEmptied code s).cmd.slots = [] := by
    show (removeStatus (evaluateGroups (emptiedBegun code s))).cmd.slots = []
    rw [hT.cmd_eq, hnone.slots]
  have heq : (Machine.restartEmptied code s).eqTab = safetyEmpty.equipment := by
    rw [State.eqTab, restartEmptied_config]
  have houtputs : outputModules safetyEmpty.equipment = [] := by decide
  refine ⟨⟨?_, by rw [hslots]; exact Nat.zero_le 8⟩, ⟨by rw [heq]; exact equipmentFits_empty, ?_⟩⟩
  · exact PortsFit.removeStatus (hports.of_port fun p => hgroups.port_eq (p := p))
  · rw [hslots, heq, slotsWith, houtputs]
    rfl

theorem ModulesFit.restarted (h : ModulesFit s) (m : Option RestartMode) : ModulesFit (restartEffect m s) := by
  unfold restartEffect
  split
  · unfold restartKeepAccepted
    split
    next =>
      have hT := leaveInitSafe_touched (keptBegun s)
      have heq : (leaveInitSafe (keptBegun s)).eqTab = s.eqTab := by rw [hT.eqTab_eq, State.eqTab, keptBegun_config]; rfl
      have hstopped := ((keptBegun_stopped h.block.ports).through Commands.refl.initSafeLeft).through
        (leaveInitSafe_evolves _).commands
      exact hstopped.formSlots (by rw [heq]; exact h.slots.equipment)
    next => exact h.restartEmptied 0
  · exact (h.restartEmptied 1).still ⟨rfl, fun _ => rfl, rfl, rfl, rfl⟩
  · exact h

/-! ## Replies -/

/-- The blocks a request changes before it is answered: not the links, not the replies. -/
abbrev requestBlocks : List Block :=
  [.portA, .portB, .window, .axle, .tracker, .seq, .lamp, .barrier, .cmd, .fault, .config, .freeCounter,
   .queue .command, .queue .status, .queue .forward, .statusPeriod]

theorem Answerable.after {a : Arrival} (ha : Answerable a s) (hp : PortsFit s) (hT : Touches requestBlocks s t) :
    Answerable a t := by
  obtain ⟨hup, hroom⟩ := ha
  obtain ⟨hlink, -⟩ := hT.link (by decide) a.port
  obtain ⟨hbusy, hempty⟩ := hT.queue (c := .reply) (by decide) a.port
  refine ⟨hlink.trans hup, ?_⟩
  cases htransmitter : (s.port a.port).transmitter with
  | some tel =>
    have hreply : (t.port a.port).reply = (s.port a.port).reply := (hbusy (by rw [htransmitter]; rfl)).1
    rwa [replyRoom, hreply]
  | none =>
    have hreply : (t.port a.port).reply = [] := hempty ((hp a.port).2 htransmitter .reply)
    rw [replyRoom, hreply]
    rfl

/-- A request acted on and answered. -/
theorem ModulesFit.answered {a : Arrival} (h : ModulesFit s) (ha : Answerable a s) (ht : ModulesFit t)
    (hT : Touches requestBlocks s t) (kind : Byte) (payload : List Byte) : ModulesFit (Machine.sendReply a kind payload t) :=
  ht.sendReply (ha.after h.block.ports hT) kind payload

theorem Still.setConfig (c : ConfigUnit) (h : c.tables = s.config.tables) : Still s (s.setConfig c) :=
  ⟨h, fun p => State.setConfig_port c s p, rfl, rfl, rfl⟩

theorem stageWriteEffect_modulesFit (table : Option TableId) (start : Nat) (ws : List Word) (reason : Option Reason)
    (h : ModulesFit s) : ModulesFit (stageWriteEffect table start ws reason s) := by
  have hcancelled : ∀ u, ModulesFit u → ModulesFit (if writeCancels table u then cancelActivation u else u) :=
    fun u hu => by split <;> [exact hu.still (.setConfig _ (by rfl)); exact hu]
  unfold stageWriteEffect
  refine hcancelled _ ?_
  split
  · exact h.still (.setConfig _ (by rfl))
  · exact h

theorem stageReadEffect_modulesFit (table : Option TableId) (start count : Nat) (reason : Option Reason)
    (h : ModulesFit s) : ModulesFit (stageReadEffect table start count reason s) := by
  unfold stageReadEffect
  split
  · exact h.still (.setConfig _ (by rfl))
  · exact h

theorem activateEffect_modulesFit (identity crc : Word) (reason : Option Reason) (h : ModulesFit s) :
    ModulesFit (activateEffect identity crc reason s) := by
  unfold activateEffect
  split <;> exact h.still (.setConfig _ (by rfl))

theorem activateLoopEffect_modulesFit (reason : Option Reason) (h : ModulesFit s) :
    ModulesFit (activateLoopEffect reason s) := by
  unfold activateLoopEffect
  split
  · exact h
  · exact (h.frame (State.setWindow_touches (L := [.window]) _ (by decide) (.refl _ s))).still (.setConfig _ (by rfl))

theorem useFree_modulesFit (table : Option TableId) (n : Nat) (h : ModulesFit s) :
    ModulesFit (if table.isNone then useFree n s else s) := by
  split
  · exact h.frame (useFree_touched n s)
  · exact h

theorem confirmEffect_modulesFit (reason : Option Reason) (h : ModulesFit s) (hpending : PendingFits s) :
    ModulesFit (confirmEffect reason s) := by
  unfold confirmEffect
  split
  · exact h
  · exact (h.still (.setConfig _ (by rfl))).activated hpending

section
variable {a : Arrival} (payload : List Byte)

theorem ModulesFit.answerAcknowledge (h : ModulesFit s) (ha : Answerable a s) :
    ModulesFit (answerAcknowledge a payload s) := by
  unfold Machine.answerAcknowledge
  split
  · exact h.sendReply ha _ _
  · exact h.answered ha (h.frame (acknowledgeFlags_touches (L := [.window, .fault]) _ (by decide) (.refl _ s)))
      (acknowledgeFlags_touches _ (by decide) (.refl _ s)) _ _

theorem ModulesFit.answerRestore (h : ModulesFit s) (ha : Answerable a s) : ModulesFit (answerRestore a payload s) := by
  unfold Machine.answerRestore
  split
  · exact h.sendReply ha _ _
  · exact h.answered ha (h.through (Evolves.refl.restoreEffect _ _ _ _).commands)
      (restoreEffect_touches _ _ _ _ (by decide) (.refl _ s)) _ _

theorem ModulesFit.answerConfirm (h : ModulesFit s) (ha : Answerable a s) (hpending : PendingFits s) :
    ModulesFit (answerConfirm a payload s) := by
  unfold Machine.answerConfirm
  split
  · exact h.sendReply ha _ _
  · exact h.answered ha (confirmEffect_modulesFit _ h hpending) (confirmEffect_touches _ (by decide) (.refl _ s)) _ _

theorem ModulesFit.answerRestart (h : ModulesFit s) (ha : Answerable a s) : ModulesFit (answerRestart a payload s) := by
  unfold Machine.answerRestart
  split
  · exact h.sendReply ha _ _
  · exact h.answered ha (h.restarted _) (restartEffect_touches _ (by decide) (.refl _ s)) _ _

theorem ModulesFit.answerHistoryRead (h : ModulesFit s) (ha : Answerable a s) :
    ModulesFit (answerHistoryRead a payload s) := by
  unfold Machine.answerHistoryRead
  split <;> exact h.sendReply ha _ _

theorem ModulesFit.answerIdentify (h : ModulesFit s) (ha : Answerable a s) : ModulesFit (answerIdentify a payload s) := by
  unfold Machine.answerIdentify
  split <;> exact h.sendReply ha _ _

theorem ModulesFit.answerStageWrite (h : ModulesFit s) (ha : Answerable a s) :
    ModulesFit (answerStageWrite a payload s) := by
  unfold Machine.answerStageWrite
  split
  · exact h.sendReply ha _ _
  · refine h.answered ha (useFree_modulesFit _ 3 (stageWriteEffect_modulesFit _ _ _ _ h)) ?_ _ _
    split
    · exact useFree_touches _ (by decide) (stageWriteEffect_touches _ _ _ _ (by decide) (.refl _ s))
    · exact stageWriteEffect_touches _ _ _ _ (by decide) (.refl _ s)

theorem ModulesFit.answerStageRead (h : ModulesFit s) (ha : Answerable a s) :
    ModulesFit (answerStageRead a payload s) := by
  unfold Machine.answerStageRead
  split
  · exact h.sendReply ha _ _
  · refine h.answered ha (useFree_modulesFit _ 2 (stageReadEffect_modulesFit _ _ _ _ h)) ?_ _ _
    split
    · exact useFree_touches _ (by decide) (stageReadEffect_touches _ _ _ _ (by decide) (.refl _ s))
    · exact stageReadEffect_touches _ _ _ _ (by decide) (.refl _ s)

theorem ModulesFit.answerActivate (h : ModulesFit s) (ha : Answerable a s) : ModulesFit (answerActivate a payload s) := by
  unfold Machine.answerActivate
  split
  · exact h.sendReply ha _ _
  · exact h.answered ha (activateEffect_modulesFit _ _ _ h) (activateEffect_touches _ _ _ (by decide) (.refl _ s)) _ _

theorem ModulesFit.answerActivateLoop (h : ModulesFit s) (ha : Answerable a s) :
    ModulesFit (answerActivateLoop a payload s) := by
  unfold Machine.answerActivateLoop
  split
  · exact h.sendReply ha _ _
  · exact h.answered ha (activateLoopEffect_modulesFit _ h) (activateLoopEffect_touches _ (by decide) (.refl _ s)) _ _

end

/-! ## Every step -/

/-- Sound tables, and with them ports and slots. -/
def ModulesKept (s : State) : Prop := ConfigSound s ∧ ModulesFit s

theorem modulesKept_rule (may : Port → Byte → Prop) :
    StepRule may ModulesKept ModulesKept ModulesKept ModulesKept ModulesKept :=
  have hC := stepRule_configSound may
  { kept := fun _ h => h
    finished := fun before due u hb h => ⟨hC.finished before due u hb.1 h.1, h.2.finish before due⟩
    proofed := fun before due u hb h => ⟨hC.proofed before due u hb.1 h.1, h.2.finishProof before due⟩
    settled := fun before due u hb h =>
      ⟨hC.settled before due u hb.1 h.1, (h.2.activated h.1.pendingFits).finishProof before due⟩
    heard := fun p kind u hm h => ⟨hC.heard p kind u hm h.1, h.2.portHeard p⟩
    passed := fun p tel u h => ⟨hC.passed p tel u h.1, h.2.passCopy p tel⟩
    mismatched := fun p src u h => ⟨hC.mismatched p src u h.1,
      h.2.frame (noticeRoleMismatch_touches (L := [.fault]) p src (by decide) (.refl _ u))⟩
    stranger := fun p src u h hnew => ⟨hC.stranger p src u h.1 hnew,
      h.2.frame (noticeStranger_touches (L := [.window, .fault]) p src (by decide)
        (State.setWindow_touches _ (by decide) (.refl _ u)))⟩
    wheel := fun d payload u h => ⟨hC.wheel d payload u h.1, h.2.through (Evolves.refl.wheelReport d payload).commands⟩
    heartbeat := fun d payload u h =>
      ⟨hC.heartbeat d payload u h.1, h.2.through (Evolves.refl.heartbeatReport d payload).commands⟩
    lampReport := fun j m chs u h => ⟨hC.lampReport j m chs u h.1,
      h.2.frame (takeLampReport_touches (L := [.lamp, .fault]) j m chs (by decide) (.refl _ u))⟩
    barrierReport := fun j m pos echo u h => ⟨hC.barrierReport j m pos echo u h.1,
      (h.2.through (takeBarrierReport_commands j m pos echo u)).through (Evolves.refl.tellEndedProofs u).commands⟩
    presenceReport := fun j m v u h =>
      ⟨hC.presenceReport j m v u h.1, h.2.through (takePresenceReport_commands j m v u)⟩
    acknowledge := fun a payload u hm ha h => ⟨hC.acknowledge a payload u hm ha h.1, h.2.answerAcknowledge payload ha⟩
    restore := fun a payload u ha h => ⟨hC.restore a payload u ha h.1, h.2.answerRestore payload ha⟩
    confirm := fun a payload u ha h => ⟨hC.confirm a payload u ha h.1, h.2.answerConfirm payload ha h.1.pendingFits⟩
    restart := fun a payload u hm ha h => ⟨hC.restart a payload u hm ha h.1, h.2.answerRestart payload ha⟩
    historyRead := fun a payload u ha h => ⟨hC.historyRead a payload u ha h.1, h.2.answerHistoryRead payload ha⟩
    identify := fun a payload u ha h => ⟨hC.identify a payload u ha h.1, h.2.answerIdentify payload ha⟩
    stageWrite := fun a payload u ha h => ⟨hC.stageWrite a payload u ha h.1, h.2.answerStageWrite payload ha⟩
    stageRead := fun a payload u ha h => ⟨hC.stageRead a payload u ha h.1, h.2.answerStageRead payload ha⟩
    activate := fun a payload u ha h => ⟨hC.activate a payload u ha h.1, h.2.answerActivate payload ha⟩
    activateLoop := fun a payload u ha h => ⟨hC.activateLoop a payload u ha h.1, h.2.answerActivateLoop payload ha⟩
    detectorSilence := fun d r u h hr hdue =>
      ⟨hC.detectorSilence d r u h.1 hr hdue, h.2.through (Evolves.refl.detectorSilent d r).commands⟩
    entryGap := fun i r u h hr hdue =>
      ⟨hC.entryGap i r u h.1 hr hdue, h.2.through (Evolves.refl.closeEntry i).commands⟩
    scheduledStart := fun i r u h hr hdue =>
      ⟨hC.scheduledStart i r u h.1 hr hdue, h.2.through (Evolves.refl.startReached i).commands⟩
    amber := fun u h hdue => ⟨hC.amber u h.1 hdue, h.2.through (Move.redFlash hdue).commands⟩
    red := fun u h hdue => ⟨hC.red u h.1 hdue, h.2.through (Evolves.refl.leaveRedFlash hdue).commands⟩
    exitDelay := fun u h hdue => ⟨hC.exitDelay u h.1 hdue, h.2.through (Evolves.refl.startExitLowering hdue).commands⟩
    longClosure := fun u h hdue => ⟨hC.longClosure u h.1 hdue, h.2.through (Move.longClosure hdue).commands⟩
    lampSilence := fun j u h => ⟨hC.lampSilence j u h.1,
      h.2.frame (lampModuleSilence_touches (L := [.lamp, .fault]) j (by decide) (.refl _ u))⟩
    proving := fun b r u h hr hdue => ⟨hC.proving b r u h.1 hr hdue,
      (h.2.through (expireProof_commands b u)).through (Evolves.refl.tellEndedProofs u).commands⟩
    barrierSilence := fun j u h => ⟨hC.barrierSilence j u h.1,
      (h.2.through (barrierModuleSilence_commands j u)).through (Evolves.refl.tellEndedProofs u).commands⟩
    presenceSilence := fun j u h => ⟨hC.presenceSilence j u h.1, h.2.through (presenceModuleSilence_commands j u)⟩
    exitWait := fun b r u h hr hdue => ⟨hC.exitWait b r u h.1 hr hdue, h.2.through (expireExitWait_commands b u)⟩
    statusPeriod := fun u h => ⟨hC.statusPeriod u h.1,
      h.2.frame (nextStatusPeriod_touches (L := [.fault, .statusPeriod]) (by decide) (.refl _ u))⟩
    activation := fun _ h => h
    portSilence := fun p u h => ⟨hC.portSilence p u h.1, h.2.portGoesDown p⟩
    idle := fun p u h => ⟨hC.idle p u h.1, h.2.idleReached p⟩
    transmission := fun p u h hs => ⟨hC.transmission p u h.1 hs, h.2.transmissionDone p⟩
    refresh := fun u h => ⟨hC.refresh u h.1, h.2.refreshBlock⟩ }

theorem modulesFit_of_sound (h : ConfigSound s) (hslots : SlotsSound s) (hports : PortsSound s) : ModulesFit s := by
  have hlength : s.cmd.slots.length ≤ 8 := by
    rw [hslots]
    exact (List.length_map _).trans_le h.equipmentFits.few
  exact ⟨⟨portsSound_iff.mp hports, hlength⟩, ⟨h.equipmentFits, hslots.trans (slotsOf_eq s)⟩⟩

theorem modulesKept_step (h : ModulesKept s) (ht : step s = .next t) : ModulesKept t := by
  refine (modulesKept_rule _).step (fun strap u _ => ?_) (fun l u hu => ?_) (fun u hu => ?_) h ht
  · have hconfig := hardwareReset_configSound strap u
    have houtputs : outputModules safetyEmpty.equipment = [] := by decide
    refine ⟨hconfig, modulesFit_of_sound hconfig ?_ ⟨rfl, rfl⟩⟩
    show [] = (outputModules safetyEmpty.equipment).map _
    rw [houtputs]
    rfl
  · exact ⟨hu.1.of_same rfl rfl, hu.2.still ⟨rfl, fun p => State.setPending_port l u p, rfl, rfl, rfl⟩⟩
  · exact ⟨hu.1.of_same rfl rfl, hu.2.still ⟨rfl, fun p => State.setTimebase_port _ u p, rfl, rfl, rfl⟩⟩

/-! ## The stranger list -/

theorem joinStrangers_sound {l : List Addr} {src : Addr} (hlen : l.length ≤ 16) (hn : l.Nodup) (hnew : src ∉ l) :
    (joinStrangers l src).length ≤ 16 ∧ (joinStrangers l src).Nodup := by
  have hkept : ∀ m : List Addr, m.Sublist l → (m ++ [src]).Nodup := fun m hm =>
    List.nodup_append.mpr ⟨hn.sublist hm, List.nodup_singleton src, fun x hx y hy hxy =>
      hnew (List.mem_singleton.mp hy ▸ hxy ▸ hm.subset hx)⟩
  unfold joinStrangers strangerLimit
  split
  · refine ⟨?_, hkept _ (List.drop_sublist ..)⟩
    rw [List.length_append, List.length_drop, List.length_singleton]
    omega
  · refine ⟨?_, hkept _ (List.Sublist.refl l)⟩
    rw [List.length_append, List.length_singleton]
    omega

theorem StrangersSound.of_strangers (h : StrangersSound s) (hs : t.window.strangers = s.window.strangers) :
    StrangersSound t := by
  rwa [StrangersSound, hs]

theorem StrangersSound.frame (h : StrangersSound s) {L : List Block} (hT : Touches L s t) (hL : .window ∉ L := by decide) :
    StrangersSound t := h.of_strangers (by rw [hT.window_eq hL])

theorem StrangersSound.answerActivateLoop (h : StrangersSound s) (a : Arrival) (payload : List Byte) :
    StrangersSound (answerActivateLoop a payload s) := by
  have hsent : ∀ {u} kind pl, StrangersSound u → StrangersSound (sendReply a kind pl u) := fun kind pl hu =>
    hu.frame (sendReply_touched a kind pl _)
  unfold Machine.answerActivateLoop activateLoopEffect
  split
  · exact hsent _ _ h
  · refine hsent _ _ ?_
    split
    · exact h
    · exact h.of_strangers rfl

theorem strangersSound_step (h : StrangersSound s) (ht : step s = .next t) : StrangersSound t := by
  have hrule : StepRule (fun _ _ => True) StrangersSound StrangersSound StrangersSound StrangersSound StrangersSound :=
    stepRule_of_offConfig _ (fun hT h => h.frame hT)
      (fun u h => h.frame (activateIfQuiescent_touches (L := .config :: offConfigBlocks) (by decide) (.refl _ u)))
      (fun _ _ hnew h => joinStrangers_sound h.1 h.2 hnew) (fun _ _ => ⟨Nat.zero_le 16, List.nodup_nil⟩)
      (fun a payload u h => h.frame (answerConfirm_touches (L := .config :: offConfigBlocks) a payload (by decide)
        (.refl _ u)))
      (fun a payload u h => h.frame (answerRestart_touches (L := .config :: offConfigBlocks) a payload (by decide)
        (.refl _ u)))
      (fun a payload u h => h.frame (answerStageWrite_touches (L := .config :: offConfigBlocks) a payload (by decide)
        (.refl _ u)))
      (fun a payload u h => h.frame (answerStageRead_touches (L := .config :: offConfigBlocks) a payload (by decide)
        (.refl _ u)))
      (fun a payload u h => h.frame (answerActivate_touches (L := .config :: offConfigBlocks) a payload (by decide)
        (.refl _ u)))
      (fun a payload _ h => h.answerActivateLoop a payload)
  exact hrule.step (fun _ _ _ => ⟨Nat.zero_le 16, List.nodup_nil⟩) (fun _ _ hu => hu.of_strangers rfl)
    (fun _ hu => hu.of_strangers rfl) h ht

/-- Settles O60: slots change as what is commanded does, a queue is joined only where it has room on an UP port, and the
stranger list grows only by a source that is new to it. -/
theorem portsKept : Obligations.PortsKept := by
  refine ⟨fun s t hstaged hactivation htables hslots hports ht => ?_, fun _ _ h ht => strangersSound_step h ht⟩
  have hconfig : ConfigSound s := ⟨hstaged, hactivation, htables⟩
  obtain ⟨-, hfit⟩ := modulesKept_step ⟨hconfig, modulesFit_of_sound hconfig hslots hports⟩ ht
  exact ⟨hfit.slots.slots.trans (slotsOf_eq t).symm, portsSound_iff.mpr hfit.block.ports⟩

end

end Sys2Proof.Machine
end
